-- ==== Sys2Proof/Word.lean ====
section
/-! DEFINITION. The machine word and the other plain value types of the AF9144 model. -/
namespace Sys2Proof

/-- A register: 32 bits (00_scope.md R15). -/
abbrev Word := BitVec 32

/-- A byte of acquisition memory or of a message. -/
abbrev Byte := BitVec 8

/-- The 24-bit fabric word (02_handshake_fabric.md R45): DATA in [23:6], then FLT, SOP, SETTLE, GAP, OVR, TRG. -/
abbrev FWord := BitVec 24

/-- A bit field of a register: its lowest bit and its width. -/
structure Fld where
  lo : Nat
  w  : Nat
  deriving DecidableEq, Repr

end Sys2Proof
end

