-- ==== Sys2Proof/Syntax.lean ====
section
/-! DEFINITION. The commands of the block: one constructor per row of spec/opcode_table.json, in the table's order.
An operand stands for what reaches the device from outside with the step (which port, an address, a message's bytes,
a converted sample) or for an outcome the spec leaves to the part's physics (a measured value, an error that occurs). -/
namespace Sys2Proof

/-- Four measured errors or trims: offset, gain, skew, bandwidth (04_interleave_calibration.md R93, R95). Trims are in
trim steps, measured errors in 1/256 trim step. -/
structure Quad where
  ofs  : Int := 0
  gain : Int := 0
  skew : Int := 0
  bw   : Int := 0
  deriving DecidableEq, Repr

/-- One conversion of a fast port: its 12-bit slice code, and the decision of the over-range comparators: 0 in range, 1 at or
beyond the positive edge, 2 beyond the negative edge (03_fast_inputs.md R78, R79). -/
structure Sample where
  code : BitVec 12
  rail : Fin 3
  deriving DecidableEq, Repr

/-- What the SPD hubs of a channel say (11_acquisition_memory.md R276, R277, R279): DIMMs found, size of each in GiB, rank
organisation, highest rated multiplier of the slowest DIMM; whether the DIMMs are identical RDIMMs with ECC. -/
structure Spd where
  dimms : Nat
  gib   : Nat
  ranks : Nat
  rated : Nat
  fits  : Bool
  deriving DecidableEq, Repr

/-- A memory request (11_acquisition_memory.md R289 to R296): address, bytes to write (none: a read of `len` bytes),
requester code, bank and row activated for it as MCH_RH_ROW lays them out, the outcome of the ECC of the first line read
(0 good, 1 corrected, 2 uncorrectable), and whether a write stays in the channel's queue for now. -/
structure Access where
  addr   : Nat
  len    : Nat
  data   : Option (List Byte)
  req    : BitVec 16
  row    : Option Word
  ecc    : Fin 3
  queued : Bool
  deriving DecidableEq, Repr


/-- A message cell of the chain as received (16_eweone_chain.md R402): SRC, LSEQ and the ten payload bytes. -/
structure Cell where
  src  : Byte
  lseq : Byte
  data : List Byte
  deriving DecidableEq, Repr

/-- What the link and the MAC find as an interface's link comes up, or later while it is up (15_host_link.md R369, R400): the eye of
each lane in 1/256 UI, a byte a lane; whether the partner negotiates by Clause 73; the codes of HLK_CTL.MODE whose PHY it offers, and
the codes of FEC25 that it offers. -/
structure LinkNote where
  eye  : Word
  an   : Bool := true
  phys : List (Fin 4) := [0, 1, 2, 3]
  fecs : List (Fin 3) := [0, 1, 2]
  deriving DecidableEq, Repr

/-- A BTP message as received (15_host_link.md R373, R375, R379): interface, over IPv6, header fields FLAGS, SESSION and SEQ, payload
(of a COMMAND: the payload after OP), and the tag where AUTH = 1. MAGIC, VERSION and LENGTH are right, and TYPE and OP are those
of the command. Its datagram: the UDP port it is for (none: another protocol), and whether it is a fragment. -/
structure Msg where
  iface : Fin 4
  v6    : Bool
  flags : BitVec 16
  sess  : BitVec 32
  seq   : BitVec 32
  data  : List Byte
  tag   : List Byte
  port  : Option (BitVec 16) := some 47150
  frag  : Bool := false
  deriving DecidableEq, Repr

/-- An IEEE 1588 event message (15_host_link.md R374; 16_eweone_chain.md R422): interface, received or sent, PTP domain, the message's
bytes, its residence time in the correction field's unit where it is forwarded, the mapping (tick, seconds, nanoseconds, rate) that the
servo of a slave forms with it, where it forms one, and how many ticks into the present control cycle its start-of-frame delimiter
passed the balls. -/
structure PtpMsg where
  iface    : Fin 4
  received : Bool
  domain   : Byte
  data     : List Byte
  resid    : BitVec 48
  mapping  : Option (BitVec 64 × BitVec 48 × BitVec 30 × Word)
  sub      : Fin 128 := 0
  deriving DecidableEq, Repr

/-- What overload detectors of precision converters saw: whether the one of a result's own conversion interval tripped
(08_precision_inputs.md R215), and the overloads that have begun since the last result reported, each as a converter and how many
ticks before the present one it began (R218). -/
structure Overloads where
  trip   : Bool
  onsets : List (Fin 24 × Nat) := []
  deriving DecidableEq, Repr

/-- Records of the non-volatile store that fail their CRC as boot reads them (17_configuration_images.md R427, R428, R445). `settings`: an
entry for each failing record of a saved register, by its address, the latest record of it first. `trims`: the converters whose precision
trims fail. `factory`: some factory record fails in the primary copy and in the mirror. `fields`: an entry for each failing copy of a
port's field trim set, the newer first. `addr`, `key`: how many latest records of the chain address and of the device key fail. `keys`: an
entry for each failing record of an integrator key, the latest first. -/
structure BadRecords where
  settings : List Nat
  trims    : List (Fin 24) := []
  factory  : Bool := false
  fields   : List (Fin 16) := []
  addr     : Nat := 0
  key      : Nat := 0
  keys     : List (Fin 4) := []
  deriving DecidableEq, Repr


/-- The commands. Each constructor's text is its row's summary in spec/opcode_table.json. -/
inductive Instr where
  /-- REGISTER_WRITE (R19). A host write to a register that has no row of its own is checked, then refused, gated or applied to the register's fields. -/
  | registerWrite (a v sess : Word) (auth : Bool)
  /-- MEASUREMENT_WINDOW_END (R54). At the end of each 2^20-tick window every sentinel writes its corrected count and sequence into FAB_SENTs. -/
  | measurementWindowEnd (readings : List Nat) (meas : BitVec 10)
  /-- PLANNER_ACTION (R60). At every PERIOD-th window end the planner compares the worst margin with its thresholds and chooses the next VDDC target. -/
  | plannerAction
  /-- AVS_WRITE_ACK (R62). An AVSBus write completes, acknowledged or not; a failure increments FAB_AVS_ERRCNT and schedules a retry. -/
  | avsWriteAck (ok : Bool)
  /-- AVS_RETRY (R62). One window after a failed AVSBus write the planner sends it again. -/
  | avsRetry
  /-- SETTLING_END (R60). SETTLE windows after the last attempt of a VDDC step, FAB_STATUS.SETTLING clears. -/
  | settlingEnd
  /-- FAB_VLIMIT_WRITE (R61). A write of new VDDC limits may move the target to the nearer limit in one step. -/
  | fabVlimitWrite (v : Word)
  /-- PORT_ENABLE (R88). A write of ENABLE = 1 on an OFF fast port moves it to POWERING and powers its front end. -/
  | portEnable (n : Fin 16) (v : Word)
  /-- PORT_READY (R88). At the first frame boundary after the port is ready, it enters RUNNING and delivers sample 0, loading START_TS. -/
  | portReady (n : Fin 16)
  /-- PORT_DISABLE (R89). A write of ENABLE = 0 ends a RUNNING port's stream at the next frame boundary, or returns a POWERING port to OFF. -/
  | portDisable (n : Fin 16) (v : Word)
  /-- PORT_STOP (R89). At the frame boundary after a disable the port's stream ends, STOP_TS is loaded and the port reads OFF. -/
  | portStop (n : Fin 16)
  /-- FRAME_BOUNDARY (R72). A 1,024-tick frame boundary passes; a running port hands its 64 samples to the fabric as words on its phase lanes. -/
  | frameBoundary (conv : List (Nat × List Sample))
  /-- CAPTURE_DISCARD (R29). A word that finds its lane's capture buffer full is discarded, the lane's lost count increments and the next word carries GAP. -/
  | captureDiscard (n lane : Fin 16)
  /-- OVR_HARD (R82). A hard comparator trips beyond twice full scale and FCH_FLAGS.OVR_HARD sets. -/
  | ovrHard (n : Fin 16)
  /-- FCH_CLR_LOST (R92). Writing CLR_LOST clears FCH_LOSTCNT and every lane lost count. -/
  | fchClrLost (n : Fin 16)
  /-- FCH_CLR_OVR (R92). Writing CLR_OVR clears FCH_OVRCNT. -/
  | fchClrOvr (n : Fin 16)
  /-- STEP_DUE (R103). A scheduled calibration step of a port falls due at a tick count fixed by the interval. -/
  | stepDue (q : Fin 16)
  /-- STEP_RELEASE (R105). A held step is released at the first frame boundary after the group leaves the holding states. -/
  | stepRelease (q : Fin 16)
  /-- DEFER_EXPIRED (R105). A step held for DEFER_MAX seconds is released at once and DEFER_EXPIRED sets. -/
  | deferExpired (q : Fin 16)
  /-- STEP_START (R104). A waiting step begins at the first frame boundary at which its tile is free, in port-index order. -/
  | stepStart (t : Fin 4)
  /-- STEP_END (R95). At the end of an ordinary step the two measurements are judged and the trims corrected or kept, and the port delivers again with GAP. -/
  | stepEnd (t : Fin 4) (e1 e2 : Quad)
  /-- SPARE_SWAP (R100). At frame 1,536 of a guarded step the spare replaces the slice if SHADOW_IN agreed, or the step ends without a swap. -/
  | spareSwap (t : Fin 4) (e1 e2 : Quad)
  /-- STAND_IN_END (R100). At frame 3,072 the measured slice is reconnected to the balls and RETURN begins. -/
  | standInEnd (t : Fin 4) (e1 e2 : Quad)
  /-- SLICE_RESUME (R100). At frame 3,136 the slice resumes its place with new or kept trims and GSTEPCNT increments. -/
  | sliceResume (t : Fin 4)
  /-- FCAL_STEP (R106). Command STEP requests one step of the port's current slice as soon as the tile is free. -/
  | fcalStep (q : Fin 16)
  /-- FCAL_FULL (R106). Command FULL runs a full cycle of the port step after step without pause. -/
  | fcalFull (q : Fin 16)
  /-- RESTORE_FACTORY (R106). Command RESTORE_FACTORY replaces the field trim set with the factory set and reloads a running port. -/
  | restoreFactory (q : Fin 16)
  /-- FCAL_ABORT (R107). Command ABORT abandons the port's running or waiting step or FULL. -/
  | fcalAbort (q : Fin 16)
  /-- ABORT_RESUME (R107). At the 64th frame boundary after an abort of an ordinary step the port delivers again with GAP. -/
  | abortResume (t : Fin 4)
  /-- CHAIN_ENABLE (R138). A write of DCF ENABLE = 1 moves a stopped chain to WAITING. -/
  | chainEnable (n : Fin 32) (v : Word)
  /-- CHAIN_DISABLE (R138). A write of DCF ENABLE = 0 ends the chain's output at once and moves it to STOPPED. -/
  | chainDisable (n : Fin 32) (v : Word)
  /-- CHAIN_WORD (R114). A filter chain takes an input word and passes it through its DC blocker, half-band stages and resampler. -/
  | chainWord (n : Fin 32)
  /-- DCB_BLOCK_END (R119). At the end of a blocker block the block mean updates the DC estimate unless FREEZE holds it. -/
  | dcbBlockEnd (n : Fin 32)
  /-- SETTLING_COMPLETE (R133). SETTLE_LEFT reaches 0, SETTLED sets and the chain enters RUNNING. -/
  | settlingComplete (n : Fin 32)
  /-- DCF_SYNC (R137). Command SYNC causes a synchronising reset at the next input word. -/
  | dcfSync (n : Fin 32)
  /-- DCF_SYNC_AT (R137). Command SYNC_AT schedules a synchronising reset at the first word named at or after SYNC_TS. -/
  | dcfSyncAt (n : Fin 32)
  /-- SYNC_AT_REACHED (R132). The first input word named at or after a pending SYNC_AT instant arrives and the reset takes effect. -/
  | syncAtReached (n : Fin 32)
  /-- TRU_WORD (R143). A trigger unit takes a source word and looks for qualified crossings and its type's condition. -/
  | truWord (u : Fin 32)
  /-- HOLDOFF_END (R159). The time holdoff after a delivered trigger expires and the unit returns to READY. -/
  | holdoffEnd (u : Fin 32)
  /-- FORCE (R160). Command FORCE delivers a trigger timestamped at acceptance, bypassing dead time and holdoff. -/
  | force (u : Fin 32)
  /-- CLEAR_HOLD (R159). Command CLEAR_HOLD ends the present holdoff. -/
  | clearHold (u : Fin 32)
  /-- TRU_CNTCLR (R167). Writing TRU_CNTCLR clears the unit's four counts. -/
  | truCntclr (u : Fin 32)
  /-- CHAIN_TRIGGER_RELEASE (R153). At a chain trigger message's release instant the CHAIN units on its line take it as a condition. -/
  | chainTriggerRelease
  /-- TRIGGER_TAKEN (R162). The group takes a delivered trigger at its timestamp plus the alignment latency and judges it by its state. -/
  | triggerTaken (g : Fin 16)
  /-- ARM (R36). Command ARM moves the named groups to ARMING, checking areas, lock and readiness. -/
  | arm (m : Msg)
  /-- HALT (R36). Command HALT moves ARMED or FILLING groups to HALTING, truncating an open polder. -/
  | halt (m : Msg)
  /-- STOP (R36). Command STOP moves the named groups to STOPPED, closing an open polder STOPPED. -/
  | stop (m : Msg)
  /-- ARMING_COMPLETE (R36). When every enabled member holds its pre-trigger length and settling, the group moves to ARMED. -/
  | armingComplete (g : Fin 16)
  /-- POLDER_CLOSE (R177). At B plus the alignment latency the polder closes logically and the group moves on. -/
  | polderClose (g : Fin 16)
  /-- POLDER_SEAL (R181). Once every write of a closed polder has reached memory the dike is written SEALED; the last seal ends HALTING. -/
  | polderSeal (g : Fin 16)
  /-- POLDER_WORD (R174). The polder manager takes a stored stream's word, decimates it and routes it by name into a slot's ring. -/
  | polderWord (k : Fin 128) (credit : Bool)
  /-- SLUICE_REOPEN (R188). Spillway occupancy falls to POL_SPILL_RESUME and the sluice reopens. -/
  | sluiceReopen
  /-- SLOT_RELEASE (R182). Writing a slot number to POL_GgRELEASE rewrites a sealed dike as EMPTY. -/
  | slotRelease (g : Fin 16) (v : Word)
  /-- POL_CNTCLR (R196). Writing POL_CNTCLR clears the sluice and group lost counts. -/
  | polCntclr
  /-- WAC_CAPTURE_END (R190). An accumulator capture of L words ends and is rejected or merged. -/
  | wacCaptureEnd (n : Fin 16)
  /-- WAC_MERGE_END (R190). A merge into the accumulator ends and COUNT and OFFSUM advance. -/
  | wacMergeEnd (n : Fin 16)
  /-- WAC_FLUSH (R193). Command FLUSH writes the accumulator's present result. -/
  | wacFlush (n : Fin 16)
  /-- WAC_CLEAR (R194). Command CLEAR empties the accumulator and counts and returns the unit to IDLE. -/
  | wacClear (n : Fin 16)
  /-- PCV_ENABLE (R226). A write of ENABLE = 1 powers a converter and loads its trims. -/
  | pcvEnable (k : Fin 24) (v : Word)
  /-- PCV_READY (R226). The converter finishes powering and becomes IDLE; a FREE converter begins its pass. -/
  | pcvReady (k : Fin 24)
  /-- PCV_DISABLE (R226). A write of ENABLE = 0 ends the converter at the next modulator edge and makes it OFF. -/
  | pcvDisable (k : Fin 24) (v : Word)
  /-- PCV_START (R209). Command START requests a pass at the first modulator edge after the delay. -/
  | pcvStart (k : Fin 24)
  /-- PCV_URGENT (R212). Command URGENT requests the urgent entry ahead of everything else. -/
  | pcvUrgent (k : Fin 24)
  /-- PCV_ABORT (R214). Command ABORT ends any pass, urgent entry and queued start at the next modulator edge. -/
  | pcvAbort (k : Fin 24)
  /-- CLEAR_QUEUE (R214). Command CLEAR_QUEUE discards a queued start. -/
  | clearQueue (k : Fin 24)
  /-- PCV_CNTCLR (R228). Writing PCV_CNTCLR clears the converter's four counts. -/
  | pcvCntclr (k : Fin 24)
  /-- PCV_TIMER_DUE (R210). A timer due instant arises at a modulator edge matching period and phase. -/
  | pcvTimerDue (k : Fin 24)
  /-- START_TAKES_EFFECT (R209). A start reaches its modulator edge and begins a pass, is queued, or is dropped as an overrun. -/
  | startTakesEffect (k : Fin 24)
  /-- URGENT_TAKES_EFFECT (R212). At its modulator edge an urgent request interrupts the entry run and runs the urgent entry. -/
  | urgentTakesEffect (k : Fin 24)
  /-- URGENT_ENTRY_END (R212). The urgent entry ends and the interrupted entry resumes for its remaining results. -/
  | urgentEntryEnd (k : Fin 24)
  /-- RESULT_COMPLETE (R205). A precision result is complete and delivered as a unit with its marks. -/
  | resultComplete (k : Fin 24) (v : Int) (trip : Overloads)
  /-- RING_RESUME (R225). With 4 units free the ring resumes writing with a RESYNC marker. -/
  | ringResume (k : Fin 24)
  /-- ENTRY_RUN_END (R207). An entry run ends at its last result and the next entry, queued pass or IDLE follows. -/
  | entryRunEnd (k : Fin 24)
  /-- REF_DRIFT_UPDATE (R221). Each 1 s interval the reference drift and margin are reported and REF flags may set. -/
  | refDriftUpdate (drift : Int)
  /-- STO_ENABLE (R238). A write of ENABLE = 1 moves a stimulus output to PRIMING. -/
  | stoEnable (n : Fin 16) (v : Word)
  /-- STO_DISABLE (R243). A write of ENABLE = 0 sends the output to mid-scale and OFF. -/
  | stoDisable (n : Fin 16) (v : Word)
  /-- PRIME_COMPLETE (R238). The prime buffer holds its required words and the output becomes ARMED. -/
  | primeComplete (n : Fin 16)
  /-- STO_START (R230). Command START triggers a play placed 41.0 ns after acceptance. -/
  | stoStart (n : Fin 16)
  /-- START_AT (R230). Command START_AT places a play at the instant held in STO_AT_TS. -/
  | startAt (n : Fin 16)
  /-- STO_STOP (R241). Command STOP schedules the output's stop at acceptance plus 41.0 ns. -/
  | stoStop (n : Fin 16)
  /-- PLAY_START (R229). At the placement instant the output begins PLAYING the waveform. -/
  | playStart (n : Fin 16)
  /-- PLAY_END (R239). A play ends after its length and tail and the output re-arms or primes again. -/
  | playEnd (n : Fin 16)
  /-- STOP_TAKES_EFFECT (R241). At the stop instant words take the IDLE value and plays placed later are cancelled. -/
  | stopTakesEffect (n : Fin 16)
  /-- UNDERRUN (R242). A word not delivered by its waveform instant is replaced by IDLE with FLT and counted. -/
  | underrun (n : Fin 16)
  /-- STO_CNTCLR (R252). Writing STO_CNTCLR clears the output's four counts. -/
  | stoCntclr (n : Fin 16)
  /-- TP_EDGE (R245). An edge at a timing-port input is timestamped and delivered to units, FIFO, log and event source. -/
  | tpEdge (p : Fin 16) (back : Fin 128) (rise : Bool)
  /-- FIFO_INFO_READ (R250). Reading TPT_FIFO_INFO returns the oldest edge and removes it. -/
  | fifoInfoRead (p : Fin 16)
  /-- FIRE (R246). Command FIRE starts a train placed 41.0 ns after acceptance. -/
  | fire (p : Fin 16)
  /-- FIRE_AT (R230). Command FIRE_AT places a train at the instant held in TPT_AT_TS. -/
  | fireAt (p : Fin 16)
  /-- TPT_STOP (R247). Command STOP cancels every train edge at or after acceptance plus 41.0 ns. -/
  | tptStop (p : Fin 16)
  /-- TRAIN_EDGE (R246). An active or return edge of a train is placed at its tick and the train ends after COUNT pulses. -/
  | trainEdge (p : Fin 16)
  /-- TPT_CNTCLR (R253). Writing TPT_CNTCLR clears the port's four counts. -/
  | tptCntclr (p : Fin 16)
  /-- SPLL_LOSS (R265). Loss of SPLL lock is declared at the fourth bad reference cycle in 16, stopping triggers and faulting active groups. -/
  | spllLoss (back : BitVec 24) (lost : Bool)
  /-- TIMEBASE_FREEZE (R265). At the first frame boundary after the loss the SPLL outputs are gated and the tick counter frozen. -/
  | timebaseFreeze (conv : List (Nat × List Sample))
  /-- SPLL_LOCK (R262). After 4,096 consecutive good cycles the SPLL declares lock. -/
  | spllLock
  /-- SPLL_RELEASE (R267). 256 reference cycles after lock the outputs are released, the counter resumes and CKS_EPOCH increments. -/
  | spllRelease
  /-- RELOCK_TIMEOUT (R262). The SPLL has not locked 10 ms after a loss or commanded relock and RELOCK_TIMEOUT sets. -/
  | relockTimeout
  /-- RELOCK (R269). Command RELOCK makes a commanded relock of the SPLL. -/
  | relock
  /-- REF_CTL_WRITE (R269). A write of CKS_REF_CTL changing SRC or REFSEL makes a commanded relock; FALLBACK alone acts at once. -/
  | refCtlWrite (v : Word)
  /-- CHAIN_REFERENCE_MOVE (R271). After boot, once the chain reference is good and no group is active, the device makes its one relock to CHAIN. -/
  | chainReferenceMove
  /-- MREF_RETURN (R273). Command MREF_RETURN takes each MDLL on the HKO back to MREF one channel at a time. -/
  | mrefReturn
  /-- MDLL_CTL_WRITE (R273). A write changing MULT or MREF is accepted only while the channel is in self-refresh or uninitialised. -/
  | mdllCtlWrite (m : Fin 8) (v : Word)
  /-- MDLL_LOSS (R272). An MDLL loses lock, holds its delay line and its channel enters self-refresh. -/
  | mdllLoss (m : Fin 8)
  /-- MDLL_HOLDOVER_END (R272). The 2 µs holdover ends and the MDLL begins to relock to MREF or the HKO. -/
  | mdllHoldoverEnd (m : Fin 8)
  /-- MDLL_LOCK (R262). After 1,024 good cycles an MDLL declares lock. -/
  | mdllLock (m : Fin 8)
  /-- MDLL_RELEASE (R264). The MDLL clock is released after its hold and the reduced retrain begins. -/
  | mdllRelease (m : Fin 8)
  /-- MDLL_FAIL (R272). The 150 µs budget is exceeded, MDLL_FAIL sets and a channel fault follows. -/
  | mdllFail (m : Fin 8)
  /-- HL_HOLDOVER (R274). REFCLK is lost and the host-link PLL enters holdover. -/
  | hlHoldover
  /-- HL_RELOCK (R274). REFCLK returns and the host-link PLL relocks without loss of the link. -/
  | hlRelock
  /-- MCH_INIT (R282). Command INIT re-initialises the channel through its training phases. -/
  | mchInit (m : Fin 8)
  /-- TRAINING_PHASE_END (R281). A channel initialisation phase completes or fails and the next phase begins. -/
  | trainingPhaseEnd (m : Fin 8) (ok : Bool) (spd : Spd) (rd wr : BitVec 8)
  /-- REDUCED_RETRAIN_END (R284). A reduced retrain ends; the channel serves again or faults if an eye is too narrow. -/
  | reducedRetrainEnd (m : Fin 8) (rd wr : BitVec 8)
  /-- SR_ENTER (R297). Command SR_ENTER puts the channel into self-refresh. -/
  | srEnter (m : Fin 8)
  /-- SR_EXIT (R297). Command SR_EXIT takes the channel out of self-refresh. -/
  | srExit (m : Fin 8)
  /-- SR_IDLE_EXPIRY (R297). With IDLE_SR set the channel has been idle for SR_IDLE µs and enters self-refresh. -/
  | srIdleExpiry (m : Fin 8)
  /-- MEMORY_ACCESS (R289). A channel accepts a read or write request and serves it, holding reads behind matching writes. -/
  | memoryAccess (a : Access)
  /-- RAW_WAIT_END (R289). A read held for matching writes is released once they reach the DRAM. -/
  | rawWaitEnd (m : Fin 8)
  /-- REFRESH_WINDOW_END (R296). A 32 ms refresh window ends, resetting row counts and ending throttling. -/
  | refreshWindowEnd (m : Fin 8)
  /-- SCRUB_READ (R293). Every scrub interval the patrol reads one line, writing back corrected data. -/
  | scrubRead (m : Fin 8) (ecc : Fin 3)
  /-- CA_PARITY_ALERT (R294). A DIMM asserts ALERT_n and the controller replays its retry buffer. -/
  | caParityAlert (m : Fin 8) (again : Bool)
  /-- DIMM_TEMP_READ (R301). Every 32 ms the DIMM temperatures are read and refresh rate or DRAM_HOT adjusted. -/
  | dimmTempRead (m : Fin 8) (t0 t1 : BitVec 16)
  /-- MCH_CNTCLR (R303). Writing MCH_CNTCLR clears every count of the block except SCRUB_PASS. -/
  | mchCntclr (m : Fin 8)
  /-- DMA_START (R306). Command START copies ENTRY into PC and runs the flow. -/
  | dmaStart (f : Fin 8192)
  /-- DMA_STOP (R324). Command STOP ends the flow's bursts, writes its MOVE BAD STOPPED and makes it IDLE. -/
  | dmaStop (f : Fin 8192)
  /-- DMA_RESUME (R325). Command RESUME restarts a parked flow once its domains are powered. -/
  | dmaResume (f : Fin 8192)
  /-- SEM_ADD (R327). A write of DMA_SEM_ADD adds COUNT to a flow's semaphore. -/
  | semAdd (f : Fin 8192) (n : BitVec 16)
  /-- DMA_CNTCLR (R329). Writing DMA_CNTCLR clears DMA_BADCNT and every flow BADCNT. -/
  | dmaCntclr
  /-- FETCH_FAILURE (R308). An instruction fetch fails and the flow stops in ERROR with cause FETCH. -/
  | fetchFailure (f : Fin 8192)
  /-- MOVE (R310). A MOVE instruction is executed and its bursts issued. -/
  | moveOp (f : Fin 8192)
  /-- LOOP (R311). A LOOP instruction updates its counter and branches or falls through. -/
  | loopOp (f : Fin 8192)
  /-- WAIT (R312). A WAIT instruction continues or holds the flow WAITING on a semaphore or time. -/
  | waitOp (f : Fin 8192)
  /-- WAIT_SATISFIED (R312). The condition of a waiting flow is met and it continues. -/
  | waitSatisfied (f : Fin 8192)
  /-- SIGNAL (R313). A SIGNAL instruction adds to a semaphore and raises DMA_SIG after earlier writes are visible. -/
  | signalOp (f : Fin 8192)
  /-- END (R313). An END instruction may raise DMA_SIG and moves the flow to DONE. -/
  | endOp (f : Fin 8192)
  /-- BURST_COMPLETE (R318). A DMA burst completes its read and write. -/
  | burstComplete (f : Fin 8192)
  /-- CMP_SUBMIT_START (R332). A write of CMP_SUBMIT_HI with OP START queues a job or is refused with QUEUE_FULL. -/
  | cmpSubmitStart (n : Fin 8) (hi : BitVec 9)
  /-- CMP_SUBMIT_RESUME (R342). A write of CMP_SUBMIT_HI with OP RESUME queues a stopped job to continue. -/
  | cmpSubmitResume (n : Fin 8) (hi : BitVec 9)
  /-- CMP_ABORT (R343). Command ABORT stops the running job at the next group boundary. -/
  | cmpAbort (n : Fin 8)
  /-- CMP_FLUSH (R343). Command FLUSH aborts the running job and marks every queued descriptor ABORTED. -/
  | cmpFlush (n : Fin 8)
  /-- CMP_CNTCLR (R347). Writing CMP_CNTCLR clears JOBCNT and ERRCNT. -/
  | cmpCntclr (n : Fin 8)
  /-- JOB_START (R332). An engine takes its next job, checks the descriptor and writes RUNNING or a refusal. -/
  | jobStart (n : Fin 8)
  /-- GROUP_COMMIT (R341). A coded group is committed to the output and the job context updated. -/
  | groupCommit (n : Fin 8)
  /-- JOB_COMPLETE (R344). After the trailer is committed the job completes OK, INCOMPRESSIBLE or NOT_SMALLER. -/
  | jobComplete (n : Fin 8)
  /-- CHUNK_START (R345). An engine takes a block-read chunk from its slot at its next job boundary. -/
  | chunkStart (n : Fin 8)
  /-- CHUNK_COMPLETE (R345). A chunk is coded into the host link's buffer. -/
  | chunkComplete (n : Fin 8)
  /-- SET_PULSE (R352). An event source's set pulse reaches the controller and pends, merges or latches per target. -/
  | setPulse
  /-- LINE_FALL (R353). A LEVEL source's line falls at the controller and its pending state ends. -/
  | lineFall
  /-- CLAIM_READ (R362). A host read of EVC_T1_CLAIM in polling mode claims the best deliverable source. -/
  | claimRead
  /-- HNT_CLAIM (R361). The host notifier claims a deliverable source and sends it in an EVENT message. -/
  | hntClaim
  /-- CHF_CLAIM (R363). The chain forwarder claims a source when the chain event channel has room and sends an EVENT cell. -/
  | chfClaim
  /-- CHF_COMPLETE (R363). The upstream neighbour accepts the EVENT cell and the CHF completes the source. -/
  | chfComplete
  /-- COMPLETE (R355). A write of EVC_Tt_COMPLETE ends in-service state, re-pending latched or high sources. -/
  | complete (t : Fin 3) (n : BitVec 11)
  /-- SRC_CFG_WRITE (R350). A write of EVC_SRC_CFGs changes enables, priority, mode or wake, removing pending state where disabled. -/
  | srcCfgWrite (n : BitVec 11) (v : Word) (fw : Bool)
  /-- MGC_SLEEP (R365). A sleep request of the MGC is accepted or refused by its wake set. -/
  | mgcSleep
  /-- EVC_CNTCLR (R367). Writing EVC_CNTCLR clears EVC_MERGECNT. -/
  | evcCntclr
  /-- MAC_DISCARD (R370). A received frame too long, with a bad check sequence or finding the buffer full is discarded and counted. -/
  | macDiscard (full : Bool)
  /-- PAUSE_FRAME (R370). A received PAUSE or priority flow control frame is honoured. -/
  | pauseFrame (n : Fin 4) (quanta : BitVec 16)
  /-- ARP_REQUEST (R373). An ARP request for the device's address is answered. -/
  | arpRequest (n : Fin 4) (sha : BitVec 48) (spa tpa : Word)
  /-- NEIGHBOUR_SOLICITATION (R373). An IPv6 neighbour solicitation for the device's address is answered. -/
  | neighbourSolicitation (target : BitVec 128)
  /-- ECHO_REQUEST (R373). An ICMP or ICMPv6 echo request whose reply fits the MTU is answered. -/
  | echoRequest (n : Fin 4) (v6 : Bool) (data : List Byte)
  /-- PTP_EVENT_MESSAGE (R374). An IEEE 1588 event message sent or received is timestamped and handled by the PTP role. -/
  | ptpEventMessage (m : PtpMsg)
  /-- DHCP_REPLY (R372). A DHCPv4 server answer gives the interface its address, mask and router. -/
  | dhcpReply (n : Fin 4) (addr mask gw lease : Word)
  /-- DHCP_TIMEOUT (R372). No DHCPv4 answer within 10 s; the interface takes its static address and DHCP_FAIL sets. -/
  | dhcpTimeout (n : Fin 4)
  /-- DHCP_RETRY (R372). Every 60 s after a failure the DHCPv4 client tries again. -/
  | dhcpRetry (n : Fin 4)
  /-- LEASE_RENEWAL (R372). At half the lease time the client renews its lease. -/
  | leaseRenewal (n : Fin 4)
  /-- DHCP_RENEW (R400). Command DHCP_RENEW makes the client renew its lease. -/
  | dhcpRenew
  /-- LINK_UP (R369). An Ethernet interface gains its link and LINK_UP sets. -/
  | linkUp (n : Fin 4) (eye : LinkNote)
  /-- LINK_DOWN (R369). An Ethernet interface loses its link and LINK_DOWN sets. -/
  | linkDown (n : Fin 4)
  /-- RELINK (R369). Command RELINK applies new link settings and ends every session and stream. -/
  | relink
  /-- KEY_COMMIT (R380). Command KEY_COMMIT stores the device key, sets KEY_SET and clears the key registers. -/
  | keyCommit
  /-- KEY_ERASE (R380). Command KEY_ERASE removes the device key and clears KEY_SET. -/
  | keyErase (auth : Bool)
  /-- HLK_CNTCLR (R400). Writing HLK_CNTCLR clears every count of the block. -/
  | hlkCntclr
  /-- OPEN (R378). An OPEN message opens a session, granting events and authentication, or is refused. -/
  | openMsg (m : Msg)
  /-- CLOSE (R377). A CLOSE message ends the session, cancelling its streams and completing its events. -/
  | closeMsg (m : Msg)
  /-- KEEPALIVE (R382). A KEEPALIVE message refreshes the session timeout and is answered. -/
  | keepalive (m : Msg)
  /-- REG_READ (R385). A REG_READ message reads up to 256 registers in order. -/
  | regRead (m : Msg)
  /-- REG_WRITE (R385). A REG_WRITE message writes up to 256 registers in order, each with its own status. -/
  | regWrite (m : Msg)
  /-- MEM_READ (R387). A MEM_READ message returns up to 8,192 bytes of memory. -/
  | memRead (m : Msg)
  /-- MEM_WRITE (R387). A MEM_WRITE message writes up to 8,192 bytes after checking the whole range. -/
  | memWrite (m : Msg)
  /-- BLOCK_READ (R389). A BLOCK_READ message opens a stream of DATA frames over a memory range. -/
  | blockRead (m : Msg)
  /-- DATA_SEND (R390). The device sends the next requested or new DATA frame while the window allows. -/
  | dataSend (k id : Fin 8)
  /-- DATA_ACK (R391). A DATA_ACK acknowledges frames and names frames to send again. -/
  | dataAck (m : Msg)
  /-- DATA_RTO (R392). CUM has not advanced for the DATA timeout; the oldest frame is resent or the stream ends TIMEOUT. -/
  | dataRto (k id : Fin 8)
  /-- BLOCK_CANCEL (R392). A BLOCK_CANCEL ends a stream with a LAST frame carrying CANCELLED. -/
  | blockCancel (m : Msg)
  /-- EVENT_RTO (R396). An unacknowledged EVENT is resent, and after 16 sends the session ends. -/
  | eventRto (k : Fin 8)
  /-- EVENT_ACK (R397). An EVENT_ACK stops resending and completes each listed source. -/
  | eventAck (m : Msg)
  /-- SESSION_TIMEOUT (R377). No valid message for HLK_SESS_TO ms ends the session. -/
  | sessionTimeout (k : Fin 8)
  /-- STANDBY (R463). Command STANDBY stops units, drains, parks flows, puts memory in self-refresh and powers down all domains. -/
  | standby (m : Msg)
  /-- STANDBY_ENTERED (R463). Standby entry completes, the device reads STANDBY and the reply is sent. -/
  | standbyEntered
  /-- WAKE (R464). Command WAKE powers FAB, MEM and enabled domains and restores the planner target. -/
  | wake (m : Msg)
  /-- WAKE_COMPLETE (R464). The device reads CONFIGURED again and units start and flows resume. -/
  | wakeComplete
  /-- IMAGE_LOAD (R435). Command IMAGE_LOAD checks, qualifies and applies a full image. -/
  | imageLoad (m : Msg)
  /-- REGION_LOAD (R437). Command REGION_LOAD applies an image's sections for the named regions. -/
  | regionLoad (m : Msg)
  /-- IMAGE_UNLOAD (R33). Command IMAGE_UNLOAD returns the device to UNCONFIGURED. -/
  | imageUnload (m : Msg)
  /-- SYSTEM_RESET (R466). Command RESET with PARAM 0 resets as a PIN reset after the reply is sent. -/
  | systemReset (m : Msg)
  /-- WARM_RESET (R467). Command RESET with PARAM 1 stops groups, parks flows and resets all but CKS, CHN, MCH and the log. -/
  | warmReset (m : Msg)
  /-- WARM_SEAL_TIMEOUT (R467). After 2 ms waiting for seals the warm reset proceeds, leaving unsealed dikes OPEN. -/
  | warmSealTimeout
  /-- ROOT_SEARCH_END (R408). No upstream link within 10 ms of the first SPLL release makes the device root, which enumerates. -/
  | rootSearchEnd
  /-- CHAIN_LINK_UP (R404). A chain link comes up after 256 good cells; an upstream link ends root role. -/
  | chainLinkUp (k : Fin 2) (eye : Byte)
  /-- CHAIN_LINK_DOWN (R404). A chain link goes down on loss of signal, bad cells, narrow eye or failed resends. -/
  | chainLinkDown (k : Fin 2)
  /-- IDLE_CELL (R405). An IDLE cell delivers ACK, CREDIT and the sender's ALIGNED bit. -/
  | idleCell (k : Fin 2) (ack credit : Byte) (aligned : Bool) (eye : Byte)
  /-- CELL_RESEND (R405). ACK has not advanced for 2 µs and the sender resends from the oldest unacknowledged cell. -/
  | cellResend (k : Fin 2)
  /-- TRIGGER_CELL (R414). A trigger cell is received, forwarded, and scheduled for release on its line. -/
  | triggerCell (k : Fin 2) (c : List Byte)
  /-- ENUM_CLAIM (R409). An ENUM_CLAIM message lets each device set its claimed address bit and forwards it. -/
  | enumClaim (c : Cell) (earlier : Bool)
  /-- ENUM_RETURN (R409). An ENUM_RETURN carries the final mask up to the root. -/
  | enumReturn (c : Cell)
  /-- ENUM_ASSIGN (R409). An ENUM_ASSIGN lets each device keep its claim or take the lowest free address. -/
  | enumAssign (c : Cell) (displaced : Bool)
  /-- ENUM_DONE (R409). An ENUM_DONE accumulates count and delay up to the root, which computes CHN_RELEASE. -/
  | enumDone (c : Cell)
  /-- CONFIG (R409). A CONFIG message loads GEN, COUNT and RELEASE and the chain is FORMED. -/
  | config (c : Cell)
  /-- TOPO (R409). A TOPO message reports a downstream link change towards the root. -/
  | topo (c : Cell)
  /-- ENUMERATION_START (R409). 1 ms after the last TOPO or downstream change the root starts an enumeration with a new GEN. -/
  | enumerationStart
  /-- TIME_EXCHANGE_START (R411). Every 16 cells a device sends TIME_REQ upstream. -/
  | timeExchangeStart
  /-- TIME_REQ (R411). A TIME_REQ is stamped on arrival and answered with TIME_RSP. -/
  | timeReq (back : BitVec 16)
  /-- TIME_RSP (R411). A TIME_RSP is stamped and gives one delay and offset measurement. -/
  | timeRsp (t2 : BitVec 40) (frac : Byte) (res : BitVec 24) (back : BitVec 16)
  /-- ALIGNMENT_ROUND_END (R412). After 256 exchanges the device steps or slews its timebase towards its upstream partner. -/
  | alignmentRoundEnd
  /-- DEFERRED_STEP (R412). A step awaiting inactive groups is taken when none is active. -/
  | deferredStep
  /-- EVENT_CELL (R417). An EVENT cell is forwarded up, or placed by the root in its remote event FIFO. -/
  | eventCell (c : Cell)
  /-- CMD (R419). A CMD cell is forwarded and scheduled for application at its AT. -/
  | cmd (c : Cell)
  /-- CHAIN_CMD_APPLY (R418). At AT, or late on arrival, each device checks and applies the chain command and sends CMD_RES. -/
  | chainCmdApply
  /-- CMD_RES (R420). A CMD_RES is forwarded and recorded by the root in CHN_RESa, setting CMD_DONE when all arrive. -/
  | cmdRes (c : Cell)
  /-- CMD_DONE_TIMEOUT (R420). Answers missing 1 ms after AT set CMD_DONE with TIMEOUT. -/
  | cmdDoneTimeout
  /-- SNAP (R479). A SNAP cell arms a local snapshot at T, or marks it MISSED when too late. -/
  | snap (c : Cell)
  /-- PTPMAP (R423). A PTPMAP cell is taken and the mapping loaded when all three parts of a MAPSEQ arrive. -/
  | ptpmap (c : Cell)
  /-- PTPMAP_BROADCAST (R423). The root broadcasts its mapping when it changes and at least once per second. -/
  | ptpmapBroadcast
  /-- REVT_INFO_READ (R417). Reading CHN_REVT_INFO returns the oldest remote event and removes it. -/
  | revtInfoRead
  /-- REENUM (R409). Command REENUM makes the root enumerate the chain again. -/
  | reenum
  /-- REALIGN (R425). Command REALIGN restarts the alignment rounds. -/
  | realign
  /-- CHN_CNTCLR (R425). Writing CHN_CNTCLR clears the five chain counts. -/
  | chnCntclr
  /-- MAP_RATE_WRITE (R425). A write of CHN_MAP_RATE on a master root makes the written mapping take effect and loads MAP_TICK. -/
  | mapRateWrite (v : Word)
  /-- SLOT_WRITE (R439). Command SLOT_WRITE checks the staged image and writes it to slot A or B. -/
  | slotWrite (slot : Fin 4)
  /-- SLOT_WRITE_COMPLETE (R439). The slot write ends with the seal block, and CMD_DONE sets. -/
  | slotWriteComplete (ok : Bool)
  /-- SLOT_ERASE (R426). Command SLOT_ERASE erases an image slot. -/
  | slotErase (slot : Fin 4) (ok : Bool)
  /-- SAVE_SETTINGS (R444). Command SAVE_SETTINGS appends the present settings and a commit record to the settings log. -/
  | saveSettings (ok : Bool)
  /-- ERASE_SETTINGS (R444). Command ERASE_SETTINGS removes the saved items and the chain address. -/
  | eraseSettings (ok : Bool)
  /-- KEY_INSTALL (R433). Command KEY_INSTALL installs an integrator key from CFG_STAGE. -/
  | keyInstall (key : Fin 4) (auth ok : Bool)
  /-- KEY_REMOVE (R433). Command KEY_REMOVE removes an integrator key. -/
  | keyRemove (key : Fin 4) (auth ok : Bool)
  /-- KEY_EXPORT (R433). Command KEY_EXPORT writes a key's public point to CFG_STAGE. -/
  | keyExport (key : Fin 4)
  /-- SHADOW_ADDR_WRITE (R441). A write of CFG_SHg_ADDRe names a shadowed register and clears the entry's VALID. -/
  | shadowAddrWrite (g : Fin 16) (e : Fin 256) (v : Word)
  /-- SHADOW_DATA_WRITE (R441). A write of CFG_SHg_DATAe makes the entry VALID and sets PENDING. -/
  | shadowDataWrite (g : Fin 16) (e : Fin 256) (v : Word)
  /-- HANDOVER (R442). At the group's boundary the shadow set is applied whole, CFG_GEN increments and the list empties. -/
  | handover (g : Fin 16)
  /-- BOOT_ACTIVATION (R438). Once channels have left training the boot slot image, or the golden image, is activated. -/
  | bootActivation
  /-- DOMAIN_POWER_DOWN (R456). Clearing a PWR_DOM_CTL bit stops the domain's units, faults its groups and parks flows. -/
  | domainPowerDown (d : Fin 6)
  /-- PARK_TIMEOUT (R459). 100 µs after the park request unparked flows have their MOVE ended DOMAIN_LOST. -/
  | parkTimeout
  /-- DOMAIN_OFF (R456). Power is removed from the domain, it reads OFF and DOM_DOWN sets. -/
  | domainOff (d : Fin 8)
  /-- DOMAIN_POWER_UP (R457). Setting a PWR_DOM_CTL bit powers the domain up. -/
  | domainPowerUp (d : Fin 6)
  /-- DOMAIN_ON (R457). The domain reads ON, DOM_UP sets and enabled units start and flows resume. -/
  | domainOn (d : Fin 8)
  /-- PWR_CNTCLR (R472). Writing PWR_CNTCLR clears PARKCNT and LOSTCNT. -/
  | pwrCntclr
  /-- DEVICE_FAULT (R34). A die-link failure, thermal trip, rail fault, watchdog or store loss moves the device to FAULT. -/
  | deviceFault (cause : Fin 5) (rails : BitVec 10)
  /-- AVS_ALERT (R451). The regulator asserts alert; the device reads its status and sets AVS_ALERT. -/
  | avsAlert (status : BitVec 16) (still : Bool)
  /-- VDDC_DEV (R454). Measured VDDC differs from the target by over 25 mV for over 200 µs and VDDC_DEV sets. -/
  | vddcDev
  /-- POWER_ON_RESET (R466). Release of the power-up hold resets every block and starts boot. -/
  | powerOnReset
  /-- PIN_RESET (R466). NRST low for 1 µs resets every block except the store and error log and restarts boot. -/
  | pinReset
  /-- TAP_RESET (R466). TRST_N low or Test-Logic-Reset resets the TAP only. -/
  | tapReset
  /-- BOOT_STAGE_END (R468). A start-up stage completes and the next stage begins. -/
  | bootStageEnd (ref : Fin 4) (bad : BadRecords) (vddc : BitVec 10)
  /-- BOOT_END (R469). With IMAGE ended and an address held, BOOT ends and the device is UNCONFIGURED or CONFIGURED. -/
  | bootEnd
  /-- MON_CNT_CFG_WRITE (R474). A write of MON_CNTc_CFG changing source or mode clears the count and its snapshot VALID. -/
  | monCntCfgWrite (c : Fin 640) (v : Word)
  /-- SNAPSHOT_ARM (R476). Command ARM arms a snapshot at instant T with the next sequence number. -/
  | snapshotArm
  /-- ARM_CHAIN (R479). Command ARM_CHAIN on the root arms locally and sends a SNAP cell. -/
  | armChain
  /-- SNAPSHOT_CANCEL (R478). Command CANCEL ends a pending snapshot. -/
  | snapshotCancel
  /-- SNAPSHOT_INSTANT (R477). At T every active counter copies its count of events before T into its snapshot. -/
  | snapshotInstant
  /-- TEMPERATURE_UPDATE (R480). Every 1 ms the sensors update and TEMP_HIGH may set and be logged. -/
  | temperatureUpdate (t : List (BitVec 16))
  /-- HEALTH_RECORD (R481). Every HEALTH_H hours a HEALTH entry is appended to the error log. -/
  | healthRecord
  /-- LOG_CLEAR (R482). Command CLEAR empties the error log, leaving SEQ running. -/
  | logClear
  /-- MON_CLR_CNT (R487). Writing CLR_CNT clears every live count. -/
  | monClrCnt
  /-- MON_CLR_AV (R487). Writing CLR_AV clears every availability account. -/
  | monClrAv
  /-- TST_UNLOCK_WRITE (R484). A word written to TST_UNLOCK advances, completes or restarts the unlock sequence. -/
  | tstUnlockWrite (v sess : Word) (auth : Bool)
  /-- UNLOCK_GAP_EXPIRY (R484). More than 1 ms between unlock words restarts the sequence and counts a failure. -/
  | unlockGapExpiry
  /-- TEST_LOCK (R485). A write of 0 to TST_UNLOCK locks the block and ends every injection. -/
  | testLock
  /-- TST_CAPAR_FIRE (R486). FIRE of TST_CAPAR sends the next command with inverted parity. -/
  | tstCaparFire (v : Word)
  /-- TST_CHNERR_FIRE (R486). FIRE of TST_CHNERR corrupts the next chain cells on the named port. -/
  | tstChnerrFire (v : Word)
  /-- UNKNOWN_MESSAGE (R376). A received BTP message with a wrong MAGIC or length, an unknown VERSION or an unlisted TYPE is discarded and counted, or answered UNSUPPORTED. -/
  | unknownMessage (iface : Fin 4) (v6 : Bool) (b : List Byte)
  /-- BAD_CELL (R402). A chain cell with an unknown K character, a bad CRC or an unlisted message TYPE is discarded, counted in CHN_CRCERR and sets LINK_ERR. -/
  | badCell (k : Fin 2) (unlisted : Option Byte)
  /-- MGC_CLAIM (R359). The management core claims a deliverable source, starting its handler and raising EVC_T0_STATUS.RUNPRI, nesting above a lower handler. -/
  | mgcClaim
  /-- COINCIDENCE_EXPIRY (R155). TMAX ticks after a PULSE_WIDTH, RUNT, SLOPE, CHAIN or CAMERA_FRAME member's condition, its level state as a PATTERN unit sees it returns to 0, and the pattern may change. -/
  | coincidenceExpiry (u : Fin 32)
  /-- TAP_INSTRUCTION (R511). An instruction loaded through the IEEE 1149.1 TAP selects its register and, for EXTEST, HIGHZ, CLAMP and the 1149.6 instructions, takes the balls only in BOOT or UNCONFIGURED. -/
  | tapInstruction (code : Byte)
  /-- POWER_COLLAPSE (R450). VDDC, VDD_MR or VDDIO_T falls below its threshold and the device holds itself in reset, cutting short any store write. -/
  | powerCollapse
  deriving DecidableEq, Repr

end Sys2Proof
end

