-- ==== Sys2Proof/Decode.lean ====
section
/-! DEFINITION. The decoder over the rows of spec/opcode_table.json that give bits. No row does: a command reaches this block as a
message, a register access, a cell or an event, not as a word. -/
namespace Sys2Proof

/-- The command that a word of `nbits` bits spells: none, as no row of the table has an encoding. -/
def decodeTableWord (_nbits _w : Nat) : Option Instr := none

end Sys2Proof
end

