-- ==== Sys2Proof/Machine/Bits.lean ====
section
/-! DEFINITION. Bit fields, two's complement, saturation and byte order (00_scope.md R7, R8, R11). -/
namespace Sys2Proof.Machine

/-- The value of a field of a register. -/
def fldGet (f : Fld) (v : Word) : Nat := v.toNat / 2 ^ f.lo % 2 ^ f.w

/-- The bits of a field as a mask. -/
def fldMask (f : Fld) : Word := BitVec.ofNat 32 ((2 ^ f.w - 1) * 2 ^ f.lo)

/-- The register with the field replaced by `x`, reduced to the field's width. -/
def fldSet (f : Fld) (v : Word) (x : Nat) : Word :=
  (v &&& ~~~ (fldMask f)) ||| (BitVec.ofNat 32 (x % 2 ^ f.w * 2 ^ f.lo))

/-- Bit `b` of a number. -/
def bitOf (x b : Nat) : Bool := x / 2 ^ b % 2 == 1

/-- 1 for true, 0 for false. -/
def b2n (b : Bool) : Nat := if b then 1 else 0

/-- `x`, a `w`-bit pattern, read as two's complement (R8). -/
def sext (w x : Nat) : Int :=
  if x % 2 ^ w < 2 ^ (w - 1) then ((x % 2 ^ w : Nat) : Int) else ((x % 2 ^ w : Nat) : Int) - ((2 ^ w : Nat) : Int)

/-- The `w`-bit two's complement pattern of `x`, modulo 2^w. -/
def unsx (w : Nat) (x : Int) : Nat := (x % ((2 ^ w : Nat) : Int)).toNat

/-- `x` held within the signed `w`-bit range. -/
def satS (w : Nat) (x : Int) : Int :=
  if x < -((2 ^ (w - 1) : Nat) : Int) then -((2 ^ (w - 1) : Nat) : Int)
  else if x > ((2 ^ (w - 1) : Nat) : Int) - 1 then ((2 ^ (w - 1) : Nat) : Int) - 1 else x

/-- A 32-bit count one higher, saturating at 0xFFFF_FFFF. -/
def incSat32 (v : Word) (n : Nat) : Word :=
  if v.toNat + n < 2 ^ 32 then BitVec.ofNat 32 (v.toNat + n) else 0xFFFFFFFF#32

/-- A count of `w` bits increased by `n`, saturating. -/
def incSatN (w x n : Nat) : Nat := if x + n < 2 ^ w then x + n else 2 ^ w - 1

/-- `n` bytes of `x`, least significant first (R11). -/
def leBytes : Nat → Nat → List Byte
  | 0, _ => []
  | n + 1, x => BitVec.ofNat 8 (x % 256) :: leBytes n (x / 256)

/-- The number a little-endian byte string spells. -/
def ofLe : List Byte → Nat
  | [] => 0
  | b :: t => b.toNat + 256 * ofLe t

/-- Bytes `[o, o+n)` of a string, as a little-endian number; bytes past its end read 0. -/
def leAt (b : List Byte) (o n : Nat) : Nat := ofLe ((b.drop o).take n)

/-- `n` bits of `x`, the bit with number 0 first. -/
def bitsLow : Nat → Nat → List Bool
  | 0, _ => []
  | n + 1, x => (x % 2 == 1) :: bitsLow n (x / 2)

/-- The number whose bits are listed lowest first. -/
def ofBits : List Bool → Nat
  | [] => 0
  | b :: t => b2n b + 2 * ofBits t

/-- Round to nearest, a tie away from zero toward +∞: ⌊x / 2^k + 1/2⌋. -/
def roundShift (k : Nat) (x : Int) : Int := if k = 0 then x else (x + 2 ^ (k - 1)) / 2 ^ k

/-- The signed reading of a difference of 64-bit tick counts (R10). -/
def tickDiff (a b : Nat) : Int := sext 64 (unsx 64 ((a : Int) - (b : Int)))

/-- Instant `a` lies before instant `b` (R10). -/
def tickBefore (a b : Nat) : Bool := decide (tickDiff a b < 0)

/-- The signed reading of a difference of timestamps and names in 1/256 tick (R9, R10). -/
def tsDiff (a b : Int) : Int := sext 72 (unsx 72 (a - b))

/-- Timestamp `a` lies before timestamp `b` (R10). -/
def tsBefore (a b : Int) : Bool := decide (tsDiff a b < 0)

/-- A timestamp reduced to the width of one, in 1/256 tick (R9, R10). -/
def tsWrap (a : Int) : Int := (unsx 72 a : Int)

/-- `x` × 2^−k rounded half to even (R117). -/
def rne (k : Nat) (x : Int) : Int :=
  if k = 0 then x
  else
    let q := x / 2 ^ k
    let r := x % 2 ^ k
    if r * 2 > 2 ^ k then q + 1 else if r * 2 = 2 ^ k then (if q % 2 = 0 then q else q + 1) else q

end Sys2Proof.Machine
end

