-- ==== Sys2Proof/Machine/Crypto.lean ====
section
/-! DEFINITION. The cryptographic functions the spec names: SHA-256 and HMAC-SHA-256 (15_host_link.md R379,
17_configuration_images.md R428), and ECDSA verification on P-256 (17 R428). Constants are those of the standards the
spec names. -/
namespace Sys2Proof.Machine

/-! ### SHA-256 -/

def shaK : List (BitVec 32) := [
  0x428a2f98#32, 0x71374491#32, 0xb5c0fbcf#32, 0xe9b5dba5#32, 0x3956c25b#32, 0x59f111f1#32, 0x923f82a4#32, 0xab1c5ed5#32,
  0xd807aa98#32, 0x12835b01#32, 0x243185be#32, 0x550c7dc3#32, 0x72be5d74#32, 0x80deb1fe#32, 0x9bdc06a7#32, 0xc19bf174#32,
  0xe49b69c1#32, 0xefbe4786#32, 0x0fc19dc6#32, 0x240ca1cc#32, 0x2de92c6f#32, 0x4a7484aa#32, 0x5cb0a9dc#32, 0x76f988da#32,
  0x983e5152#32, 0xa831c66d#32, 0xb00327c8#32, 0xbf597fc7#32, 0xc6e00bf3#32, 0xd5a79147#32, 0x06ca6351#32, 0x14292967#32] ++ [
  0x27b70a85#32, 0x2e1b2138#32, 0x4d2c6dfc#32, 0x53380d13#32, 0x650a7354#32, 0x766a0abb#32, 0x81c2c92e#32, 0x92722c85#32,
  0xa2bfe8a1#32, 0xa81a664b#32, 0xc24b8b70#32, 0xc76c51a3#32, 0xd192e819#32, 0xd6990624#32, 0xf40e3585#32, 0x106aa070#32,
  0x19a4c116#32, 0x1e376c08#32, 0x2748774c#32, 0x34b0bcb5#32, 0x391c0cb3#32, 0x4ed8aa4a#32, 0x5b9cca4f#32, 0x682e6ff3#32,
  0x748f82ee#32, 0x78a5636f#32, 0x84c87814#32, 0x8cc70208#32, 0x90befffa#32, 0xa4506ceb#32, 0xbef9a3f7#32, 0xc67178f2#32]

/-- The eight working words. -/
structure ShaState where
  a : BitVec 32
  b : BitVec 32
  c : BitVec 32
  d : BitVec 32
  e : BitVec 32
  f : BitVec 32
  g : BitVec 32
  h : BitVec 32
  deriving DecidableEq, Repr

def shaInit : ShaState :=
  ⟨0x6a09e667#32, 0xbb67ae85#32, 0x3c6ef372#32, 0xa54ff53a#32, 0x510e527f#32, 0x9b05688c#32, 0x1f83d9ab#32, 0x5be0cd19#32⟩

def rotr (x : BitVec 32) (n : Nat) : BitVec 32 := x.rotateRight n

/-- One round with its constant and schedule word. -/
def shaRound (s : ShaState) (k w : BitVec 32) : ShaState :=
  let t1 := s.h + (rotr s.e 6 ^^^ rotr s.e 11 ^^^ rotr s.e 25) + ((s.e &&& s.f) ^^^ (~~~ s.e &&& s.g)) + k + w
  let t2 := (rotr s.a 2 ^^^ rotr s.a 13 ^^^ rotr s.a 22) + ((s.a &&& s.b) ^^^ (s.a &&& s.c) ^^^ (s.b &&& s.c))
  ⟨t1 + t2, s.a, s.b, s.c, s.d + t1, s.e, s.f, s.g⟩

/-- The next schedule word from the latest sixteen, oldest first. -/
def shaNext (w : List (BitVec 32)) : BitVec 32 :=
  let x := w.getD 1 0
  let y := w.getD 14 0
  (rotr y 17 ^^^ rotr y 19 ^^^ (y >>> 10)) + w.getD 9 0 + (rotr x 7 ^^^ rotr x 18 ^^^ (x >>> 3)) + w.getD 0 0

/-- The rounds of one block: the schedule slides by one word per round. -/
def shaRounds : List (BitVec 32) → List (BitVec 32) → ShaState → ShaState
  | [], _, s => s
  | k :: ks, w, s => shaRounds ks (w.drop 1 ++ [shaNext w]) (shaRound s k (w.getD 0 0))

/-- A big-endian 32-bit word at byte `o`. -/
def be32 (b : List Byte) (o : Nat) : BitVec 32 :=
  BitVec.ofNat 32 (((b.drop o).take 4).foldl (fun x y => x * 256 + y.toNat) 0)

def shaBlock (s : ShaState) (b : List Byte) : ShaState :=
  let t := shaRounds shaK ((List.range 16).map (fun i => be32 b (4 * i))) s
  ⟨s.a + t.a, s.b + t.b, s.c + t.c, s.d + t.d, s.e + t.e, s.f + t.f, s.g + t.g, s.h + t.h⟩

/-- `n` bytes of `x`, most significant first. -/
def beBytes (n x : Nat) : List Byte := (leBytes n x).reverse

/-- The number a big-endian byte string spells. -/
def ofBe (b : List Byte) : Nat := b.foldl (fun x y => x * 256 + y.toNat) 0

/-- The message with its padding. -/
def shaPad (m : List Byte) : List Byte :=
  m ++ [0x80#8] ++ List.replicate ((119 - m.length % 64) % 64) 0#8 ++ beBytes 8 (8 * m.length)

/-- `n` blocks of a padded message. -/
def shaBlocks : Nat → List Byte → ShaState → ShaState
  | 0, _, s => s
  | n + 1, b, s => shaBlocks n (b.drop 64) (shaBlock s (b.take 64))

/-- SHA-256: 32 bytes. -/
def sha256 (m : List Byte) : List Byte :=
  let p := shaPad m
  let s := shaBlocks (p.length / 64) p shaInit
  [s.a, s.b, s.c, s.d, s.e, s.f, s.g, s.h].flatMap (fun w => beBytes 4 w.toNat)

/-- HMAC-SHA-256. -/
def hmac (key m : List Byte) : List Byte :=
  let k := if 64 < key.length then sha256 key else key
  let k := k ++ List.replicate (64 - k.length) 0#8
  sha256 (k.map (fun b => b ^^^ 0x5c#8) ++ sha256 (k.map (fun b => b ^^^ 0x36#8) ++ m))

/-! ### ECDSA on P-256 -/

def ecP : Nat := 2 ^ 256 - 2 ^ 224 + 2 ^ 192 + 2 ^ 96 - 1
def ecN : Nat := 0xFFFFFFFF00000000FFFFFFFFFFFFFFFFBCE6FAADA7179E84F3B9CAC2FC632551
def ecB : Nat := 0x5AC635D8AA3A93E7B3EBBD55769886BC651D06B0CC53B0F63BCE3C3E27D2604B
def ecGx : Nat := 0x6B17D1F2E12C4247F8BCE6E563A440F277037D812DEB33A0F4A13945D898C296
def ecGy : Nat := 0x4FE342E2FE1A7F9B8EE7EB4A7C0F9E162BCE33576B315ECECBB6406837BF51F5

/-- `b` to the power whose bits are listed lowest first, modulo `m`. -/
def powMod (m b : Nat) : List Bool → Nat
  | [] => 1 % m
  | e :: t =>
    let r := powMod m (b * b % m) t
    if e then r * b % m else r

/-- The inverse modulo a prime. -/
def invMod (m x : Nat) : Nat := powMod m (x % m) (bitsLow 256 (m - 2))

/-- A point; none is the point at infinity. -/
abbrev EcPt := Option (Nat × Nat)

def ecDouble : EcPt → EcPt
  | none => none
  | some (x, y) =>
    if y % ecP = 0 then none
    else
      let l := (3 * x * x + (ecP - 3)) * invMod ecP (2 * y) % ecP
      let u := (l * l + 2 * (ecP - x)) % ecP
      some (u, (l * (x + (ecP - u)) + (ecP - y)) % ecP)

def ecAdd : EcPt → EcPt → EcPt
  | none, q => q
  | p, none => p
  | some (x, y), some (u, v) =>
    if x = u then (if y = v then ecDouble (some (x, y)) else none)
    else
      let l := (v + (ecP - y)) * invMod ecP (u + (ecP - x)) % ecP
      let w := (l * l + (ecP - x) + (ecP - u)) % ecP
      some (w, (l * (x + (ecP - w)) + (ecP - y)) % ecP)

/-- The multiple of a point by a number whose bits are listed lowest first. -/
def ecMul : List Bool → EcPt → EcPt
  | [], _ => none
  | e :: t, p =>
    let r := ecMul t (ecDouble p)
    if e then ecAdd r p else r

/-- The pair is a point of the curve. -/
def onCurve (x y : Nat) : Bool :=
  decide (x < ecP) && decide (y < ecP) && decide (y * y % ecP = (x * x * x + (ecP - 3) * x + ecB) % ecP)

/-- Signature (r, s) over a SHA-256 digest verifies under public key (x, y). -/
def ecdsaVerify (x y : Nat) (digest : List Byte) (r s : Nat) : Bool :=
  if onCurve x y = false ∨ r = 0 ∨ ecN ≤ r ∨ s = 0 ∨ ecN ≤ s then false
  else
    let w := invMod ecN s
    let u1 := ofBe digest % ecN * w % ecN
    let u2 := r * w % ecN
    match ecAdd (ecMul (bitsLow 256 u1) (some (ecGx, ecGy))) (ecMul (bitsLow 256 u2) (some (x, y))) with
    | none => false
    | some (v, _) => decide (v % ecN = r)

end Sys2Proof.Machine
end

