-- ==== Sys2Proof/Machine/RegMap.lean ====
section
/-! DEFINITION. The register map: the address of every register of spec/20_register_index.md (R489 to R491), the fields the
defining chapters give it (name, bits), and one descriptor row per register (offset, replication, which bits are rw, w1c and
w1s, the word after reset). Names are the spec's own. A register whose Reset column reads "boot" or "ROM" has the word the
assumption log names (notes/assumptions/7.md). -/
namespace Sys2Proof.Machine.Reg


-- DEV: base 0x0000, 1 × 0x1_0000 (R489)
/-- DEV_ID, ro, 00 R5: Part number and family. -/
abbrev DEV_ID : Nat := 0x0000
/-- DEV_STEPPING, ro, 00 R5: Silicon stepping. -/
abbrev DEV_STEPPING : Nat := 0x0004
/-- DEV_STATE, ro, 01 R38: Device state. -/
abbrev DEV_STATE : Nat := 0x0008
/-- DEV_FAULT_CAUSE, ro, 01 R38: Cause of the present FAULT. -/
abbrev DEV_FAULT_CAUSE : Nat := 0x000C
/-- DEV_GSTATE_LO, ro, 01 R38: States of groups 0–7. -/
abbrev DEV_GSTATE_LO : Nat := 0x0010
/-- DEV_GSTATE_HI, ro, 01 R38: States of groups 8–15. -/
abbrev DEV_GSTATE_HI : Nat := 0x0014
/-- DEV_SERIAL_LO, ro, 01 R38: Serial number, low word. -/
abbrev DEV_SERIAL_LO : Nat := 0x0018
/-- DEV_SERIAL_HI, ro, 01 R38: Serial number, high word. -/
abbrev DEV_SERIAL_HI : Nat := 0x001C

-- FAB: base 0x1_0000, 1 × 0x1_0000 (R489)
/-- FAB_CTL, rw, 02 R68: Planner control. -/
abbrev FAB_CTL : Nat := 0x1_0000
/-- FAB_STATUS, ro, 02 R68: Planner state and worst margin. -/
abbrev FAB_STATUS : Nat := 0x1_0004
/-- FAB_FLAGS, w1c, 02 R68: Sticky fabric flags. -/
abbrev FAB_FLAGS : Nat := 0x1_0008
/-- FAB_VDDC, ro, 02 R68: Present and highest VDDC target. -/
abbrev FAB_VDDC : Nat := 0x1_000C
/-- FAB_VLIMIT, rw, 02 R68: VDDC limits. -/
abbrev FAB_VLIMIT : Nat := 0x1_0010
/-- FAB_PLAN_CTL, rw, 02 R68: Planner timing and step. -/
abbrev FAB_PLAN_CTL : Nat := 0x1_0014
/-- FAB_THRESH_A, rw, 02 R68: Target and exhausted thresholds. -/
abbrev FAB_THRESH_A : Nat := 0x1_0018
/-- FAB_THRESH_B, rw, 02 R68: Down and headroom thresholds. -/
abbrev FAB_THRESH_B : Nat := 0x1_001C
/-- FAB_AVS_ERRCNT, ro, 02 R68: Failed AVSBus writes. -/
abbrev FAB_AVS_ERRCNT : Nat := 0x1_0020
/-- FAB_WINDOW, ro, 02 R68: Measurement windows completed. -/
abbrev FAB_WINDOW : Nat := 0x1_0024
/-- FAB_RPLAN, ro, 02 R68: Plan of region r. -/
abbrev FAB_RPLAN (i : Nat) : Nat := 0x1_0040 + 0x0004 * i
/-- FAB_RCAP, ro, 02 R68: Capability of region r. -/
abbrev FAB_RCAP (i : Nat) : Nat := 0x1_0060 + 0x0004 * i
/-- FAB_RMARGIN, ro, 02 R68: Margin and estimate of region r. -/
abbrev FAB_RMARGIN (i : Nat) : Nat := 0x1_0080 + 0x0004 * i
/-- FAB_SENT_EXCL, ro, 02 R68: Excluded sentinels 32k to 32k+31. -/
abbrev FAB_SENT_EXCL (i : Nat) : Nat := 0x1_00A0 + 0x0004 * i
/-- FAB_SENT, ro, 02 R68: Reading of sentinel s. -/
abbrev FAB_SENT (i : Nat) : Nat := 0x1_0400 + 0x0004 * i

-- FCH: base 0x10_0000, 16 × 0x1_0000 (R489)
/-- FCH_CTL, rw, 03 R92: Enable, pairing, bandwidth limit, code source. -/
abbrev FCH_CTL (n : Nat) : Nat := 0x10_0000 + 0x1_0000 * n + 0x0000
/-- FCH_STATUS, ro, 03 R92: Port state and group. -/
abbrev FCH_STATUS (n : Nat) : Nat := 0x10_0000 + 0x1_0000 * n + 0x0004
/-- FCH_FLAGS, w1c, 03 R92: Sticky port flags. -/
abbrev FCH_FLAGS (n : Nat) : Nat := 0x10_0000 + 0x1_0000 * n + 0x0008
/-- FCH_OVRCNT, ro, 03 R92: Over-range samples. -/
abbrev FCH_OVRCNT (n : Nat) : Nat := 0x10_0000 + 0x1_0000 * n + 0x000C
/-- FCH_LOSTCNT, ro, 03 R92: Samples discarded at the capture buffers, all lanes. -/
abbrev FCH_LOSTCNT (n : Nat) : Nat := 0x10_0000 + 0x1_0000 * n + 0x0010
/-- FCH_CNTCLR, wo, 03 R92: Counter clear. -/
abbrev FCH_CNTCLR (n : Nat) : Nat := 0x10_0000 + 0x1_0000 * n + 0x0014
/-- FCH_PATTERN, rw, 03 R92: Constant pattern code. -/
abbrev FCH_PATTERN (n : Nat) : Nat := 0x10_0000 + 0x1_0000 * n + 0x0018
/-- FCH_TS_ADJ, rw, 03 R92: Timestamp adjustment. -/
abbrev FCH_TS_ADJ (n : Nat) : Nat := 0x10_0000 + 0x1_0000 * n + 0x001C
/-- FCH_START_TS_LO, ro, 03 R92: Start instant, bits [31:0]. -/
abbrev FCH_START_TS_LO (n : Nat) : Nat := 0x10_0000 + 0x1_0000 * n + 0x0020
/-- FCH_START_TS_HI, ro, 03 R92: Start instant, bits [63:32]. -/
abbrev FCH_START_TS_HI (n : Nat) : Nat := 0x10_0000 + 0x1_0000 * n + 0x0024
/-- FCH_STOP_TS_LO, ro, 03 R92: Stop instant, bits [31:0]. -/
abbrev FCH_STOP_TS_LO (n : Nat) : Nat := 0x10_0000 + 0x1_0000 * n + 0x0028
/-- FCH_STOP_TS_HI, ro, 03 R92: Stop instant, bits [63:32]. -/
abbrev FCH_STOP_TS_HI (n : Nat) : Nat := 0x10_0000 + 0x1_0000 * n + 0x002C
/-- FCH_LANELOST, ro, 03 R92: Discards on lanes 2k and 2k + 1. -/
abbrev FCH_LANELOST (n i : Nat) : Nat := 0x10_0000 + 0x1_0000 * n + 0x0040 + 0x0004 * i

-- FCAL: base 0x20_0000, 4 × 0x4000 (R489)
/-- FCAL_CTL, rw, 04 R112: Guard, hold policy, schedule enables, write-back. -/
abbrev FCAL_CTL (n : Nat) : Nat := 0x20_0000 + 0x4000 * n + 0x0000
/-- FCAL_INTERVAL, rw, 04 R112: Step interval. -/
abbrev FCAL_INTERVAL (n : Nat) : Nat := 0x20_0000 + 0x4000 * n + 0x0004
/-- FCAL_DEFER_MAX, rw, 04 R112: Longest hold. -/
abbrev FCAL_DEFER_MAX (n : Nat) : Nat := 0x20_0000 + 0x4000 * n + 0x0008
/-- FCAL_CMD, wo, 04 R112: Calibration command. -/
abbrev FCAL_CMD (n : Nat) : Nat := 0x20_0000 + 0x4000 * n + 0x000C
/-- FCAL_STATUS, ro, 04 R112: Tile calibration state. -/
abbrev FCAL_STATUS (n : Nat) : Nat := 0x20_0000 + 0x4000 * n + 0x0010
/-- FCAL_FLAGS, w1c, 04 R112: Sticky tile flags. -/
abbrev FCAL_FLAGS (n : Nat) : Nat := 0x20_0000 + 0x4000 * n + 0x0014
/-- FCAL_SPUR_LIMIT, rw, 04 R112: Spur flag threshold. -/
abbrev FCAL_SPUR_LIMIT (n : Nat) : Nat := 0x20_0000 + 0x4000 * n + 0x0018
/-- FCAL_P_FLAGS, w1c, 04 R112: Sticky port flags. -/
abbrev FCAL_P_FLAGS (n i : Nat) : Nat := 0x20_0000 + 0x4000 * n + 0x0100 + 0x0020 * i
/-- FCAL_P_STATE, ro, 04 R112: Current slice, attempts, convergence. -/
abbrev FCAL_P_STATE (n i : Nat) : Nat := 0x20_0000 + 0x4000 * n + 0x0104 + 0x0020 * i
/-- FCAL_P_NEXT, ro, 04 R112: Time to the next due step. -/
abbrev FCAL_P_NEXT (n i : Nat) : Nat := 0x20_0000 + 0x4000 * n + 0x0108 + 0x0020 * i
/-- FCAL_P_STEPCNT, ro, 04 R112: Ordinary steps. -/
abbrev FCAL_P_STEPCNT (n i : Nat) : Nat := 0x20_0000 + 0x4000 * n + 0x010C + 0x0020 * i
/-- FCAL_P_GSTEPCNT, ro, 04 R112: Completed guarded steps. -/
abbrev FCAL_P_GSTEPCNT (n i : Nat) : Nat := 0x20_0000 + 0x4000 * n + 0x0110 + 0x0020 * i
/-- FCAL_P_DISCNT, ro, 04 R112: Attempts that did not agree. -/
abbrev FCAL_P_DISCNT (n i : Nat) : Nat := 0x20_0000 + 0x4000 * n + 0x0114 + 0x0020 * i
/-- FCAL_P_SPUR, ro, 04 R112: Residual-spur figures. -/
abbrev FCAL_P_SPUR (n i : Nat) : Nat := 0x20_0000 + 0x4000 * n + 0x0118 + 0x0020 * i
/-- FCAL_P_TRIMA, ro, 04 R112: Offset and gain of slice j. -/
abbrev FCAL_P_TRIMA (n i j : Nat) : Nat := 0x20_0000 + 0x4000 * n + 0x1000 + 0x0200 * i + 0x0008 * j
/-- FCAL_P_TRIMB, ro, 04 R112: Skew and bandwidth of slice j. -/
abbrev FCAL_P_TRIMB (n i j : Nat) : Nat := 0x20_0000 + 0x4000 * n + 0x1004 + 0x0200 * i + 0x0008 * j
/-- FCAL_SP_TRIMA, ro, 04 R112: Offset and gain of spare k. -/
abbrev FCAL_SP_TRIMA (n i : Nat) : Nat := 0x20_0000 + 0x4000 * n + 0x1800 + 0x0008 * i
/-- FCAL_SP_TRIMB, ro, 04 R112: Skew and bandwidth of spare k. -/
abbrev FCAL_SP_TRIMB (n i : Nat) : Nat := 0x20_0000 + 0x4000 * n + 0x1804 + 0x0008 * i

-- DCF: base 0x30_0000, 32 × 0x8000 (R489)
/-- DCF_CTL, rw, 05 R139: Enable, source, stage count, resampler. -/
abbrev DCF_CTL (n : Nat) : Nat := 0x30_0000 + 0x8000 * n + 0x0000
/-- DCF_STATUS, ro, 05 R139: Chain state and group. -/
abbrev DCF_STATUS (n : Nat) : Nat := 0x30_0000 + 0x8000 * n + 0x0004
/-- DCF_FLAGS, w1c, 05 R139: Sticky chain flags. -/
abbrev DCF_FLAGS (n : Nat) : Nat := 0x30_0000 + 0x8000 * n + 0x0008
/-- DCF_SATCNT, ro, 05 R139: Saturated output words. -/
abbrev DCF_SATCNT (n : Nat) : Nat := 0x30_0000 + 0x8000 * n + 0x000C
/-- DCF_CMD, wo, 05 R139: Synchronising commands. -/
abbrev DCF_CMD (n : Nat) : Nat := 0x30_0000 + 0x8000 * n + 0x0010
/-- DCF_STAGE, rw, 05 R139: Coefficient source per stage. -/
abbrev DCF_STAGE (n : Nat) : Nat := 0x30_0000 + 0x8000 * n + 0x0014
/-- DCF_RS_RATIO, rw, 05 R139: Resampler ratio. -/
abbrev DCF_RS_RATIO (n : Nat) : Nat := 0x30_0000 + 0x8000 * n + 0x0018
/-- DCF_RS_PHASE, rw, 05 R139: Resampler start phase. -/
abbrev DCF_RS_PHASE (n : Nat) : Nat := 0x30_0000 + 0x8000 * n + 0x001C
/-- DCF_DCB_CTL, rw, 05 R139: DC blocker control. -/
abbrev DCF_DCB_CTL (n : Nat) : Nat := 0x30_0000 + 0x8000 * n + 0x0020
/-- DCF_DCB_INIT, rw, 05 R139: DC estimate loaded at reset. -/
abbrev DCF_DCB_INIT (n : Nat) : Nat := 0x30_0000 + 0x8000 * n + 0x0024
/-- DCF_DCB_EST, ro, 05 R139: DC estimate in force. -/
abbrev DCF_DCB_EST (n : Nat) : Nat := 0x30_0000 + 0x8000 * n + 0x0028
/-- DCF_SETTLE_TOTAL, ro, 05 R139: Settling count of the latest reset. -/
abbrev DCF_SETTLE_TOTAL (n : Nat) : Nat := 0x30_0000 + 0x8000 * n + 0x002C
/-- DCF_SETTLE_LEFT, ro, 05 R139: Settling words still to deliver. -/
abbrev DCF_SETTLE_LEFT (n : Nat) : Nat := 0x30_0000 + 0x8000 * n + 0x0030
/-- DCF_GDELAY, ro, 05 R139: Group delay G. -/
abbrev DCF_GDELAY (n : Nat) : Nat := 0x30_0000 + 0x8000 * n + 0x0034
/-- DCF_LATENCY, ro, 05 R139: Output latency bound. -/
abbrev DCF_LATENCY (n : Nat) : Nat := 0x30_0000 + 0x8000 * n + 0x0038
/-- DCF_SYNC_TS_LO, rw, 05 R139: SYNC_AT instant, bits [31:0]. -/
abbrev DCF_SYNC_TS_LO (n : Nat) : Nat := 0x30_0000 + 0x8000 * n + 0x0040
/-- DCF_SYNC_TS_HI, rw, 05 R139: SYNC_AT instant, bits [63:32]. -/
abbrev DCF_SYNC_TS_HI (n : Nat) : Nat := 0x30_0000 + 0x8000 * n + 0x0044
/-- DCF_LAST_SYNC_LO, ro, 05 R139: Latest reset instant, bits [31:0]. -/
abbrev DCF_LAST_SYNC_LO (n : Nat) : Nat := 0x30_0000 + 0x8000 * n + 0x0048
/-- DCF_LAST_SYNC_HI, ro, 05 R139: Latest reset instant, bits [63:32]. -/
abbrev DCF_LAST_SYNC_HI (n : Nat) : Nat := 0x30_0000 + 0x8000 * n + 0x004C
/-- DCF_UHB_C, rw, 05 R139: User kernel u (0 = A, 1 = B), coefficient c = 0–15. -/
abbrev DCF_UHB_C (n i j : Nat) : Nat := 0x30_0000 + 0x8000 * n + 0x0100 + 0x0040 * i + 0x0004 * j
/-- DCF_UHB_TAPS, rw, 05 R139: User kernel u length. -/
abbrev DCF_UHB_TAPS (n i : Nat) : Nat := 0x30_0000 + 0x8000 * n + 0x0180 + 0x0004 * i
/-- DCF_URS_H, rw, 05 R139: User prototype h[k], k = 0–511. -/
abbrev DCF_URS_H (n i : Nat) : Nat := 0x30_0000 + 0x8000 * n + 0x1000 + 0x0004 * i
/-- DCF_ROMHB_C, ro, 05 R139: ROM response r = 0–5, coefficient c = 0–15. -/
abbrev DCF_ROMHB_C (n i j : Nat) : Nat := 0x30_0000 + 0x8000 * n + 0x2000 + 0x0040 * i + 0x0004 * j
/-- DCF_ROMRS_H, ro, 05 R139: ROM response r = 6–7, h[k], k = 0–511. -/
abbrev DCF_ROMRS_H (n i j : Nat) : Nat := 0x30_0000 + 0x8000 * n + 0x2400 + 0x0800 * i + 0x0004 * j

-- TRU: base 0x40_0000, 32 × 0x4000 (R489)
/-- TRU_CTL, rw, 06 R167: Enable, type, source, variant, holdoff mode, routing. -/
abbrev TRU_CTL (n : Nat) : Nat := 0x40_0000 + 0x4000 * n + 0x0000
/-- TRU_STATUS, ro, 06 R167: Unit state, group, level state. -/
abbrev TRU_STATUS (n : Nat) : Nat := 0x40_0000 + 0x4000 * n + 0x0004
/-- TRU_FLAGS, w1c, 06 R167: Sticky unit flags. -/
abbrev TRU_FLAGS (n : Nat) : Nat := 0x40_0000 + 0x4000 * n + 0x0008
/-- TRU_LEVEL_A, rw, 06 R167: Upper level. -/
abbrev TRU_LEVEL_A (n : Nat) : Nat := 0x40_0000 + 0x4000 * n + 0x000C
/-- TRU_LEVEL_B, rw, 06 R167: Lower level. -/
abbrev TRU_LEVEL_B (n : Nat) : Nat := 0x40_0000 + 0x4000 * n + 0x0010
/-- TRU_HYST, rw, 06 R167: Hysteresis. -/
abbrev TRU_HYST (n : Nat) : Nat := 0x40_0000 + 0x4000 * n + 0x0014
/-- TRU_TMIN, rw, 06 R167: Lower duration or delay limit. -/
abbrev TRU_TMIN (n : Nat) : Nat := 0x40_0000 + 0x4000 * n + 0x0018
/-- TRU_TMAX, rw, 06 R167: Upper duration or delay limit; coincidence width. -/
abbrev TRU_TMAX (n : Nat) : Nat := 0x40_0000 + 0x4000 * n + 0x001C
/-- TRU_HOLD_T, rw, 06 R167: Holdoff time. -/
abbrev TRU_HOLD_T (n : Nat) : Nat := 0x40_0000 + 0x4000 * n + 0x0020
/-- TRU_HOLD_N, rw, 06 R167: Holdoff count. -/
abbrev TRU_HOLD_N (n : Nat) : Nat := 0x40_0000 + 0x4000 * n + 0x0024
/-- TRU_MEMBERS, rw, 06 R167: Pattern members. -/
abbrev TRU_MEMBERS (n : Nat) : Nat := 0x40_0000 + 0x4000 * n + 0x0028
/-- TRU_INVERT, rw, 06 R167: Member inversion. -/
abbrev TRU_INVERT (n : Nat) : Nat := 0x40_0000 + 0x4000 * n + 0x002C
/-- TRU_SEQ, rw, 06 R167: Sequence members and count. -/
abbrev TRU_SEQ (n : Nat) : Nat := 0x40_0000 + 0x4000 * n + 0x0030
/-- TRU_FRAME, rw, 06 R167: Camera frame selection. -/
abbrev TRU_FRAME (n : Nat) : Nat := 0x40_0000 + 0x4000 * n + 0x0034
/-- TRU_OUT_TP, rw, 06 R167: Timing-port outputs. -/
abbrev TRU_OUT_TP (n : Nat) : Nat := 0x40_0000 + 0x4000 * n + 0x0038
/-- TRU_OUT_STO, rw, 06 R167: Stimulus outputs. -/
abbrev TRU_OUT_STO (n : Nat) : Nat := 0x40_0000 + 0x4000 * n + 0x003C
/-- TRU_LATENCY, ro, 06 R167: Decision latency bound. -/
abbrev TRU_LATENCY (n : Nat) : Nat := 0x40_0000 + 0x4000 * n + 0x0040
/-- TRU_CMD, wo, 06 R167: Commands. -/
abbrev TRU_CMD (n : Nat) : Nat := 0x40_0000 + 0x4000 * n + 0x0044
/-- TRU_TRIGCNT, ro, 06 R167: Delivered triggers. -/
abbrev TRU_TRIGCNT (n : Nat) : Nat := 0x40_0000 + 0x4000 * n + 0x0048
/-- TRU_HOLDCNT, ro, 06 R167: Held-off conditions. -/
abbrev TRU_HOLDCNT (n : Nat) : Nat := 0x40_0000 + 0x4000 * n + 0x004C
/-- TRU_DEADCNT, ro, 06 R167: Conditions discarded in dead time. -/
abbrev TRU_DEADCNT (n : Nat) : Nat := 0x40_0000 + 0x4000 * n + 0x0050
/-- TRU_NACCCNT, ro, 06 R167: Triggers not accepted by the group. -/
abbrev TRU_NACCCNT (n : Nat) : Nat := 0x40_0000 + 0x4000 * n + 0x0054
/-- TRU_CNTCLR, wo, 06 R167: Counter clear. -/
abbrev TRU_CNTCLR (n : Nat) : Nat := 0x40_0000 + 0x4000 * n + 0x0058
/-- TRU_LAST_TS_LO, ro, 06 R167: Latest delivered timestamp, bits [31:0]. -/
abbrev TRU_LAST_TS_LO (n : Nat) : Nat := 0x40_0000 + 0x4000 * n + 0x0060
/-- TRU_LAST_TS_HI, ro, 06 R167: Latest delivered timestamp, bits [63:32]. -/
abbrev TRU_LAST_TS_HI (n : Nat) : Nat := 0x40_0000 + 0x4000 * n + 0x0064
/-- TRU_LAST_INFO, ro, 06 R167: Fraction and marks of the latest trigger. -/
abbrev TRU_LAST_INFO (n : Nat) : Nat := 0x40_0000 + 0x4000 * n + 0x0068

-- POL: base 0x50_0000, 1 × 0x1_0000 (R489)
/-- POL_STATUS, ro, 07 R196: Spillway state. -/
abbrev POL_STATUS : Nat := 0x50_0000
/-- POL_FLAGS, w1c, 07 R196: Sticky flags. -/
abbrev POL_FLAGS : Nat := 0x50_0004
/-- POL_SPILL_HWM, ro, 07 R196: Highest occupancy, KiB. -/
abbrev POL_SPILL_HWM : Nat := 0x50_0008
/-- POL_SLUICE_LOST, ro, 07 R196: Words discarded at the sluice. -/
abbrev POL_SLUICE_LOST : Nat := 0x50_000C
/-- POL_CNTCLR, wo, 07 R196: Counter clear. -/
abbrev POL_CNTCLR : Nat := 0x50_0010
/-- POL_SPILL_RESUME, rw, 07 R196: Reopen level, KiB. -/
abbrev POL_SPILL_RESUME : Nat := 0x50_0014
/-- POL_G_CTL, rw, 07 R196: Open mode, depth, protection. -/
abbrev POL_G_CTL (i : Nat) : Nat := 0x50_1000 + 0x0080 * i
/-- POL_G_NPOLD, rw, 07 R196: Polder count − 1. -/
abbrev POL_G_NPOLD (i : Nat) : Nat := 0x50_1004 + 0x0080 * i
/-- POL_G_PRE_T, rw, 07 R196: Pre-trigger ticks. -/
abbrev POL_G_PRE_T (i : Nat) : Nat := 0x50_1008 + 0x0080 * i
/-- POL_G_POST_T_LO, rw, 07 R196: Post-trigger ticks [31:0]. -/
abbrev POL_G_POST_T_LO (i : Nat) : Nat := 0x50_100C + 0x0080 * i
/-- POL_G_POST_T_HI, rw, 07 R196: Post-trigger ticks [47:32]. -/
abbrev POL_G_POST_T_HI (i : Nat) : Nat := 0x50_1010 + 0x0080 * i
/-- POL_G_DIKE_BASE_LO, rw, 07 R196: Dike table [31:6]. -/
abbrev POL_G_DIKE_BASE_LO (i : Nat) : Nat := 0x50_1014 + 0x0080 * i
/-- POL_G_DIKE_BASE_HI, rw, 07 R196: Dike table [40:32]. -/
abbrev POL_G_DIKE_BASE_HI (i : Nat) : Nat := 0x50_1018 + 0x0080 * i
/-- POL_G_DATA_BASE_LO, rw, 07 R196: Data area [31:12]. -/
abbrev POL_G_DATA_BASE_LO (i : Nat) : Nat := 0x50_101C + 0x0080 * i
/-- POL_G_DATA_BASE_HI, rw, 07 R196: Data area [40:32]. -/
abbrev POL_G_DATA_BASE_HI (i : Nat) : Nat := 0x50_1020 + 0x0080 * i
/-- POL_G_SLOT_LO, ro, 07 R196: SLOT_SIZE [31:0]. -/
abbrev POL_G_SLOT_LO (i : Nat) : Nat := 0x50_1024 + 0x0080 * i
/-- POL_G_SLOT_HI, ro, 07 R196: SLOT_SIZE [40:32]. -/
abbrev POL_G_SLOT_HI (i : Nat) : Nat := 0x50_1028 + 0x0080 * i
/-- POL_G_STATUS, ro, 07 R196: Draining, stream count. -/
abbrev POL_G_STATUS (i : Nat) : Nat := 0x50_102C + 0x0080 * i
/-- POL_G_NEXT_SLOT, ro, 07 R196: Slot of the open or next polder. -/
abbrev POL_G_NEXT_SLOT (i : Nat) : Nat := 0x50_1030 + 0x0080 * i
/-- POL_G_ACQ, ro, 07 R196: Acquisition number. -/
abbrev POL_G_ACQ (i : Nat) : Nat := 0x50_1034 + 0x0080 * i
/-- POL_G_SEQ, ro, 07 R196: Polders opened in this acquisition. -/
abbrev POL_G_SEQ (i : Nat) : Nat := 0x50_1038 + 0x0080 * i
/-- POL_G_GEN, ro, 07 R196: Generation of the latest polder. -/
abbrev POL_G_GEN (i : Nat) : Nat := 0x50_103C + 0x0080 * i
/-- POL_G_FLAGS, w1c, 07 R196: Sticky group flags. -/
abbrev POL_G_FLAGS (i : Nat) : Nat := 0x50_1040 + 0x0080 * i
/-- POL_G_LOSTCNT, ro, 07 R196: Sluice discards of the group. -/
abbrev POL_G_LOSTCNT (i : Nat) : Nat := 0x50_1044 + 0x0080 * i
/-- POL_G_RELEASE, wo, 07 R196: Release a slot. -/
abbrev POL_G_RELEASE (i : Nat) : Nat := 0x50_1048 + 0x0080 * i
/-- POL_G_SPAN_LO, ro, 07 R196: Slot span [31:0]. -/
abbrev POL_G_SPAN_LO (i : Nat) : Nat := 0x50_104C + 0x0080 * i
/-- POL_G_SPAN_HI, ro, 07 R196: Slot span [48:32]. -/
abbrev POL_G_SPAN_HI (i : Nat) : Nat := 0x50_1050 + 0x0080 * i

-- WAC: base 0x58_0000, 16 × 0x4000 (R489)
/-- WAC_CTL, rw, 07 R197: Enable, source, mode, storage. -/
abbrev WAC_CTL (n : Nat) : Nat := 0x58_0000 + 0x4000 * n + 0x0000
/-- WAC_STATUS, ro, 07 R197: State, group. -/
abbrev WAC_STATUS (n : Nat) : Nat := 0x58_0000 + 0x4000 * n + 0x0004
/-- WAC_FLAGS, w1c, 07 R197: Sticky flags. -/
abbrev WAC_FLAGS (n : Nat) : Nat := 0x58_0000 + 0x4000 * n + 0x0008
/-- WAC_LEN, rw, 07 R197: L. -/
abbrev WAC_LEN (n : Nat) : Nat := 0x58_0000 + 0x4000 * n + 0x000C
/-- WAC_OFFSET, rw, 07 R197: Start offset, signed ticks. -/
abbrev WAC_OFFSET (n : Nat) : Nat := 0x58_0000 + 0x4000 * n + 0x0010
/-- WAC_NACQ, rw, 07 R197: Acquisitions per result. -/
abbrev WAC_NACQ (n : Nat) : Nat := 0x58_0000 + 0x4000 * n + 0x0014
/-- WAC_COUNT, ro, 07 R197: Merged acquisitions. -/
abbrev WAC_COUNT (n : Nat) : Nat := 0x58_0000 + 0x4000 * n + 0x0018
/-- WAC_REJCNT, ro, 07 R197: Rejected. -/
abbrev WAC_REJCNT (n : Nat) : Nat := 0x58_0000 + 0x4000 * n + 0x001C
/-- WAC_BUSYCNT, ro, 07 R197: Triggers while capturing. -/
abbrev WAC_BUSYCNT (n : Nat) : Nat := 0x58_0000 + 0x4000 * n + 0x0020
/-- WAC_OVRCNT, ro, 07 R197: Acquisitions with OVR. -/
abbrev WAC_OVRCNT (n : Nat) : Nat := 0x58_0000 + 0x4000 * n + 0x0024
/-- WAC_RES_BASE_LO, rw, 07 R197: Result address [31:6]. -/
abbrev WAC_RES_BASE_LO (n : Nat) : Nat := 0x58_0000 + 0x4000 * n + 0x0028
/-- WAC_RES_BASE_HI, rw, 07 R197: Result address [40:32]. -/
abbrev WAC_RES_BASE_HI (n : Nat) : Nat := 0x58_0000 + 0x4000 * n + 0x002C
/-- WAC_WORK_BASE_LO, rw, 07 R197: Work area [31:6]. -/
abbrev WAC_WORK_BASE_LO (n : Nat) : Nat := 0x58_0000 + 0x4000 * n + 0x0030
/-- WAC_WORK_BASE_HI, rw, 07 R197: Work area [40:32]. -/
abbrev WAC_WORK_BASE_HI (n : Nat) : Nat := 0x58_0000 + 0x4000 * n + 0x0034
/-- WAC_OFFSUM_LO, ro, 07 R197: OFFSUM [31:0]. -/
abbrev WAC_OFFSUM_LO (n : Nat) : Nat := 0x58_0000 + 0x4000 * n + 0x0038
/-- WAC_OFFSUM_HI, ro, 07 R197: OFFSUM [63:32]. -/
abbrev WAC_OFFSUM_HI (n : Nat) : Nat := 0x58_0000 + 0x4000 * n + 0x003C
/-- WAC_CMD, wo, 07 R197: Commands. -/
abbrev WAC_CMD (n : Nat) : Nat := 0x58_0000 + 0x4000 * n + 0x0040

-- PCV: base 0x60_0000, 24 × 0x2000 (R489)
/-- PCV_CTL, rw, 08 R228: Enable, mode, starts, ring. -/
abbrev PCV_CTL (n : Nat) : Nat := 0x60_0000 + 0x2000 * n + 0x0000
/-- PCV_STATUS, ro, 08 R228: State, group, queue. -/
abbrev PCV_STATUS (n : Nat) : Nat := 0x60_0000 + 0x2000 * n + 0x0004
/-- PCV_FLAGS, w1c, 08 R228: Sticky flags. -/
abbrev PCV_FLAGS (n : Nat) : Nat := 0x60_0000 + 0x2000 * n + 0x0008
/-- PCV_OVRCNT, ro, 08 R228: Over-range results. -/
abbrev PCV_OVRCNT (n : Nat) : Nat := 0x60_0000 + 0x2000 * n + 0x000C
/-- PCV_TRIG_OVERRUN, ro, 08 R228: Dropped starts. -/
abbrev PCV_TRIG_OVERRUN (n : Nat) : Nat := 0x60_0000 + 0x2000 * n + 0x0010
/-- PCV_URG_DROPCNT, ro, 08 R228: Dropped urgent requests. -/
abbrev PCV_URG_DROPCNT (n : Nat) : Nat := 0x60_0000 + 0x2000 * n + 0x0014
/-- PCV_LOSTCNT, ro, 08 R228: Units discarded at a full ring. -/
abbrev PCV_LOSTCNT (n : Nat) : Nat := 0x60_0000 + 0x2000 * n + 0x0018
/-- PCV_CNTCLR, wo, 08 R228: Counter clear. -/
abbrev PCV_CNTCLR (n : Nat) : Nat := 0x60_0000 + 0x2000 * n + 0x001C
/-- PCV_CMD, wo, 08 R228: Commands. -/
abbrev PCV_CMD (n : Nat) : Nat := 0x60_0000 + 0x2000 * n + 0x0020
/-- PCV_DELAY, rw, 08 R228: Start delay. -/
abbrev PCV_DELAY (n : Nat) : Nat := 0x60_0000 + 0x2000 * n + 0x0024
/-- PCV_TIMER_PERIOD, rw, 08 R228: Timer period. -/
abbrev PCV_TIMER_PERIOD (n : Nat) : Nat := 0x60_0000 + 0x2000 * n + 0x0028
/-- PCV_TIMER_PHASE, rw, 08 R228: Timer phase. -/
abbrev PCV_TIMER_PHASE (n : Nat) : Nat := 0x60_0000 + 0x2000 * n + 0x002C
/-- PCV_MUXSET, rw, 08 R228: Multiplexer settling. -/
abbrev PCV_MUXSET (n : Nat) : Nat := 0x60_0000 + 0x2000 * n + 0x0030
/-- PCV_OW_THRESH, rw, 08 R228: Open-wire threshold. -/
abbrev PCV_OW_THRESH (n : Nat) : Nat := 0x60_0000 + 0x2000 * n + 0x0034
/-- PCV_TS_ADJ, rw, 08 R228: Timestamp adjustment. -/
abbrev PCV_TS_ADJ (n : Nat) : Nat := 0x60_0000 + 0x2000 * n + 0x0038
/-- PCV_PROF, rw, 08 R228: Filter profile p. -/
abbrev PCV_PROF (n i : Nat) : Nat := 0x60_0000 + 0x2000 * n + 0x0040 + 0x0004 * i
/-- PCV_SEQ, rw, 08 R228: Entry e. -/
abbrev PCV_SEQ (n i : Nat) : Nat := 0x60_0000 + 0x2000 * n + 0x0080 + 0x0004 * i
/-- PCV_URG, rw, 08 R228: Urgent entry. -/
abbrev PCV_URG (n : Nat) : Nat := 0x60_0000 + 0x2000 * n + 0x00C0
/-- PCV_RING_BASE_LO, rw, 08 R228: Ring address [31:6]. -/
abbrev PCV_RING_BASE_LO (n : Nat) : Nat := 0x60_0000 + 0x2000 * n + 0x00D0
/-- PCV_RING_BASE_HI, rw, 08 R228: Ring address [40:32]. -/
abbrev PCV_RING_BASE_HI (n : Nat) : Nat := 0x60_0000 + 0x2000 * n + 0x00D4
/-- PCV_RING_UNITS, rw, 08 R228: Ring length in units. -/
abbrev PCV_RING_UNITS (n : Nat) : Nat := 0x60_0000 + 0x2000 * n + 0x00D8
/-- PCV_RING_WR, ro, 08 R228: Units written. -/
abbrev PCV_RING_WR (n : Nat) : Nat := 0x60_0000 + 0x2000 * n + 0x00DC
/-- PCV_RING_RD, rw, 08 R228: Units consumed. -/
abbrev PCV_RING_RD (n : Nat) : Nat := 0x60_0000 + 0x2000 * n + 0x00E0
/-- PCV_FLOW, rw, 08 R228: Flow for USER ring mode. -/
abbrev PCV_FLOW (n : Nat) : Nat := 0x60_0000 + 0x2000 * n + 0x00E4
/-- PCV_REF_DRIFT, ro, 08 R228: Reference drift and margin. -/
abbrev PCV_REF_DRIFT (n : Nat) : Nat := 0x60_0000 + 0x2000 * n + 0x00F0
/-- PCV_REF_LIMIT, rw, 08 R228: Margin threshold. -/
abbrev PCV_REF_LIMIT (n : Nat) : Nat := 0x60_0000 + 0x2000 * n + 0x00F4
/-- PCV_REF_SPEC, ro, 08 R228: Factory drift limit. -/
abbrev PCV_REF_SPEC (n : Nat) : Nat := 0x60_0000 + 0x2000 * n + 0x00F8

-- STO: base 0x70_0000, 16 × 0x4000 (R489)
/-- STO_CTL, rw, 09 R252: Enable, source, interpolation, rounding. -/
abbrev STO_CTL (n : Nat) : Nat := 0x70_0000 + 0x4000 * n + 0x0000
/-- STO_STATUS, ro, 09 R252: State, group. -/
abbrev STO_STATUS (n : Nat) : Nat := 0x70_0000 + 0x4000 * n + 0x0004
/-- STO_FLAGS, w1c, 09 R252: Sticky flags. -/
abbrev STO_FLAGS (n : Nat) : Nat := 0x70_0000 + 0x4000 * n + 0x0008
/-- STO_GAIN, rw, 09 R252: Gain, s2.14. -/
abbrev STO_GAIN (n : Nat) : Nat := 0x70_0000 + 0x4000 * n + 0x000C
/-- STO_OFFSET, rw, 09 R252: Offset, s1.17. -/
abbrev STO_OFFSET (n : Nat) : Nat := 0x70_0000 + 0x4000 * n + 0x0010
/-- STO_IDLE, rw, 09 R252: Idle value, s1.17. -/
abbrev STO_IDLE (n : Nat) : Nat := 0x70_0000 + 0x4000 * n + 0x0014
/-- STO_FLOW, rw, 09 R252: Source flow. -/
abbrev STO_FLOW (n : Nat) : Nat := 0x70_0000 + 0x4000 * n + 0x0018
/-- STO_LENGTH, rw, 09 R252: Words per play; 0 unbounded. -/
abbrev STO_LENGTH (n : Nat) : Nat := 0x70_0000 + 0x4000 * n + 0x001C
/-- STO_CMD, wo, 09 R252: Commands. -/
abbrev STO_CMD (n : Nat) : Nat := 0x70_0000 + 0x4000 * n + 0x0020
/-- STO_AT_TS_LO, rw, 09 R252: START_AT instant [31:0]. -/
abbrev STO_AT_TS_LO (n : Nat) : Nat := 0x70_0000 + 0x4000 * n + 0x0024
/-- STO_AT_TS_HI, rw, 09 R252: START_AT instant [63:32]. -/
abbrev STO_AT_TS_HI (n : Nat) : Nat := 0x70_0000 + 0x4000 * n + 0x0028
/-- STO_TRIGCNT, ro, 09 R252: Plays started. -/
abbrev STO_TRIGCNT (n : Nat) : Nat := 0x70_0000 + 0x4000 * n + 0x002C
/-- STO_DROPCNT, ro, 09 R252: Triggers not accepted. -/
abbrev STO_DROPCNT (n : Nat) : Nat := 0x70_0000 + 0x4000 * n + 0x0030
/-- STO_UNDERCNT, ro, 09 R252: Words replaced. -/
abbrev STO_UNDERCNT (n : Nat) : Nat := 0x70_0000 + 0x4000 * n + 0x0034
/-- STO_SATCNT, ro, 09 R252: Saturated samples. -/
abbrev STO_SATCNT (n : Nat) : Nat := 0x70_0000 + 0x4000 * n + 0x0038
/-- STO_CNTCLR, wo, 09 R252: Counter clear. -/
abbrev STO_CNTCLR (n : Nat) : Nat := 0x70_0000 + 0x4000 * n + 0x003C
/-- STO_LAST_TS_LO, ro, 09 R252: Latest t_place [31:0]. -/
abbrev STO_LAST_TS_LO (n : Nat) : Nat := 0x70_0000 + 0x4000 * n + 0x0040
/-- STO_LAST_TS_HI, ro, 09 R252: Latest t_place [63:32]. -/
abbrev STO_LAST_TS_HI (n : Nat) : Nat := 0x70_0000 + 0x4000 * n + 0x0044
/-- STO_LAST_INFO, ro, 09 R252: Cause of the latest play. -/
abbrev STO_LAST_INFO (n : Nat) : Nat := 0x70_0000 + 0x4000 * n + 0x0048
/-- STO_GEN_CTL, rw, 09 R252: Generator type. -/
abbrev STO_GEN_CTL (n : Nat) : Nat := 0x70_0000 + 0x4000 * n + 0x0050
/-- STO_GEN_AMP, rw, 09 R252: AMP, s1.17. -/
abbrev STO_GEN_AMP (n : Nat) : Nat := 0x70_0000 + 0x4000 * n + 0x0054
/-- STO_GEN_FREQ, rw, 09 R252: FREQ or PERIOD. -/
abbrev STO_GEN_FREQ (n : Nat) : Nat := 0x70_0000 + 0x4000 * n + 0x0058
/-- STO_GEN_PHASE, rw, 09 R252: PHASE or WIDTH. -/
abbrev STO_GEN_PHASE (n : Nat) : Nat := 0x70_0000 + 0x4000 * n + 0x005C
/-- STO_GEN_RATE, rw, 09 R252: RATE or LOW. -/
abbrev STO_GEN_RATE (n : Nat) : Nat := 0x70_0000 + 0x4000 * n + 0x0060

-- TPT: base 0x78_0000, 16 × 0x1000 (R489)
/-- TPT_CTL, rw, 09 R253: Mode, standard, options. -/
abbrev TPT_CTL (n : Nat) : Nat := 0x78_0000 + 0x1000 * n + 0x0000
/-- TPT_STATUS, ro, 09 R253: State, level, group. -/
abbrev TPT_STATUS (n : Nat) : Nat := 0x78_0000 + 0x1000 * n + 0x0004
/-- TPT_FLAGS, w1c, 09 R253: Sticky flags. -/
abbrev TPT_FLAGS (n : Nat) : Nat := 0x78_0000 + 0x1000 * n + 0x0008
/-- TPT_DELAY, rw, 09 R253: Delay from t_place, ticks. -/
abbrev TPT_DELAY (n : Nat) : Nat := 0x78_0000 + 0x1000 * n + 0x000C
/-- TPT_WIDTH, rw, 09 R253: Pulse width, ticks. -/
abbrev TPT_WIDTH (n : Nat) : Nat := 0x78_0000 + 0x1000 * n + 0x0010
/-- TPT_PERIOD, rw, 09 R253: Pulse period, ticks. -/
abbrev TPT_PERIOD (n : Nat) : Nat := 0x78_0000 + 0x1000 * n + 0x0014
/-- TPT_COUNT, rw, 09 R253: Pulses per train; 0 unbounded. -/
abbrev TPT_COUNT (n : Nat) : Nat := 0x78_0000 + 0x1000 * n + 0x0018
/-- TPT_CMD, wo, 09 R253: Commands. -/
abbrev TPT_CMD (n : Nat) : Nat := 0x78_0000 + 0x1000 * n + 0x001C
/-- TPT_AT_TS_LO, rw, 09 R253: FIRE_AT instant [31:0]. -/
abbrev TPT_AT_TS_LO (n : Nat) : Nat := 0x78_0000 + 0x1000 * n + 0x0020
/-- TPT_AT_TS_HI, rw, 09 R253: FIRE_AT instant [63:32]. -/
abbrev TPT_AT_TS_HI (n : Nat) : Nat := 0x78_0000 + 0x1000 * n + 0x0024
/-- TPT_FRAME_NEXT, rw, 09 R253: Next frame number. -/
abbrev TPT_FRAME_NEXT (n : Nat) : Nat := 0x78_0000 + 0x1000 * n + 0x0028
/-- TPT_FIFO_TS_LO, ro, 09 R253: Oldest edge [31:0]. -/
abbrev TPT_FIFO_TS_LO (n : Nat) : Nat := 0x78_0000 + 0x1000 * n + 0x002C
/-- TPT_FIFO_TS_HI, ro, 09 R253: Oldest edge [63:32]. -/
abbrev TPT_FIFO_TS_HI (n : Nat) : Nat := 0x78_0000 + 0x1000 * n + 0x0030
/-- TPT_FIFO_INFO, ro, 09 R253: Oldest edge; read removes it. -/
abbrev TPT_FIFO_INFO (n : Nat) : Nat := 0x78_0000 + 0x1000 * n + 0x0034
/-- TPT_EDGECNT, ro, 09 R253: Edges stamped, or edges placed (active and return). -/
abbrev TPT_EDGECNT (n : Nat) : Nat := 0x78_0000 + 0x1000 * n + 0x0038
/-- TPT_LOSTCNT, ro, 09 R253: Edges lost to FIFO or log. -/
abbrev TPT_LOSTCNT (n : Nat) : Nat := 0x78_0000 + 0x1000 * n + 0x003C
/-- TPT_LATECNT, ro, 09 R253: Edges moved (R231). -/
abbrev TPT_LATECNT (n : Nat) : Nat := 0x78_0000 + 0x1000 * n + 0x0040
/-- TPT_DROPCNT, ro, 09 R253: Triggers dropped (R247). -/
abbrev TPT_DROPCNT (n : Nat) : Nat := 0x78_0000 + 0x1000 * n + 0x0044
/-- TPT_CNTCLR, wo, 09 R253: Counter clear. -/
abbrev TPT_CNTCLR (n : Nat) : Nat := 0x78_0000 + 0x1000 * n + 0x0048
/-- TPT_LOG_BASE_LO, rw, 09 R253: Log ring [31:4]. -/
abbrev TPT_LOG_BASE_LO (n : Nat) : Nat := 0x78_0000 + 0x1000 * n + 0x0050
/-- TPT_LOG_BASE_HI, rw, 09 R253: Log ring [40:32]. -/
abbrev TPT_LOG_BASE_HI (n : Nat) : Nat := 0x78_0000 + 0x1000 * n + 0x0054
/-- TPT_LOG_ENTRIES, rw, 09 R253: Ring length, entries. -/
abbrev TPT_LOG_ENTRIES (n : Nat) : Nat := 0x78_0000 + 0x1000 * n + 0x0058
/-- TPT_LOG_WR, ro, 09 R253: Entries written. -/
abbrev TPT_LOG_WR (n : Nat) : Nat := 0x78_0000 + 0x1000 * n + 0x005C
/-- TPT_LOG_RD, rw, 09 R253: Entries consumed. -/
abbrev TPT_LOG_RD (n : Nat) : Nat := 0x78_0000 + 0x1000 * n + 0x0060

-- CKS: base 0x80_0000, 1 × 0x1_0000 (R489)
/-- CKS_REF_CTL, rw, 10 R275: Reference selection. -/
abbrev CKS_REF_CTL : Nat := 0x80_0000
/-- CKS_STATUS, ro, 10 R275: Lock and gating state. -/
abbrev CKS_STATUS : Nat := 0x80_0004
/-- CKS_FLAGS, w1c, 10 R275: Sticky clock flags. -/
abbrev CKS_FLAGS : Nat := 0x80_0008
/-- CKS_CMD, wo, 10 R275: Commands. -/
abbrev CKS_CMD : Nat := 0x80_000C
/-- CKS_EPOCH, ro, 10 R275: Timebase epoch. -/
abbrev CKS_EPOCH : Nat := 0x80_0010
/-- CKS_LOSSCNT, ro, 10 R275: SPLL losses of lock. -/
abbrev CKS_LOSSCNT : Nat := 0x80_0014
/-- CKS_FREEZE_US, ro, 10 R275: Latest freeze duration. -/
abbrev CKS_FREEZE_US : Nat := 0x80_0018
/-- CKS_TICK_LO, ro, 10 R275: Tick counter [31:0]. -/
abbrev CKS_TICK_LO : Nat := 0x80_0020
/-- CKS_TICK_HI, ro, 10 R275: Tick counter [63:32]. -/
abbrev CKS_TICK_HI : Nat := 0x80_0024
/-- CKS_LOSS_TS_LO, ro, 10 R275: Onset of latest loss [31:0]. -/
abbrev CKS_LOSS_TS_LO : Nat := 0x80_0028
/-- CKS_LOSS_TS_HI, ro, 10 R275: Onset of latest loss [63:32]. -/
abbrev CKS_LOSS_TS_HI : Nat := 0x80_002C
/-- CKS_FREEZE_TS_LO, ro, 10 R275: G of latest freeze [31:0]. -/
abbrev CKS_FREEZE_TS_LO : Nat := 0x80_0030
/-- CKS_FREEZE_TS_HI, ro, 10 R275: G of latest freeze [63:32]. -/
abbrev CKS_FREEZE_TS_HI : Nat := 0x80_0034
/-- CKS_OUT, ro, 10 R275: Output o of R257. -/
abbrev CKS_OUT (i : Nat) : Nat := 0x80_0040 + 0x0004 * i
/-- CKS_MDLL_CTL, rw, 10 R275: MDLL m control. -/
abbrev CKS_MDLL_CTL (i : Nat) : Nat := 0x80_0080 + 0x0004 * i
/-- CKS_MDLL_STAT, ro, 10 R275: MDLL m state. -/
abbrev CKS_MDLL_STAT (i : Nat) : Nat := 0x80_00A0 + 0x0004 * i

-- MCH: base 0x90_0000, 8 × 0x1_0000 (R489)
/-- MCH_CFG, ro, 11 R303: Installed configuration. -/
abbrev MCH_CFG (n : Nat) : Nat := 0x90_0000 + 0x1_0000 * n + 0x0000
/-- MCH_CTL, rw, 11 R303: Channel options. -/
abbrev MCH_CTL (n : Nat) : Nat := 0x90_0000 + 0x1_0000 * n + 0x0004
/-- MCH_STATUS, ro, 11 R303: Phase and population. -/
abbrev MCH_STATUS (n : Nat) : Nat := 0x90_0000 + 0x1_0000 * n + 0x0008
/-- MCH_FLAGS, w1c, 11 R303: Sticky channel flags. -/
abbrev MCH_FLAGS (n : Nat) : Nat := 0x90_0000 + 0x1_0000 * n + 0x000C
/-- MCH_CMD, wo, 11 R303: Commands. -/
abbrev MCH_CMD (n : Nat) : Nat := 0x90_0000 + 0x1_0000 * n + 0x0010
/-- MCH_SR_IDLE, rw, 11 R303: Idle time before self-refresh. -/
abbrev MCH_SR_IDLE (n : Nat) : Nat := 0x90_0000 + 0x1_0000 * n + 0x0014
/-- MCH_SCRUB, rw, 11 R303: Scrub interval. -/
abbrev MCH_SCRUB (n : Nat) : Nat := 0x90_0000 + 0x1_0000 * n + 0x0018
/-- MCH_SCRUB_PASS, ro, 11 R303: Completed scrub passes. -/
abbrev MCH_SCRUB_PASS (n : Nat) : Nat := 0x90_0000 + 0x1_0000 * n + 0x001C
/-- MCH_CE_CNT, ro, 11 R303: Corrected errors. -/
abbrev MCH_CE_CNT (n : Nat) : Nat := 0x90_0000 + 0x1_0000 * n + 0x0020
/-- MCH_UE_CNT, ro, 11 R303: Uncorrectable errors. -/
abbrev MCH_UE_CNT (n : Nat) : Nat := 0x90_0000 + 0x1_0000 * n + 0x0024
/-- MCH_CAPAR_CNT, ro, 11 R303: CA parity replays and recoveries. -/
abbrev MCH_CAPAR_CNT (n : Nat) : Nat := 0x90_0000 + 0x1_0000 * n + 0x0028
/-- MCH_SR_ABORT, ro, 11 R303: Abandoned self-refresh entries. -/
abbrev MCH_SR_ABORT (n : Nat) : Nat := 0x90_0000 + 0x1_0000 * n + 0x002C
/-- MCH_SR_CNT, ro, 11 R303: Self-refresh entries. -/
abbrev MCH_SR_CNT (n : Nat) : Nat := 0x90_0000 + 0x1_0000 * n + 0x0030
/-- MCH_RH_CTL, rw, 11 R303: Row-disturbance threshold and rate. -/
abbrev MCH_RH_CTL (n : Nat) : Nat := 0x90_0000 + 0x1_0000 * n + 0x0034
/-- MCH_RFM_CNT, ro, 11 R303: RFM commands. -/
abbrev MCH_RFM_CNT (n : Nat) : Nat := 0x90_0000 + 0x1_0000 * n + 0x0038
/-- MCH_RH_REQ, ro, 11 R303: Latest throttled requester. -/
abbrev MCH_RH_REQ (n : Nat) : Nat := 0x90_0000 + 0x1_0000 * n + 0x003C
/-- MCH_RH_ROW, ro, 11 R303: Bank and row of the latest throttle. -/
abbrev MCH_RH_ROW (n : Nat) : Nat := 0x90_0000 + 0x1_0000 * n + 0x0040
/-- MCH_RAW_WAIT, ro, 11 R303: Reads held for writes. -/
abbrev MCH_RAW_WAIT (n : Nat) : Nat := 0x90_0000 + 0x1_0000 * n + 0x0044
/-- MCH_DROPCNT, ro, 11 R303: Write requests discarded by channel fault, one per 64-byte line or narrow write (R300). -/
abbrev MCH_DROPCNT (n : Nat) : Nat := 0x90_0000 + 0x1_0000 * n + 0x0048
/-- MCH_CNTCLR, wo, 11 R303: Counter clear. -/
abbrev MCH_CNTCLR (n : Nat) : Nat := 0x90_0000 + 0x1_0000 * n + 0x004C
/-- MCH_CE_ADDR_LO, ro, 11 R303: Latest corrected line [31:6]. -/
abbrev MCH_CE_ADDR_LO (n : Nat) : Nat := 0x90_0000 + 0x1_0000 * n + 0x0050
/-- MCH_CE_ADDR_HI, ro, 11 R303: Latest corrected line [40:32]. -/
abbrev MCH_CE_ADDR_HI (n : Nat) : Nat := 0x90_0000 + 0x1_0000 * n + 0x0054
/-- MCH_UE_ADDR_LO, ro, 11 R303: Latest uncorrectable line [31:6]. -/
abbrev MCH_UE_ADDR_LO (n : Nat) : Nat := 0x90_0000 + 0x1_0000 * n + 0x0058
/-- MCH_UE_ADDR_HI, ro, 11 R303: Latest uncorrectable line [40:32]. -/
abbrev MCH_UE_ADDR_HI (n : Nat) : Nat := 0x90_0000 + 0x1_0000 * n + 0x005C
/-- MCH_UE_INFO, ro, 11 R303: Group and slot of the latest uncorrectable line. -/
abbrev MCH_UE_INFO (n : Nat) : Nat := 0x90_0000 + 0x1_0000 * n + 0x0060
/-- MCH_EYE, ro, 11 R303: Narrowest eyes. -/
abbrev MCH_EYE (n : Nat) : Nat := 0x90_0000 + 0x1_0000 * n + 0x0064
/-- MCH_EYE_MIN, rw, 11 R303: Eye thresholds. -/
abbrev MCH_EYE_MIN (n : Nat) : Nat := 0x90_0000 + 0x1_0000 * n + 0x0068
/-- MCH_DIMM_TEMP, ro, 11 R303: DIMM temperatures. -/
abbrev MCH_DIMM_TEMP (n : Nat) : Nat := 0x90_0000 + 0x1_0000 * n + 0x006C

-- DMA: base 0xA0_0000, 1 × 0x1_0000 (R489)
/-- DMA_STATUS, ro, 12 R329: Active flows and burst slots. -/
abbrev DMA_STATUS : Nat := 0xA0_0000
/-- DMA_FLAGS, w1c, 12 R329: Sticky engine flags. -/
abbrev DMA_FLAGS : Nat := 0xA0_0004
/-- DMA_CMD, wo, 12 R329: Flow commands. -/
abbrev DMA_CMD : Nat := 0xA0_0008
/-- DMA_SEM_ADD, wo, 12 R329: Semaphore add. -/
abbrev DMA_SEM_ADD : Nat := 0xA0_000C
/-- DMA_BADCNT, ro, 12 R329: BAD moves and ERROR stops. -/
abbrev DMA_BADCNT : Nat := 0xA0_0010
/-- DMA_LAST_BAD, ro, 12 R329: Flow and cause of the latest. -/
abbrev DMA_LAST_BAD : Nat := 0xA0_0014
/-- DMA_LAST_BAD_PC_LO, ro, 12 R329: Its instruction address [31:4]. -/
abbrev DMA_LAST_BAD_PC_LO : Nat := 0xA0_0018
/-- DMA_LAST_BAD_PC_HI, ro, 12 R329: Its instruction address [40:32] and space. -/
abbrev DMA_LAST_BAD_PC_HI : Nat := 0xA0_001C
/-- DMA_CNTCLR, wo, 12 R329: Counter clear. -/
abbrev DMA_CNTCLR : Nat := 0xA0_0020

-- DMAF: base 0xA8_0000, 8192 × 0x0040 (R489)
/-- DMA_F_CTL, rw, 12 R330: Program space, ring, resumption. -/
abbrev DMA_F_CTL (n : Nat) : Nat := 0xA8_0000 + 0x0040 * n + 0x0000
/-- DMA_F_STATUS, ro, 12 R330: State, cause, loop activity. -/
abbrev DMA_F_STATUS (n : Nat) : Nat := 0xA8_0000 + 0x0040 * n + 0x0004
/-- DMA_F_ENTRY_LO, rw, 12 R330: Entry address [31:4]. -/
abbrev DMA_F_ENTRY_LO (n : Nat) : Nat := 0xA8_0000 + 0x0040 * n + 0x0008
/-- DMA_F_ENTRY_HI, rw, 12 R330: Entry address [40:32]. -/
abbrev DMA_F_ENTRY_HI (n : Nat) : Nat := 0xA8_0000 + 0x0040 * n + 0x000C
/-- DMA_F_PC_LO, ro, 12 R330: Program counter [31:4]. -/
abbrev DMA_F_PC_LO (n : Nat) : Nat := 0xA8_0000 + 0x0040 * n + 0x0010
/-- DMA_F_PC_HI, ro, 12 R330: Program counter [40:32]. -/
abbrev DMA_F_PC_HI (n : Nat) : Nat := 0xA8_0000 + 0x0040 * n + 0x0014
/-- DMA_F_SEM, ro, 12 R330: Semaphore. -/
abbrev DMA_F_SEM (n : Nat) : Nat := 0xA8_0000 + 0x0040 * n + 0x0018
/-- DMA_F_LOOP_A, ro, 12 R330: Counters 0 and 1. -/
abbrev DMA_F_LOOP_A (n : Nat) : Nat := 0xA8_0000 + 0x0040 * n + 0x001C
/-- DMA_F_LOOP_B, ro, 12 R330: Counters 2 and 3. -/
abbrev DMA_F_LOOP_B (n : Nat) : Nat := 0xA8_0000 + 0x0040 * n + 0x0020
/-- DMA_F_RATE, ro, 12 R330: Planned rate. -/
abbrev DMA_F_RATE (n : Nat) : Nat := 0xA8_0000 + 0x0040 * n + 0x0024
/-- DMA_F_PTR_LO, rw, 12 R330: Pointer [31:0]. -/
abbrev DMA_F_PTR_LO (n : Nat) : Nat := 0xA8_0000 + 0x0040 * n + 0x0028
/-- DMA_F_PTR_HI, rw, 12 R330: Pointer [40:32]. -/
abbrev DMA_F_PTR_HI (n : Nat) : Nat := 0xA8_0000 + 0x0040 * n + 0x002C
/-- DMA_F_RING_BASE_LO, rw, 12 R330: Ring base [31:0]. -/
abbrev DMA_F_RING_BASE_LO (n : Nat) : Nat := 0xA8_0000 + 0x0040 * n + 0x0030
/-- DMA_F_RING_BASE_HI, rw, 12 R330: Ring base [40:32]. -/
abbrev DMA_F_RING_BASE_HI (n : Nat) : Nat := 0xA8_0000 + 0x0040 * n + 0x0034
/-- DMA_F_RING_SIZE, rw, 12 R330: Ring size, bytes. -/
abbrev DMA_F_RING_SIZE (n : Nat) : Nat := 0xA8_0000 + 0x0040 * n + 0x0038
/-- DMA_F_BADCNT, ro, 12 R330: BAD moves of the flow. -/
abbrev DMA_F_BADCNT (n : Nat) : Nat := 0xA8_0000 + 0x0040 * n + 0x003C

-- CMP: base 0xB0_0000, 8 × 0x1000 (R489)
/-- CMP_CTL, rw, 13 R347: Engine enable. -/
abbrev CMP_CTL (n : Nat) : Nat := 0xB0_0000 + 0x1000 * n + 0x0000
/-- CMP_STATUS, ro, 13 R347: State and queue depth. -/
abbrev CMP_STATUS (n : Nat) : Nat := 0xB0_0000 + 0x1000 * n + 0x0004
/-- CMP_FLAGS, w1c, 13 R347: Sticky flags. -/
abbrev CMP_FLAGS (n : Nat) : Nat := 0xB0_0000 + 0x1000 * n + 0x0008
/-- CMP_SUBMIT_LO, wo, 13 R347: Descriptor address [31:6]. -/
abbrev CMP_SUBMIT_LO (n : Nat) : Nat := 0xB0_0000 + 0x1000 * n + 0x000C
/-- CMP_SUBMIT_HI, wo, 13 R347: Descriptor address [40:32], operation; submits. -/
abbrev CMP_SUBMIT_HI (n : Nat) : Nat := 0xB0_0000 + 0x1000 * n + 0x0010
/-- CMP_CMD, wo, 13 R347: Commands. -/
abbrev CMP_CMD (n : Nat) : Nat := 0xB0_0000 + 0x1000 * n + 0x0014
/-- CMP_JOBCNT, ro, 13 R347: Completed jobs. -/
abbrev CMP_JOBCNT (n : Nat) : Nat := 0xB0_0000 + 0x1000 * n + 0x0018
/-- CMP_ERRCNT, ro, 13 R347: Jobs ended otherwise. -/
abbrev CMP_ERRCNT (n : Nat) : Nat := 0xB0_0000 + 0x1000 * n + 0x001C
/-- CMP_CNTCLR, wo, 13 R347: Counter clear. -/
abbrev CMP_CNTCLR (n : Nat) : Nat := 0xB0_0000 + 0x1000 * n + 0x0020
/-- CMP_CUR_LO, ro, 13 R347: Running descriptor [31:6]. -/
abbrev CMP_CUR_LO (n : Nat) : Nat := 0xB0_0000 + 0x1000 * n + 0x0024
/-- CMP_CUR_HI, ro, 13 R347: Running descriptor [40:32]. -/
abbrev CMP_CUR_HI (n : Nat) : Nat := 0xB0_0000 + 0x1000 * n + 0x0028

-- EVC: base 0xC0_0000, 1 × 0x1_0000 (R489)
/-- EVC_CTL, rw, 14 R367: Global disable. -/
abbrev EVC_CTL : Nat := 0xC0_0000
/-- EVC_STATUS, ro, 14 R367: Pending count. -/
abbrev EVC_STATUS : Nat := 0xC0_0004
/-- EVC_FLAGS, w1c, 14 R367: Sticky flags. -/
abbrev EVC_FLAGS : Nat := 0xC0_0008
/-- EVC_MERGECNT, ro, 14 R367: Merged set pulses. -/
abbrev EVC_MERGECNT : Nat := 0xC0_000C
/-- EVC_CNTCLR, wo, 14 R367: Counter clear. -/
abbrev EVC_CNTCLR : Nat := 0xC0_0010
/-- EVC_SLEEP_STAT, ro, 14 R367: Sleep state of MGC and device. -/
abbrev EVC_SLEEP_STAT : Nat := 0xC0_0014
/-- EVC_WAKE_SRC, ro, 14 R367: Latest waking sources. -/
abbrev EVC_WAKE_SRC : Nat := 0xC0_0018
/-- EVC_T_CTL, rw, 14 R367: Threshold, mask, mode, window. -/
abbrev EVC_T_CTL (i : Nat) : Nat := 0xC0_0020 + 0x0020 * i
/-- EVC_T_STATUS, ro, 14 R367: Running priority, in-service count. -/
abbrev EVC_T_STATUS (i : Nat) : Nat := 0xC0_0024 + 0x0020 * i
/-- EVC_T_CLAIM, ro, 14 R367: Claim. -/
abbrev EVC_T_CLAIM (i : Nat) : Nat := 0xC0_0028 + 0x0020 * i
/-- EVC_T_COMPLETE, wo, 14 R367: Complete. -/
abbrev EVC_T_COMPLETE (i : Nat) : Nat := 0xC0_002C + 0x0020 * i
/-- EVC_T_CLAIM_TS_LO, ro, 14 R367: Pending tick of latest claim [31:0]. -/
abbrev EVC_T_CLAIM_TS_LO (i : Nat) : Nat := 0xC0_0030 + 0x0020 * i
/-- EVC_T_CLAIM_TS_HI, ro, 14 R367: Pending tick of latest claim [63:32]. -/
abbrev EVC_T_CLAIM_TS_HI (i : Nat) : Nat := 0xC0_0034 + 0x0020 * i
/-- EVC_SRC_CFG, rw, 14 R367: Source s configuration, s = 1–1,471. -/
abbrev EVC_SRC_CFG (i : Nat) : Nat := 0xC0_1000 + 0x0004 * i
/-- EVC_SRC_STAT, ro, w1c, 14 R367: Source s state. -/
abbrev EVC_SRC_STAT (i : Nat) : Nat := 0xC0_3000 + 0x0004 * i

-- HLK: base 0xD0_0000, 1 × 0x1_0000 (R489)
/-- HLK_CTL, rw, 15 R400: Mode, FEC, negotiation, authentication, window. -/
abbrev HLK_CTL : Nat := 0xD0_0000
/-- HLK_STATUS, ro, 15 R400: Links, sessions, streams, key. -/
abbrev HLK_STATUS : Nat := 0xD0_0004
/-- HLK_FLAGS, w1c, 15 R400: Sticky link and session flags. -/
abbrev HLK_FLAGS : Nat := 0xD0_0008
/-- HLK_ERR, w1c, 15 R400: Sticky transaction errors. -/
abbrev HLK_ERR : Nat := 0xD0_000C
/-- HLK_GATED_ADDR, ro, 15 R400: Address of the latest gated write. -/
abbrev HLK_GATED_ADDR : Nat := 0xD0_0010
/-- HLK_REFUSED_ADDR, ro, 15 R400: Address of the latest refused write. -/
abbrev HLK_REFUSED_ADDR : Nat := 0xD0_0014
/-- HLK_CMD, wo, 15 R400: Commands. -/
abbrev HLK_CMD : Nat := 0xD0_0018
/-- HLK_SESS_TO, rw, 15 R400: Session timeout, ms. -/
abbrev HLK_SESS_TO : Nat := 0xD0_001C
/-- HLK_RTO, rw, 15 R400: Resend timers. -/
abbrev HLK_RTO : Nat := 0xD0_0020
/-- HLK_MAC_LO, ro, 15 R400: Factory MAC address [31:0]. -/
abbrev HLK_MAC_LO : Nat := 0xD0_0024
/-- HLK_MAC_HI, ro, 15 R400: Factory MAC address [47:32]. -/
abbrev HLK_MAC_HI : Nat := 0xD0_0028
/-- HLK_UDP_PORT, rw, 15 R400: BTP port. -/
abbrev HLK_UDP_PORT : Nat := 0xD0_002C
/-- HLK_IF_ADDR, rw, 15 R400: Static IPv4 address of interface n. -/
abbrev HLK_IF_ADDR (i : Nat) : Nat := 0xD0_0030 + 0x0010 * i
/-- HLK_IF_MASK, rw, 15 R400: Static IPv4 mask. -/
abbrev HLK_IF_MASK (i : Nat) : Nat := 0xD0_0034 + 0x0010 * i
/-- HLK_IF_GW, rw, 15 R400: Static IPv4 router. -/
abbrev HLK_IF_GW (i : Nat) : Nat := 0xD0_0038 + 0x0010 * i
/-- HLK_IF_CFG, rw, 15 R400: DHCP switch; address in use. -/
abbrev HLK_IF_CFG (i : Nat) : Nat := 0xD0_003C + 0x0010 * i
/-- HLK_IPV6_W, rw, 15 R400: Static IPv6 address of interface 0, word w from the least significant. -/
abbrev HLK_IPV6_W (i : Nat) : Nat := 0xD0_0070 + 0x0004 * i
/-- HLK_KEY, wo, 15 R400: Device key, word i (R380). -/
abbrev HLK_KEY (i : Nat) : Nat := 0xD0_0080 + 0x0004 * i
/-- HLK_RXCNT, ro, 15 R400: BTP messages accepted. -/
abbrev HLK_RXCNT : Nat := 0xD0_00A0
/-- HLK_TXCNT, ro, 15 R400: BTP messages sent. -/
abbrev HLK_TXCNT : Nat := 0xD0_00A4
/-- HLK_DUPCNT, ro, 15 R400: Duplicate requests (R381). -/
abbrev HLK_DUPCNT : Nat := 0xD0_00A8
/-- HLK_DROPCNT, ro, 15 R400: Messages discarded (R375, R381). -/
abbrev HLK_DROPCNT : Nat := 0xD0_00AC
/-- HLK_AUTHFAIL, ro, 15 R400: Tag failures (R379). -/
abbrev HLK_AUTHFAIL : Nat := 0xD0_00B0
/-- HLK_RETXCNT, ro, 15 R400: DATA frames sent again. -/
abbrev HLK_RETXCNT : Nat := 0xD0_00B4
/-- HLK_MACDROP, ro, 15 R400: Frames discarded by the MAC (R370). -/
abbrev HLK_MACDROP : Nat := 0xD0_00B8
/-- HLK_CNTCLR, wo, 15 R400: Counter clear. -/
abbrev HLK_CNTCLR : Nat := 0xD0_00BC
/-- HLK_EYE, ro, 15 R400: Eye width per lane. -/
abbrev HLK_EYE : Nat := 0xD0_00C0
/-- HLK_S_ID, ro, 15 R400: Session s identifier, s = 0–7. -/
abbrev HLK_S_ID (i : Nat) : Nat := 0xD0_0100 + 0x0008 * i
/-- HLK_S_INFO, ro, 15 R400: Session s state. -/
abbrev HLK_S_INFO (i : Nat) : Nat := 0xD0_0104 + 0x0008 * i

-- CHN: base 0xE0_0000, 1 × 0x1_0000 (R489)
/-- CHN_CTL, rw, 16 R425: Addressing, loopback, downstream port. -/
abbrev CHN_CTL : Nat := 0xE0_0000
/-- CHN_STATUS, ro, 16 R425: Role, address, alignment, links. -/
abbrev CHN_STATUS : Nat := 0xE0_0004
/-- CHN_FLAGS, w1c, 16 R425: Sticky chain flags. -/
abbrev CHN_FLAGS : Nat := 0xE0_0008
/-- CHN_CMD, wo, 16 R425: Commands. -/
abbrev CHN_CMD : Nat := 0xE0_000C
/-- CHN_GEN, ro, 16 R425: Enumeration generation. -/
abbrev CHN_GEN : Nat := 0xE0_0010
/-- CHN_RELEASE, ro, 16 R425: Release delay, ticks. -/
abbrev CHN_RELEASE : Nat := 0xE0_0014
/-- CHN_HOP, ro, 16 R425: Upstream hop delay. -/
abbrev CHN_HOP : Nat := 0xE0_0018
/-- CHN_OFFSET, ro, 16 R425: Mean offset of the latest round. -/
abbrev CHN_OFFSET : Nat := 0xE0_001C
/-- CHN_EYE, ro, 16 R425: Narrowest receive eyes. -/
abbrev CHN_EYE : Nat := 0xE0_0020
/-- CHN_EYE_MIN, rw, 16 R425: Eye thresholds. -/
abbrev CHN_EYE_MIN : Nat := 0xE0_0024
/-- CHN_ASYM, rw, 16 R425: Hop asymmetry correction. -/
abbrev CHN_ASYM : Nat := 0xE0_0028
/-- CHN_TRIGTX, ro, 16 R425: Trigger messages originated. -/
abbrev CHN_TRIGTX : Nat := 0xE0_002C
/-- CHN_TRIGRX, ro, 16 R425: Trigger messages taken. -/
abbrev CHN_TRIGRX : Nat := 0xE0_0030
/-- CHN_TRIGDROP, ro, 16 R425: Trigger cells dropped. -/
abbrev CHN_TRIGDROP : Nat := 0xE0_0034
/-- CHN_CRCERR, ro, 16 R425: Cells discarded. -/
abbrev CHN_CRCERR : Nat := 0xE0_0038
/-- CHN_RETX, ro, 16 R425: Cells resent. -/
abbrev CHN_RETX : Nat := 0xE0_003C
/-- CHN_CNTCLR, wo, 16 R425: Counter clear. -/
abbrev CHN_CNTCLR : Nat := 0xE0_0040
/-- CHN_REVT_TS_LO, ro, 16 R425: Oldest remote event CLAIM_TS [31:0]. -/
abbrev CHN_REVT_TS_LO : Nat := 0xE0_0044
/-- CHN_REVT_TS_HI, ro, 16 R425: Oldest remote event CLAIM_TS [63:32]. -/
abbrev CHN_REVT_TS_HI : Nat := 0xE0_0048
/-- CHN_REVT_INFO, ro, 16 R425: Oldest remote event; read removes it. -/
abbrev CHN_REVT_INFO : Nat := 0xE0_004C
/-- CHN_REVT_STAT, ro, 16 R425: FIFO occupancy. -/
abbrev CHN_REVT_STAT : Nat := 0xE0_0050
/-- CHN_CMDSTAT, ro, 16 R425: Latest chain command. -/
abbrev CHN_CMDSTAT : Nat := 0xE0_0054
/-- CHN_PTP_CTL, rw, 16 R425: PTP role and domain. -/
abbrev CHN_PTP_CTL : Nat := 0xE0_0058
/-- CHN_MAP_TICK_LO, ro, 16 R425: MAP_TICK [31:0]. -/
abbrev CHN_MAP_TICK_LO : Nat := 0xE0_005C
/-- CHN_MAP_TICK_HI, ro, 16 R425: MAP_TICK [63:32]. -/
abbrev CHN_MAP_TICK_HI : Nat := 0xE0_0060
/-- CHN_MAP_SEC_LO, rw, 16 R425: MAP_SEC [31:0]. -/
abbrev CHN_MAP_SEC_LO : Nat := 0xE0_0064
/-- CHN_MAP_SEC_HI, rw, 16 R425: MAP_SEC [47:32]. -/
abbrev CHN_MAP_SEC_HI : Nat := 0xE0_0068
/-- CHN_MAP_NS, rw, 16 R425: MAP_NS. -/
abbrev CHN_MAP_NS : Nat := 0xE0_006C
/-- CHN_MAP_RATE, rw, 16 R425: MAP_RATE. -/
abbrev CHN_MAP_RATE : Nat := 0xE0_0070
/-- CHN_RES, ro, 16 R425: Chain command result of address a. -/
abbrev CHN_RES (i : Nat) : Nat := 0xE0_0100 + 0x0004 * i

-- CFG: base 0xF0_0000, 1 × 0x1_0000 (R489)
/-- CFG_CTL, rw, 17 R447: Boot source. -/
abbrev CFG_CTL : Nat := 0xF0_0000
/-- CFG_STATUS, ro, 17 R447: Activity, results, active source. -/
abbrev CFG_STATUS : Nat := 0xF0_0004
/-- CFG_FLAGS, w1c, 17 R447: Sticky flags. -/
abbrev CFG_FLAGS : Nat := 0xF0_0008
/-- CFG_CMD, wo, 17 R447: Store commands. -/
abbrev CFG_CMD : Nat := 0xF0_000C
/-- CFG_STAGE_LO, rw, 17 R447: Staging address [31:6]. -/
abbrev CFG_STAGE_LO : Nat := 0xF0_0010
/-- CFG_STAGE_HI, rw, 17 R447: Staging address [40:32]. -/
abbrev CFG_STAGE_HI : Nat := 0xF0_0014
/-- CFG_GEN, ro, 17 R447: Device generation counter. -/
abbrev CFG_GEN : Nat := 0xF0_0018
/-- CFG_ACTIVE_ID_LO, ro, 17 R447: IMAGE_ID of the active image [31:0]. -/
abbrev CFG_ACTIVE_ID_LO : Nat := 0xF0_001C
/-- CFG_ACTIVE_ID_HI, ro, 17 R447: IMAGE_ID [63:32]. -/
abbrev CFG_ACTIVE_ID_HI : Nat := 0xF0_0020
/-- CFG_ACTIVE_VER, ro, 17 R447: VERSION of the active image. -/
abbrev CFG_ACTIVE_VER : Nat := 0xF0_0024
/-- CFG_LOADED_REGIONS, ro, 17 R447: Regions loaded by REGION_LOAD. -/
abbrev CFG_LOADED_REGIONS : Nat := 0xF0_0028
/-- CFG_KEYSTAT, ro, 17 R447: Installed keys. -/
abbrev CFG_KEYSTAT : Nat := 0xF0_002C
/-- CFG_WEAR, ro, 17 R447: Wear of the worst blocks. -/
abbrev CFG_WEAR : Nat := 0xF0_0030
/-- CFG_SLOT_STATUS, ro, 17 R447: Slot s = 0–2 validity, key, writes. -/
abbrev CFG_SLOT_STATUS (i : Nat) : Nat := 0xF0_0040 + 0x0010 * i
/-- CFG_SLOT_ID_LO, ro, 17 R447: Slot IMAGE_ID [31:0]. -/
abbrev CFG_SLOT_ID_LO (i : Nat) : Nat := 0xF0_0044 + 0x0010 * i
/-- CFG_SLOT_ID_HI, ro, 17 R447: Slot IMAGE_ID [63:32]. -/
abbrev CFG_SLOT_ID_HI (i : Nat) : Nat := 0xF0_0048 + 0x0010 * i
/-- CFG_SLOT_VER, ro, 17 R447: Slot VERSION. -/
abbrev CFG_SLOT_VER (i : Nat) : Nat := 0xF0_004C + 0x0010 * i
/-- CFG_G_SHADOW, rw, 17 R447: Group g shadow control. -/
abbrev CFG_G_SHADOW (i : Nat) : Nat := 0xF0_0100 + 0x0010 * i
/-- CFG_G_GEN, ro, 17 R447: Generation in force for group g. -/
abbrev CFG_G_GEN (i : Nat) : Nat := 0xF0_0104 + 0x0010 * i
/-- CFG_G_HOTS_LO, ro, 17 R447: Latest hand-over tick [31:0]. -/
abbrev CFG_G_HOTS_LO (i : Nat) : Nat := 0xF0_0108 + 0x0010 * i
/-- CFG_G_HOTS_HI, ro, 17 R447: Latest hand-over tick [63:32]. -/
abbrev CFG_G_HOTS_HI (i : Nat) : Nat := 0xF0_010C + 0x0010 * i
/-- CFG_SH_ADDR, rw, 17 R447: Entry e = 0–255: register address. -/
abbrev CFG_SH_ADDR (i j : Nat) : Nat := 0xF0_1000 + 0x0800 * i + 0x0008 * j
/-- CFG_SH_DATA, rw, 17 R447: Entry e: value. -/
abbrev CFG_SH_DATA (i j : Nat) : Nat := 0xF0_1004 + 0x0800 * i + 0x0008 * j

-- DEV: base 0x0000, 1 × 0x1_0000 (R489)
/-- DEV_RESET_CAUSE, ro, 18 R471: Kind of the latest reset. -/
abbrev DEV_RESET_CAUSE : Nat := 0x0020
/-- DEV_BOOT_STAT, ro, 18 R471: Boot stage and held fault. -/
abbrev DEV_BOOT_STAT : Nat := 0x0024
/-- DEV_BOOT_TIME, ro, 18 R471: Duration of the latest BOOT. -/
abbrev DEV_BOOT_TIME : Nat := 0x0028

-- PWR: base 0x100_0000, 1 × 0x1_0000 (R489)
/-- PWR_DOM_CTL, rw, 18 R472: Domain targets. -/
abbrev PWR_DOM_CTL : Nat := 0x100_0000
/-- PWR_DOM_STAT, ro, 18 R472: Domain states. -/
abbrev PWR_DOM_STAT : Nat := 0x100_0004
/-- PWR_FLAGS, w1c, 18 R472: Sticky power flags. -/
abbrev PWR_FLAGS : Nat := 0x100_0008
/-- PWR_VDDC, ro, 18 R472: Measured VDDC. -/
abbrev PWR_VDDC : Nat := 0x100_000C
/-- PWR_AVS_STAT, ro, 18 R472: Latest AVSBus status. -/
abbrev PWR_AVS_STAT : Nat := 0x100_0010
/-- PWR_PARKCNT, ro, 18 R472: Flows parked. -/
abbrev PWR_PARKCNT : Nat := 0x100_0014
/-- PWR_LOSTCNT, ro, 18 R472: Flows ended DOMAIN_LOST. -/
abbrev PWR_LOSTCNT : Nat := 0x100_0018
/-- PWR_CNTCLR, wo, 18 R472: Counter clear. -/
abbrev PWR_CNTCLR : Nat := 0x100_001C
/-- PWR_RAIL_STAT, ro, 18 R472: Rails within range. -/
abbrev PWR_RAIL_STAT : Nat := 0x100_0020
/-- PWR_STANDBY_US, ro, 18 R472: Latest standby entry time. -/
abbrev PWR_STANDBY_US : Nat := 0x100_0024

-- MON: base 0x110_0000, 1 × 0x1_0000 (R489)
/-- MON_CTL, rw, 19 R487: Health records. -/
abbrev MON_CTL : Nat := 0x110_0000
/-- MON_FLAGS, w1c, 19 R487: Sticky flags. -/
abbrev MON_FLAGS : Nat := 0x110_0004
/-- MON_SNAP_CMD, wo, 19 R487: Snapshot commands. -/
abbrev MON_SNAP_CMD : Nat := 0x110_0008
/-- MON_SNAP_STAT, ro, 19 R487: Snapshot state. -/
abbrev MON_SNAP_STAT : Nat := 0x110_000C
/-- MON_SNAP_SEQ, ro, 19 R487: Latest sequence number. -/
abbrev MON_SNAP_SEQ : Nat := 0x110_0010
/-- MON_SNAP_T_LO, rw, 19 R487: T [31:0]. -/
abbrev MON_SNAP_T_LO : Nat := 0x110_0014
/-- MON_SNAP_T_HI, rw, 19 R487: T [63:32]. -/
abbrev MON_SNAP_T_HI : Nat := 0x110_0018
/-- MON_CNTCLR, wo, 19 R487: Count clear. -/
abbrev MON_CNTCLR : Nat := 0x110_001C
/-- MON_TEMP_WARN, rw, 19 R487: Temperature threshold. -/
abbrev MON_TEMP_WARN : Nat := 0x110_0020
/-- MON_LOG_HEAD, ro, 19 R487: Next log SEQ. -/
abbrev MON_LOG_HEAD : Nat := 0x110_0024
/-- MON_LOG_SEL, rw, 19 R487: Selected entry. -/
abbrev MON_LOG_SEL : Nat := 0x110_0028
/-- MON_LOG_STAT, ro, 19 R487: Selection valid; entries held. -/
abbrev MON_LOG_STAT : Nat := 0x110_002C
/-- MON_LOG_CMD, wo, 19 R487: Log clear. -/
abbrev MON_LOG_CMD : Nat := 0x110_0030
/-- MON_LOG_W, ro, 19 R487: Word w of the selected entry. -/
abbrev MON_LOG_W (i : Nat) : Nat := 0x110_0040 + 0x0004 * i
/-- MON_TEMP, ro, 19 R487: Sensor d. -/
abbrev MON_TEMP (i : Nat) : Nat := 0x110_0080 + 0x0004 * i
/-- MON_CNT_CFG, rw, 19 R487: Counter c source and mode. -/
abbrev MON_CNT_CFG (i : Nat) : Nat := 0x110_1000 + 0x0020 * i
/-- MON_CNT_LIVE_LO, ro, 19 R487: Count [31:0]. -/
abbrev MON_CNT_LIVE_LO (i : Nat) : Nat := 0x110_1004 + 0x0020 * i
/-- MON_CNT_LIVE_HI, ro, 19 R487: Count [47:32]. -/
abbrev MON_CNT_LIVE_HI (i : Nat) : Nat := 0x110_1008 + 0x0020 * i
/-- MON_CNT_SNAP_LO, ro, 19 R487: Snapshot [31:0]. -/
abbrev MON_CNT_SNAP_LO (i : Nat) : Nat := 0x110_100C + 0x0020 * i
/-- MON_CNT_SNAP_HI, ro, 19 R487: Valid; snapshot [47:32]. -/
abbrev MON_CNT_SNAP_HI (i : Nat) : Nat := 0x110_1010 + 0x0020 * i
/-- MON_CNT_SNAP_SEQ, ro, 19 R487: Sequence of the snapshot. -/
abbrev MON_CNT_SNAP_SEQ (i : Nat) : Nat := 0x110_1014 + 0x0020 * i
/-- MON_AV_UP_LO, ro, 19 R487: UP [31:0]. -/
abbrev MON_AV_UP_LO (i : Nat) : Nat := 0x110_6000 + 0x0010 * i
/-- MON_AV_UP_HI, ro, 19 R487: UP [63:32]. -/
abbrev MON_AV_UP_HI (i : Nat) : Nat := 0x110_6004 + 0x0010 * i
/-- MON_AV_DOWN_LO, ro, 19 R487: DOWN [31:0]. -/
abbrev MON_AV_DOWN_LO (i : Nat) : Nat := 0x110_6008 + 0x0010 * i
/-- MON_AV_DOWN_HI, ro, 19 R487: DOWN [63:32]. -/
abbrev MON_AV_DOWN_HI (i : Nat) : Nat := 0x110_600C + 0x0010 * i

-- TST: base 0x120_0000, 1 × 0x1_0000 (R489)
/-- TST_UNLOCK, wo, 19 R488: Unlock words; 0 locks. -/
abbrev TST_UNLOCK : Nat := 0x120_0000
/-- TST_STATUS, ro, 19 R488: Lock state. -/
abbrev TST_STATUS : Nat := 0x120_0004
/-- TST_HSD, rw, 19 R488: Handshake delay. -/
abbrev TST_HSD : Nat := 0x120_0008
/-- TST_BP, rw, 19 R488: Forced back-pressure. -/
abbrev TST_BP : Nat := 0x120_000C
/-- TST_MEMLAT, rw, 19 R488: Memory latency stretch. -/
abbrev TST_MEMLAT : Nat := 0x120_0010
/-- TST_CAPAR, rw, 19 R488: CA parity injection. -/
abbrev TST_CAPAR : Nat := 0x120_0014
/-- TST_CHNERR, rw, 19 R488: Chain line error injection. -/
abbrev TST_CHNERR : Nat := 0x120_0018
/-- TST_SOFS, rw, 19 R488: Sentinel offset, region r. -/
abbrev TST_SOFS (i : Nat) : Nat := 0x120_0020 + 0x0004 * i

end Sys2Proof.Machine.Reg

namespace Sys2Proof.Machine.F

abbrev DEV_ID_PART : Fld := ⟨16, 16⟩
abbrev DEV_ID_FAMILY : Fld := ⟨8, 8⟩
abbrev DEV_STEPPING_LETTER : Fld := ⟨8, 8⟩
abbrev DEV_STEPPING_DIGIT : Fld := ⟨0, 8⟩
abbrev DEV_STATE_STATE : Fld := ⟨0, 3⟩
abbrev DEV_FAULT_CAUSE_STORE : Fld := ⟨4, 1⟩
abbrev DEV_FAULT_CAUSE_WATCHDOG : Fld := ⟨3, 1⟩
abbrev DEV_FAULT_CAUSE_RAIL : Fld := ⟨2, 1⟩
abbrev DEV_FAULT_CAUSE_THERMAL : Fld := ⟨1, 1⟩
abbrev DEV_FAULT_CAUSE_DIE_LINK : Fld := ⟨0, 1⟩
abbrev FAB_CTL_FORCE_VMAX : Fld := ⟨2, 1⟩
abbrev FAB_CTL_HOLD : Fld := ⟨1, 1⟩
abbrev FAB_CTL_PLAN_EN : Fld := ⟨0, 1⟩
abbrev FAB_STATUS_WORST_MARGIN : Fld := ⟨16, 16⟩
abbrev FAB_STATUS_LOAD_REGIONS : Fld := ⟨8, 8⟩
abbrev FAB_STATUS_LOSS_HOLD : Fld := ⟨7, 1⟩
abbrev FAB_STATUS_QUALIFIED : Fld := ⟨6, 1⟩
abbrev FAB_STATUS_SETTLING : Fld := ⟨5, 1⟩
abbrev FAB_STATUS_AT_VMIN : Fld := ⟨4, 1⟩
abbrev FAB_STATUS_AT_VMAX : Fld := ⟨3, 1⟩
abbrev FAB_STATUS_WORST_REGION : Fld := ⟨0, 3⟩
abbrev FAB_FLAGS_AVS_FAULT : Fld := ⟨6, 1⟩
abbrev FAB_FLAGS_SENTINEL_LOSS : Fld := ⟨5, 1⟩
abbrev FAB_FLAGS_SENTINEL_FAULT : Fld := ⟨4, 1⟩
abbrev FAB_FLAGS_BELOW_PLAN : Fld := ⟨3, 1⟩
abbrev FAB_FLAGS_HEADROOM_LOW : Fld := ⟨2, 1⟩
abbrev FAB_FLAGS_MARGIN_EXHAUSTED : Fld := ⟨1, 1⟩
abbrev FAB_FLAGS_MARGIN_LOW : Fld := ⟨0, 1⟩
abbrev FAB_VDDC_MAX_SEEN : Fld := ⟨16, 10⟩
abbrev FAB_VDDC_TARGET : Fld := ⟨0, 10⟩
abbrev FAB_VLIMIT_VMAX : Fld := ⟨16, 10⟩
abbrev FAB_VLIMIT_VMIN : Fld := ⟨0, 10⟩
abbrev FAB_PLAN_CTL_DOWN_PERIODS : Fld := ⟨24, 8⟩
abbrev FAB_PLAN_CTL_STEP : Fld := ⟨16, 5⟩
abbrev FAB_PLAN_CTL_SETTLE : Fld := ⟨8, 8⟩
abbrev FAB_PLAN_CTL_PERIOD : Fld := ⟨0, 8⟩
abbrev FAB_THRESH_A_EXHAUST : Fld := ⟨16, 16⟩
abbrev FAB_THRESH_A_TARGET : Fld := ⟨0, 16⟩
abbrev FAB_THRESH_B_HEADROOM : Fld := ⟨16, 16⟩
abbrev FAB_THRESH_B_DOWN : Fld := ⟨0, 16⟩
abbrev FAB_AVS_ERRCNT_COUNT : Fld := ⟨0, 16⟩
abbrev FAB_RPLAN_LANES : Fld := ⟨16, 11⟩
abbrev FAB_RPLAN_PLAN : Fld := ⟨0, 16⟩
abbrev FAB_RCAP_VALID : Fld := ⟨31, 1⟩
abbrev FAB_RCAP_WORST : Fld := ⟨16, 5⟩
abbrev FAB_RCAP_CAP : Fld := ⟨0, 16⟩
abbrev FAB_RMARGIN_EST_VMAX : Fld := ⟨16, 16⟩
abbrev FAB_RMARGIN_MARGIN : Fld := ⟨0, 16⟩
abbrev FAB_SENT_VALID : Fld := ⟨31, 1⟩
abbrev FAB_SENT_STALE : Fld := ⟨30, 1⟩
abbrev FAB_SENT_SEQ : Fld := ⟨16, 8⟩
abbrev FAB_SENT_COUNT : Fld := ⟨0, 16⟩
abbrev FCH_CTL_MODE : Fld := ⟨4, 2⟩
abbrev FCH_CTL_BWL : Fld := ⟨2, 2⟩
abbrev FCH_CTL_PAIRED : Fld := ⟨1, 1⟩
abbrev FCH_CTL_ENABLE : Fld := ⟨0, 1⟩
abbrev FCH_STATUS_GROUP : Fld := ⟨4, 5⟩
abbrev FCH_STATUS_STATE : Fld := ⟨0, 2⟩
abbrev FCH_FLAGS_LOST : Fld := ⟨3, 1⟩
abbrev FCH_FLAGS_OVR_HARD : Fld := ⟨2, 1⟩
abbrev FCH_FLAGS_OVR_NEG : Fld := ⟨1, 1⟩
abbrev FCH_FLAGS_OVR_POS : Fld := ⟨0, 1⟩
abbrev FCH_CNTCLR_CLR_LOST : Fld := ⟨1, 1⟩
abbrev FCH_CNTCLR_CLR_OVR : Fld := ⟨0, 1⟩
abbrev FCH_PATTERN_CODE : Fld := ⟨0, 12⟩
abbrev FCH_LANELOST_ODD : Fld := ⟨16, 16⟩
abbrev FCH_LANELOST_EVEN : Fld := ⟨0, 16⟩
abbrev FCAL_CTL_WRITEBACK : Fld := ⟨12, 1⟩
abbrev FCAL_CTL_SCHED_EN : Fld := ⟨8, 4⟩
abbrev FCAL_CTL_DEFER : Fld := ⟨4, 2⟩
abbrev FCAL_CTL_GUARD : Fld := ⟨0, 3⟩
abbrev FCAL_INTERVAL_MS : Fld := ⟨0, 17⟩
abbrev FCAL_DEFER_MAX_S : Fld := ⟨0, 16⟩
abbrev FCAL_CMD_OP : Fld := ⟨4, 3⟩
abbrev FCAL_CMD_PORT : Fld := ⟨0, 2⟩
abbrev FCAL_STATUS_GUARD_ACTIVE : Fld := ⟨16, 1⟩
abbrev FCAL_STATUS_SPARE_OK : Fld := ⟨12, 4⟩
abbrev FCAL_STATUS_PENDING : Fld := ⟨8, 4⟩
abbrev FCAL_STATUS_PHASE : Fld := ⟨4, 3⟩
abbrev FCAL_STATUS_ACTIVE : Fld := ⟨3, 1⟩
abbrev FCAL_STATUS_ACTIVE_PORT : Fld := ⟨0, 2⟩
abbrev FCAL_FLAGS_GUARD_LOST : Fld := ⟨1, 1⟩
abbrev FCAL_FLAGS_SPARE_FAULT : Fld := ⟨0, 1⟩
abbrev FCAL_SPUR_LIMIT_LIMIT : Fld := ⟨0, 16⟩
abbrev FCAL_P_FLAGS_STEP_ABANDONED : Fld := ⟨4, 1⟩
abbrev FCAL_P_FLAGS_SPUR_HIGH : Fld := ⟨3, 1⟩
abbrev FCAL_P_FLAGS_DEFER_EXPIRED : Fld := ⟨2, 1⟩
abbrev FCAL_P_FLAGS_TRIM_LIMIT : Fld := ⟨1, 1⟩
abbrev FCAL_P_FLAGS_CAL_DISAGREE : Fld := ⟨0, 1⟩
abbrev FCAL_P_STATE_CONVERGED : Fld := ⟨16, 1⟩
abbrev FCAL_P_STATE_ATTEMPT : Fld := ⟨8, 2⟩
abbrev FCAL_P_STATE_NEXT_SLICE : Fld := ⟨0, 7⟩
abbrev FCAL_P_SPUR_SPUR_OFS : Fld := ⟨16, 16⟩
abbrev FCAL_P_SPUR_SPUR_GS : Fld := ⟨0, 16⟩
abbrev FCAL_P_TRIMA_GAIN : Fld := ⟨16, 10⟩
abbrev FCAL_P_TRIMA_OFFSET : Fld := ⟨0, 10⟩
abbrev FCAL_P_TRIMB_SKEW : Fld := ⟨16, 12⟩
abbrev FCAL_P_TRIMB_BW : Fld := ⟨0, 6⟩
abbrev FCAL_SP_TRIMA_GAIN : Fld := ⟨16, 10⟩
abbrev FCAL_SP_TRIMA_OFFSET : Fld := ⟨0, 10⟩
abbrev FCAL_SP_TRIMB_SKEW : Fld := ⟨16, 12⟩
abbrev FCAL_SP_TRIMB_BW : Fld := ⟨0, 6⟩
abbrev DCF_CTL_RS_PROTO : Fld := ⟨13, 2⟩
abbrev DCF_CTL_SRC : Fld := ⟨8, 4⟩
abbrev DCF_CTL_NSTAGE : Fld := ⟨4, 4⟩
abbrev DCF_CTL_RS_EN : Fld := ⟨1, 1⟩
abbrev DCF_CTL_ENABLE : Fld := ⟨0, 1⟩
abbrev DCF_STATUS_SYNC_PENDING : Fld := ⟨12, 1⟩
abbrev DCF_STATUS_GROUP : Fld := ⟨4, 5⟩
abbrev DCF_STATUS_STATE : Fld := ⟨0, 2⟩
abbrev DCF_FLAGS_SYNC_LATE : Fld := ⟨4, 1⟩
abbrev DCF_FLAGS_SETTLED : Fld := ⟨3, 1⟩
abbrev DCF_FLAGS_GAP_RESET : Fld := ⟨2, 1⟩
abbrev DCF_FLAGS_STAGE_SAT : Fld := ⟨1, 1⟩
abbrev DCF_FLAGS_SAT : Fld := ⟨0, 1⟩
abbrev DCF_CMD_OP : Fld := ⟨0, 3⟩
abbrev DCF_STAGE_CODES : Fld := ⟨0, 30⟩
abbrev DCF_RS_PHASE_PHASE : Fld := ⟨0, 16⟩
abbrev DCF_DCB_CTL_BLK : Fld := ⟨8, 5⟩
abbrev DCF_DCB_CTL_A : Fld := ⟨4, 3⟩
abbrev DCF_DCB_CTL_FREEZE : Fld := ⟨1, 1⟩
abbrev DCF_DCB_CTL_EN : Fld := ⟨0, 1⟩
abbrev DCF_DCB_INIT_INIT : Fld := ⟨0, 30⟩
abbrev DCF_DCB_EST_EST : Fld := ⟨0, 30⟩
abbrev DCF_UHB_C_COEF : Fld := ⟨0, 22⟩
abbrev DCF_UHB_TAPS_K : Fld := ⟨0, 4⟩
abbrev DCF_URS_H_COEF : Fld := ⟨0, 22⟩
abbrev DCF_ROMHB_C_COEF : Fld := ⟨0, 22⟩
abbrev DCF_ROMRS_H_COEF : Fld := ⟨0, 22⟩
abbrev TRU_CTL_CHAIN_LINE : Fld := ⟨28, 4⟩
abbrev TRU_CTL_CHAIN_OUT : Fld := ⟨27, 1⟩
abbrev TRU_CTL_QUAL_OUT : Fld := ⟨26, 1⟩
abbrev TRU_CTL_HOLD_MODE : Fld := ⟨24, 2⟩
abbrev TRU_CTL_SRC : Fld := ⟨16, 8⟩
abbrev TRU_CTL_GROUP_EN : Fld := ⟨11, 1⟩
abbrev TRU_CTL_POL : Fld := ⟨8, 2⟩
abbrev TRU_CTL_TYPE : Fld := ⟨4, 4⟩
abbrev TRU_CTL_ENABLE : Fld := ⟨0, 1⟩
abbrev TRU_STATUS_LEVEL : Fld := ⟨9, 1⟩
abbrev TRU_STATUS_GROUP : Fld := ⟨4, 5⟩
abbrev TRU_STATUS_STATE : Fld := ⟨0, 2⟩
abbrev TRU_FLAGS_GAP_RESET : Fld := ⟨6, 1⟩
abbrev TRU_FLAGS_OVR_XING : Fld := ⟨5, 1⟩
abbrev TRU_FLAGS_SEC_OVF : Fld := ⟨4, 1⟩
abbrev TRU_FLAGS_NOT_ACCEPTED : Fld := ⟨3, 1⟩
abbrev TRU_FLAGS_DEAD_DROP : Fld := ⟨2, 1⟩
abbrev TRU_FLAGS_HOLD_DROP : Fld := ⟨1, 1⟩
abbrev TRU_FLAGS_FIRED : Fld := ⟨0, 1⟩
abbrev TRU_LEVEL_A_LEVEL : Fld := ⟨0, 18⟩
abbrev TRU_LEVEL_B_LEVEL : Fld := ⟨0, 18⟩
abbrev TRU_HYST_HYST : Fld := ⟨0, 17⟩
abbrev TRU_HOLD_N_COUNT : Fld := ⟨0, 24⟩
abbrev TRU_SEQ_NTH : Fld := ⟨16, 16⟩
abbrev TRU_SEQ_FIRE : Fld := ⟨8, 5⟩
abbrev TRU_SEQ_ARM : Fld := ⟨0, 5⟩
abbrev TRU_FRAME_N : Fld := ⟨8, 24⟩
abbrev TRU_FRAME_MODE : Fld := ⟨0, 2⟩
abbrev TRU_OUT_TP_GATE : Fld := ⟨16, 1⟩
abbrev TRU_OUT_TP_MASK : Fld := ⟨0, 16⟩
abbrev TRU_OUT_STO_GATE : Fld := ⟨16, 1⟩
abbrev TRU_OUT_STO_MASK : Fld := ⟨0, 16⟩
abbrev TRU_CMD_OP : Fld := ⟨0, 2⟩
abbrev TRU_CNTCLR_CLR : Fld := ⟨0, 1⟩
abbrev TRU_LAST_INFO_FORCED : Fld := ⟨10, 1⟩
abbrev TRU_LAST_INFO_OVR : Fld := ⟨9, 1⟩
abbrev TRU_LAST_INFO_CHAIN : Fld := ⟨8, 1⟩
abbrev TRU_LAST_INFO_FRAC : Fld := ⟨0, 8⟩
abbrev POL_STATUS_SLUICE_CLOSED : Fld := ⟨31, 1⟩
abbrev POL_STATUS_SPILL : Fld := ⟨0, 17⟩
abbrev POL_FLAGS_DIKE_FAIL : Fld := ⟨2, 1⟩
abbrev POL_FLAGS_SLUICE_CLOSED : Fld := ⟨1, 1⟩
abbrev POL_FLAGS_SPILL_USED : Fld := ⟨0, 1⟩
abbrev POL_SPILL_HWM_KIB : Fld := ⟨0, 17⟩
abbrev POL_CNTCLR_CLR : Fld := ⟨0, 1⟩
abbrev POL_SPILL_RESUME_KIB : Fld := ⟨0, 17⟩
abbrev POL_G_CTL_PROTECT : Fld := ⟨8, 1⟩
abbrev POL_G_CTL_DEPTH : Fld := ⟨4, 2⟩
abbrev POL_G_CTL_OPEN : Fld := ⟨0, 1⟩
abbrev POL_G_NPOLD_N : Fld := ⟨0, 24⟩
abbrev POL_G_POST_T_HI_TICKS : Fld := ⟨0, 16⟩
abbrev POL_G_DIKE_BASE_LO_ADDR : Fld := ⟨6, 26⟩
abbrev POL_G_DIKE_BASE_HI_ADDR : Fld := ⟨0, 9⟩
abbrev POL_G_DATA_BASE_LO_ADDR : Fld := ⟨12, 20⟩
abbrev POL_G_DATA_BASE_HI_ADDR : Fld := ⟨0, 9⟩
abbrev POL_G_SLOT_HI_VALUE : Fld := ⟨0, 9⟩
abbrev POL_G_STATUS_DRAINING : Fld := ⟨31, 1⟩
abbrev POL_G_STATUS_NSTREAM : Fld := ⟨0, 6⟩
abbrev POL_G_NEXT_SLOT_SLOT : Fld := ⟨0, 24⟩
abbrev POL_G_SEQ_SEQ : Fld := ⟨0, 25⟩
abbrev POL_G_FLAGS_DIKE_FAIL : Fld := ⟨5, 1⟩
abbrev POL_G_FLAGS_SEALED : Fld := ⟨4, 1⟩
abbrev POL_G_FLAGS_GAPTAB_OVF : Fld := ⟨3, 1⟩
abbrev POL_G_FLAGS_SLUICE_LOST : Fld := ⟨2, 1⟩
abbrev POL_G_FLAGS_SLOT_BUSY : Fld := ⟨1, 1⟩
abbrev POL_G_FLAGS_SHORT_PRE : Fld := ⟨0, 1⟩
abbrev POL_G_RELEASE_SLOT : Fld := ⟨0, 24⟩
abbrev POL_G_SPAN_HI_VALUE : Fld := ⟨0, 17⟩
abbrev WAC_CTL_SRC : Fld := ⟨16, 8⟩
abbrev WAC_CTL_SEC : Fld := ⟨9, 1⟩
abbrev WAC_CTL_REJECT_OVR : Fld := ⟨8, 1⟩
abbrev WAC_CTL_KEEP : Fld := ⟨7, 1⟩
abbrev WAC_CTL_FORMAT : Fld := ⟨5, 2⟩
abbrev WAC_CTL_STORE : Fld := ⟨4, 1⟩
abbrev WAC_CTL_MODE : Fld := ⟨1, 1⟩
abbrev WAC_CTL_ENABLE : Fld := ⟨0, 1⟩
abbrev WAC_STATUS_GROUP : Fld := ⟨4, 5⟩
abbrev WAC_STATUS_MERGING : Fld := ⟨2, 1⟩
abbrev WAC_STATUS_STATE : Fld := ⟨0, 2⟩
abbrev WAC_FLAGS_OVR_ACQ : Fld := ⟨3, 1⟩
abbrev WAC_FLAGS_BUSY_DROP : Fld := ⟨2, 1⟩
abbrev WAC_FLAGS_REJECTED : Fld := ⟨1, 1⟩
abbrev WAC_FLAGS_DONE : Fld := ⟨0, 1⟩
abbrev WAC_LEN_VALUE : Fld := ⟨0, 25⟩
abbrev WAC_NACQ_VALUE : Fld := ⟨0, 25⟩
abbrev WAC_RES_BASE_LO_ADDR : Fld := ⟨6, 26⟩
abbrev WAC_RES_BASE_HI_ADDR : Fld := ⟨0, 9⟩
abbrev WAC_WORK_BASE_LO_ADDR : Fld := ⟨6, 26⟩
abbrev WAC_WORK_BASE_HI_ADDR : Fld := ⟨0, 9⟩
abbrev WAC_CMD_OP : Fld := ⟨0, 2⟩
abbrev PCV_CTL_URG_TP_EN : Fld := ⟨24, 1⟩
abbrev PCV_CTL_TP_URG : Fld := ⟨20, 4⟩
abbrev PCV_CTL_TP_START : Fld := ⟨16, 4⟩
abbrev PCV_CTL_LEN : Fld := ⟨12, 4⟩
abbrev PCV_CTL_POLICY : Fld := ⟨9, 1⟩
abbrev PCV_CTL_RING_MODE : Fld := ⟨8, 1⟩
abbrev PCV_CTL_START_SRC : Fld := ⟨4, 2⟩
abbrev PCV_CTL_LP : Fld := ⟨1, 1⟩
abbrev PCV_CTL_ENABLE : Fld := ⟨0, 1⟩
abbrev PCV_STATUS_ENTRY : Fld := ⟨16, 4⟩
abbrev PCV_STATUS_POWERING : Fld := ⟨14, 1⟩
abbrev PCV_STATUS_URG_PENDING : Fld := ⟨13, 1⟩
abbrev PCV_STATUS_QUEUED : Fld := ⟨12, 1⟩
abbrev PCV_STATUS_GROUP : Fld := ⟨4, 5⟩
abbrev PCV_STATUS_STATE : Fld := ⟨0, 2⟩
abbrev PCV_FLAGS_OW_POS : Fld := ⟨16, 4⟩
abbrev PCV_FLAGS_REF_OUT : Fld := ⟨11, 1⟩
abbrev PCV_FLAGS_REF_MARGIN_LOW : Fld := ⟨10, 1⟩
abbrev PCV_FLAGS_TRIM_FAULT : Fld := ⟨9, 1⟩
abbrev PCV_FLAGS_RING_OVWR : Fld := ⟨8, 1⟩
abbrev PCV_FLAGS_RING_LOST : Fld := ⟨7, 1⟩
abbrev PCV_FLAGS_URG_DROP : Fld := ⟨6, 1⟩
abbrev PCV_FLAGS_TRIG_OVERRUN : Fld := ⟨5, 1⟩
abbrev PCV_FLAGS_OPEN_WIRE : Fld := ⟨4, 1⟩
abbrev PCV_FLAGS_NBR_CAUSE : Fld := ⟨3, 1⟩
abbrev PCV_FLAGS_OVR_NEG : Fld := ⟨1, 1⟩
abbrev PCV_FLAGS_OVR_POS : Fld := ⟨0, 1⟩
abbrev PCV_CNTCLR_CLR : Fld := ⟨0, 1⟩
abbrev PCV_CMD_OP : Fld := ⟨0, 3⟩
abbrev PCV_MUXSET_CYCLES : Fld := ⟨0, 16⟩
abbrev PCV_OW_THRESH_LEVEL : Fld := ⟨0, 23⟩
abbrev PCV_PROF_POSTFIR : Fld := ⟨28, 1⟩
abbrev PCV_PROF_ORDER : Fld := ⟨24, 2⟩
abbrev PCV_PROF_OSR : Fld := ⟨0, 24⟩
abbrev PCV_SEQ_COUNT : Fld := ⟨16, 16⟩
abbrev PCV_SEQ_OWCUR : Fld := ⟨8, 2⟩
abbrev PCV_SEQ_PROF : Fld := ⟨5, 2⟩
abbrev PCV_SEQ_GAIN : Fld := ⟨2, 3⟩
abbrev PCV_SEQ_POS : Fld := ⟨0, 2⟩
abbrev PCV_URG_COUNT : Fld := ⟨16, 16⟩
abbrev PCV_URG_OWCUR : Fld := ⟨8, 2⟩
abbrev PCV_URG_PROF : Fld := ⟨5, 2⟩
abbrev PCV_URG_GAIN : Fld := ⟨2, 3⟩
abbrev PCV_URG_POS : Fld := ⟨0, 2⟩
abbrev PCV_RING_BASE_LO_ADDR : Fld := ⟨6, 26⟩
abbrev PCV_RING_BASE_HI_ADDR : Fld := ⟨0, 9⟩
abbrev PCV_RING_UNITS_UNITS : Fld := ⟨0, 28⟩
abbrev PCV_FLOW_FLOW : Fld := ⟨0, 13⟩
abbrev PCV_REF_DRIFT_MARGIN : Fld := ⟨16, 16⟩
abbrev PCV_REF_DRIFT_DRIFT : Fld := ⟨0, 16⟩
abbrev PCV_REF_LIMIT_LOW : Fld := ⟨0, 16⟩
abbrev PCV_REF_SPEC_SPEC : Fld := ⟨0, 16⟩
abbrev STO_CTL_PROTO : Fld := ⟨15, 1⟩
abbrev STO_CTL_END : Fld := ⟨14, 1⟩
abbrev STO_CTL_RETRIG : Fld := ⟨13, 1⟩
abbrev STO_CTL_NS : Fld := ⟨10, 2⟩
abbrev STO_CTL_LOG2_I : Fld := ⟨4, 4⟩
abbrev STO_CTL_SRC : Fld := ⟨1, 2⟩
abbrev STO_CTL_ENABLE : Fld := ⟨0, 1⟩
abbrev STO_STATUS_GROUP : Fld := ⟨4, 5⟩
abbrev STO_STATUS_STATE : Fld := ⟨0, 2⟩
abbrev STO_FLAGS_LATE : Fld := ⟨6, 1⟩
abbrev STO_FLAGS_SAFE : Fld := ⟨5, 1⟩
abbrev STO_FLAGS_SAT : Fld := ⟨4, 1⟩
abbrev STO_FLAGS_RESTARTED : Fld := ⟨3, 1⟩
abbrev STO_FLAGS_RETRIG_DROP : Fld := ⟨2, 1⟩
abbrev STO_FLAGS_NOT_READY : Fld := ⟨1, 1⟩
abbrev STO_FLAGS_UNDERRUN : Fld := ⟨0, 1⟩
abbrev STO_GAIN_GAIN : Fld := ⟨0, 16⟩
abbrev STO_OFFSET_VALUE : Fld := ⟨0, 18⟩
abbrev STO_IDLE_VALUE : Fld := ⟨0, 18⟩
abbrev STO_FLOW_FLOW : Fld := ⟨0, 13⟩
abbrev STO_CMD_OP : Fld := ⟨0, 3⟩
abbrev STO_CNTCLR_CLR : Fld := ⟨0, 1⟩
abbrev STO_LAST_INFO_PHASE : Fld := ⟨8, 6⟩
abbrev STO_LAST_INFO_CAUSE : Fld := ⟨0, 8⟩
abbrev STO_GEN_CTL_TYPE : Fld := ⟨0, 3⟩
abbrev STO_GEN_AMP_VALUE : Fld := ⟨0, 18⟩
abbrev TPT_CTL_LOG_EN : Fld := ⟨10, 1⟩
abbrev TPT_CTL_RETRIG : Fld := ⟨9, 1⟩
abbrev TPT_CTL_FRAME : Fld := ⟨8, 1⟩
abbrev TPT_CTL_IDLE : Fld := ⟨7, 1⟩
abbrev TPT_CTL_INV : Fld := ⟨6, 1⟩
abbrev TPT_CTL_TERM : Fld := ⟨5, 1⟩
abbrev TPT_CTL_IOSTD : Fld := ⟨2, 2⟩
abbrev TPT_CTL_MODE : Fld := ⟨0, 2⟩
abbrev TPT_STATUS_GROUP : Fld := ⟨4, 5⟩
abbrev TPT_STATUS_LEVEL : Fld := ⟨2, 1⟩
abbrev TPT_STATUS_STATE : Fld := ⟨0, 2⟩
abbrev TPT_FLAGS_LATE : Fld := ⟨6, 1⟩
abbrev TPT_FLAGS_LOG_LOST : Fld := ⟨5, 1⟩
abbrev TPT_FLAGS_RETRIG_DROP : Fld := ⟨4, 1⟩
abbrev TPT_FLAGS_LATE_EDGE : Fld := ⟨3, 1⟩
abbrev TPT_FLAGS_FIFO_OVF : Fld := ⟨2, 1⟩
abbrev TPT_FLAGS_GLITCH : Fld := ⟨1, 1⟩
abbrev TPT_FLAGS_EDGE : Fld := ⟨0, 1⟩
abbrev TPT_COUNT_COUNT : Fld := ⟨0, 24⟩
abbrev TPT_CMD_OP : Fld := ⟨0, 3⟩
abbrev TPT_FRAME_NEXT_NUMBER : Fld := ⟨0, 24⟩
abbrev TPT_FIFO_INFO_VALID : Fld := ⟨31, 1⟩
abbrev TPT_FIFO_INFO_RISE : Fld := ⟨30, 1⟩
abbrev TPT_FIFO_INFO_FRAME : Fld := ⟨0, 24⟩
abbrev TPT_CNTCLR_CLR : Fld := ⟨0, 1⟩
abbrev TPT_LOG_BASE_LO_ADDR : Fld := ⟨4, 28⟩
abbrev TPT_LOG_BASE_HI_ADDR : Fld := ⟨0, 9⟩
abbrev TPT_LOG_ENTRIES_ENTRIES : Fld := ⟨0, 28⟩
abbrev CKS_REF_CTL_FALLBACK : Fld := ⟨3, 1⟩
abbrev CKS_REF_CTL_SRC : Fld := ⟨2, 1⟩
abbrev CKS_REF_CTL_REFSEL : Fld := ⟨0, 2⟩
abbrev CKS_STATUS_HL_HOLDOVER : Fld := ⟨7, 1⟩
abbrev CKS_STATUS_CHREF_OK : Fld := ⟨6, 1⟩
abbrev CKS_STATUS_REF_OK : Fld := ⟨5, 1⟩
abbrev CKS_STATUS_ACTIVE_SRC : Fld := ⟨4, 1⟩
abbrev CKS_STATUS_FROZEN : Fld := ⟨3, 1⟩
abbrev CKS_STATUS_GATED : Fld := ⟨2, 1⟩
abbrev CKS_STATUS_RELOCKING : Fld := ⟨1, 1⟩
abbrev CKS_STATUS_LOCKED : Fld := ⟨0, 1⟩
abbrev CKS_FLAGS_HL_HOLDOVER : Fld := ⟨6, 1⟩
abbrev CKS_FLAGS_MDLL_FAIL : Fld := ⟨5, 1⟩
abbrev CKS_FLAGS_MDLL_LOSS : Fld := ⟨4, 1⟩
abbrev CKS_FLAGS_RELOCK_TIMEOUT : Fld := ⟨3, 1⟩
abbrev CKS_FLAGS_REF_FALLBACK : Fld := ⟨2, 1⟩
abbrev CKS_FLAGS_REF_LOST : Fld := ⟨1, 1⟩
abbrev CKS_FLAGS_SPLL_LOSS : Fld := ⟨0, 1⟩
abbrev CKS_CMD_OP : Fld := ⟨0, 2⟩
abbrev CKS_OUT_GATED : Fld := ⟨31, 1⟩
abbrev CKS_OUT_EN : Fld := ⟨30, 1⟩
abbrev CKS_OUT_DLY : Fld := ⟨16, 14⟩
abbrev CKS_OUT_DIV : Fld := ⟨0, 16⟩
abbrev CKS_MDLL_CTL_MREF : Fld := ⟨24, 2⟩
abbrev CKS_MDLL_CTL_MAXMULT : Fld := ⟨16, 7⟩
abbrev CKS_MDLL_CTL_MULT : Fld := ⟨0, 7⟩
abbrev CKS_MDLL_STAT_LOSSCNT : Fld := ⟨8, 8⟩
abbrev CKS_MDLL_STAT_ON_HKO : Fld := ⟨4, 1⟩
abbrev CKS_MDLL_STAT_STATE : Fld := ⟨0, 3⟩
abbrev MCH_CFG_NCHAN : Fld := ⟨20, 4⟩
abbrev MCH_CFG_CEIL_CODE : Fld := ⟨16, 4⟩
abbrev MCH_CFG_CAP_GIB : Fld := ⟨0, 12⟩
abbrev MCH_CTL_SCRUB_EN : Fld := ⟨2, 1⟩
abbrev MCH_CTL_IDLE_SR : Fld := ⟨1, 1⟩
abbrev MCH_CTL_ZERO_INIT : Fld := ⟨0, 1⟩
abbrev MCH_STATUS_CAP_GIB : Fld := ⟨8, 12⟩
abbrev MCH_STATUS_DIMMS : Fld := ⟨6, 2⟩
abbrev MCH_STATUS_USED : Fld := ⟨5, 1⟩
abbrev MCH_STATUS_PHASE : Fld := ⟨0, 4⟩
abbrev MCH_FLAGS_POP_MISMATCH : Fld := ⟨10, 1⟩
abbrev MCH_FLAGS_TRAIN_FAIL : Fld := ⟨9, 1⟩
abbrev MCH_FLAGS_CH_FAULT : Fld := ⟨8, 1⟩
abbrev MCH_FLAGS_CAPAR_FAIL : Fld := ⟨7, 1⟩
abbrev MCH_FLAGS_RH_THROTTLE : Fld := ⟨6, 1⟩
abbrev MCH_FLAGS_DRAM_HOT : Fld := ⟨5, 1⟩
abbrev MCH_FLAGS_EYE_LOW : Fld := ⟨4, 1⟩
abbrev MCH_FLAGS_SR_ABORT : Fld := ⟨3, 1⟩
abbrev MCH_FLAGS_UE : Fld := ⟨1, 1⟩
abbrev MCH_FLAGS_CE : Fld := ⟨0, 1⟩
abbrev MCH_CMD_OP : Fld := ⟨0, 3⟩
abbrev MCH_SR_IDLE_US : Fld := ⟨0, 16⟩
abbrev MCH_CAPAR_CNT_RECOVERED : Fld := ⟨16, 16⟩
abbrev MCH_CAPAR_CNT_REPLAYS : Fld := ⟨0, 16⟩
abbrev MCH_RH_CTL_RATE : Fld := ⟨16, 8⟩
abbrev MCH_RH_CTL_THRESH : Fld := ⟨0, 16⟩
abbrev MCH_RH_REQ_CODE : Fld := ⟨0, 16⟩
abbrev MCH_RH_ROW_RANK : Fld := ⟨28, 4⟩
abbrev MCH_RH_ROW_BANK_GROUP : Fld := ⟨24, 4⟩
abbrev MCH_RH_ROW_BANK : Fld := ⟨22, 2⟩
abbrev MCH_RH_ROW_ROW : Fld := ⟨0, 18⟩
abbrev MCH_CNTCLR_CLR : Fld := ⟨0, 1⟩
abbrev MCH_CE_ADDR_LO_ADDR : Fld := ⟨6, 26⟩
abbrev MCH_CE_ADDR_HI_ADDR : Fld := ⟨0, 9⟩
abbrev MCH_UE_ADDR_LO_ADDR : Fld := ⟨6, 26⟩
abbrev MCH_UE_ADDR_HI_ADDR : Fld := ⟨0, 9⟩
abbrev MCH_UE_INFO_VALID_SLOT : Fld := ⟨31, 1⟩
abbrev MCH_UE_INFO_SCRUB : Fld := ⟨30, 1⟩
abbrev MCH_UE_INFO_GROUP : Fld := ⟨24, 4⟩
abbrev MCH_UE_INFO_SLOT : Fld := ⟨0, 24⟩
abbrev MCH_EYE_WR : Fld := ⟨8, 8⟩
abbrev MCH_EYE_RD : Fld := ⟨0, 8⟩
abbrev MCH_EYE_MIN_WARN : Fld := ⟨8, 8⟩
abbrev MCH_EYE_MIN_MIN : Fld := ⟨0, 8⟩
abbrev MCH_DIMM_TEMP_DIMM1 : Fld := ⟨16, 16⟩
abbrev MCH_DIMM_TEMP_DIMM0 : Fld := ⟨0, 16⟩
abbrev DMA_STATUS_ACTIVE : Fld := ⟨16, 14⟩
abbrev DMA_STATUS_SLOTS : Fld := ⟨0, 7⟩
abbrev DMA_FLAGS_PARKED : Fld := ⟨3, 1⟩
abbrev DMA_FLAGS_SEM_SAT : Fld := ⟨2, 1⟩
abbrev DMA_FLAGS_FLOW_ERROR : Fld := ⟨1, 1⟩
abbrev DMA_FLAGS_BAD_MOVE : Fld := ⟨0, 1⟩
abbrev DMA_CMD_OP : Fld := ⟨28, 4⟩
abbrev DMA_CMD_FLOW : Fld := ⟨0, 13⟩
abbrev DMA_SEM_ADD_COUNT : Fld := ⟨16, 16⟩
abbrev DMA_SEM_ADD_FLOW : Fld := ⟨0, 13⟩
abbrev DMA_LAST_BAD_CAUSE : Fld := ⟨16, 8⟩
abbrev DMA_LAST_BAD_FLOW : Fld := ⟨0, 13⟩
abbrev DMA_LAST_BAD_PC_LO_ADDR : Fld := ⟨4, 28⟩
abbrev DMA_LAST_BAD_PC_HI_PSPACE : Fld := ⟨16, 1⟩
abbrev DMA_LAST_BAD_PC_HI_ADDR : Fld := ⟨0, 9⟩
abbrev DMA_CNTCLR_CLR : Fld := ⟨0, 1⟩
abbrev DMA_F_CTL_AUTO_RESUME : Fld := ⟨3, 1⟩
abbrev DMA_F_CTL_RING : Fld := ⟨2, 1⟩
abbrev DMA_F_CTL_PSPACE : Fld := ⟨0, 2⟩
abbrev DMA_F_STATUS_LOOPACT : Fld := ⟨16, 4⟩
abbrev DMA_F_STATUS_CAUSE : Fld := ⟨8, 8⟩
abbrev DMA_F_STATUS_RESERVED_FLOW : Fld := ⟨3, 1⟩
abbrev DMA_F_STATUS_STATE : Fld := ⟨0, 3⟩
abbrev DMA_F_ENTRY_LO_ADDR : Fld := ⟨4, 28⟩
abbrev DMA_F_ENTRY_HI_ADDR : Fld := ⟨0, 9⟩
abbrev DMA_F_PC_LO_ADDR : Fld := ⟨4, 28⟩
abbrev DMA_F_PC_HI_ADDR : Fld := ⟨0, 9⟩
abbrev DMA_F_SEM_COUNT : Fld := ⟨0, 16⟩
abbrev DMA_F_LOOP_A_L1 : Fld := ⟨16, 16⟩
abbrev DMA_F_LOOP_A_L0 : Fld := ⟨0, 16⟩
abbrev DMA_F_LOOP_B_L3 : Fld := ⟨16, 16⟩
abbrev DMA_F_LOOP_B_L2 : Fld := ⟨0, 16⟩
abbrev DMA_F_PTR_HI_ADDR : Fld := ⟨0, 9⟩
abbrev DMA_F_RING_BASE_HI_ADDR : Fld := ⟨0, 9⟩
abbrev CMP_CTL_ENABLE : Fld := ⟨0, 1⟩
abbrev CMP_STATUS_QDEPTH : Fld := ⟨8, 5⟩
abbrev CMP_STATUS_BUSY : Fld := ⟨0, 1⟩
abbrev CMP_FLAGS_QUEUE_FULL : Fld := ⟨5, 1⟩
abbrev CMP_FLAGS_ERROR : Fld := ⟨4, 1⟩
abbrev CMP_FLAGS_NOT_SMALLER : Fld := ⟨3, 1⟩
abbrev CMP_FLAGS_INCOMPRESSIBLE : Fld := ⟨2, 1⟩
abbrev CMP_FLAGS_OK : Fld := ⟨1, 1⟩
abbrev CMP_FLAGS_DONE : Fld := ⟨0, 1⟩
abbrev CMP_SUBMIT_LO_ADDR : Fld := ⟨6, 26⟩
abbrev CMP_SUBMIT_HI_OP : Fld := ⟨28, 2⟩
abbrev CMP_SUBMIT_HI_ADDR : Fld := ⟨0, 9⟩
abbrev CMP_CMD_OP : Fld := ⟨0, 2⟩
abbrev CMP_CNTCLR_CLR : Fld := ⟨0, 1⟩
abbrev CMP_CUR_LO_ADDR : Fld := ⟨6, 26⟩
abbrev CMP_CUR_HI_ADDR : Fld := ⟨0, 9⟩
abbrev EVC_CTL_GLOBAL_DISABLE : Fld := ⟨0, 1⟩
abbrev EVC_STATUS_NPEND : Fld := ⟨0, 11⟩
abbrev EVC_FLAGS_MERGED : Fld := ⟨1, 1⟩
abbrev EVC_FLAGS_BAD_COMPLETE : Fld := ⟨0, 1⟩
abbrev EVC_CNTCLR_CLR : Fld := ⟨0, 1⟩
abbrev EVC_SLEEP_STAT_DEV : Fld := ⟨4, 4⟩
abbrev EVC_SLEEP_STAT_MGC : Fld := ⟨0, 4⟩
abbrev EVC_WAKE_SRC_DEV : Fld := ⟨16, 11⟩
abbrev EVC_WAKE_SRC_MGC : Fld := ⟨0, 11⟩
abbrev EVC_T_CTL_WINDOW : Fld := ⟨16, 7⟩
abbrev EVC_T_CTL_AUTO : Fld := ⟨5, 1⟩
abbrev EVC_T_CTL_MASK : Fld := ⟨4, 1⟩
abbrev EVC_T_CTL_THRESH : Fld := ⟨0, 4⟩
abbrev EVC_T_STATUS_INSVC : Fld := ⟨16, 11⟩
abbrev EVC_T_STATUS_RUNPRI : Fld := ⟨0, 4⟩
abbrev EVC_T_CLAIM_PRI : Fld := ⟨16, 4⟩
abbrev EVC_T_CLAIM_SOURCE : Fld := ⟨0, 11⟩
abbrev EVC_T_COMPLETE_SOURCE : Fld := ⟨0, 11⟩
abbrev EVC_SRC_CFG_WAKE : Fld := ⟨11, 1⟩
abbrev EVC_SRC_CFG_EN_CHF : Fld := ⟨10, 1⟩
abbrev EVC_SRC_CFG_EN_HNT : Fld := ⟨9, 1⟩
abbrev EVC_SRC_CFG_EN_MGC : Fld := ⟨8, 1⟩
abbrev EVC_SRC_CFG_LEVEL : Fld := ⟨4, 1⟩
abbrev EVC_SRC_CFG_PRI : Fld := ⟨0, 4⟩
abbrev EVC_SRC_STAT_MERGED : Fld := ⟨12, 1⟩
abbrev EVC_SRC_STAT_INSVC : Fld := ⟨8, 3⟩
abbrev EVC_SRC_STAT_LATCH : Fld := ⟨4, 3⟩
abbrev EVC_SRC_STAT_PEND : Fld := ⟨1, 3⟩
abbrev EVC_SRC_STAT_LIVE : Fld := ⟨0, 1⟩
abbrev HLK_CTL_WINDOW : Fld := ⟨8, 8⟩
abbrev HLK_CTL_AN : Fld := ⟨5, 1⟩
abbrev HLK_CTL_AUTH_REQ : Fld := ⟨4, 1⟩
abbrev HLK_CTL_FEC25 : Fld := ⟨2, 2⟩
abbrev HLK_CTL_MODE : Fld := ⟨0, 2⟩
abbrev HLK_STATUS_DHCP_BOUND : Fld := ⟨20, 4⟩
abbrev HLK_STATUS_EVT_SESSION : Fld := ⟨17, 1⟩
abbrev HLK_STATUS_KEY_SET : Fld := ⟨16, 1⟩
abbrev HLK_STATUS_NSTREAM : Fld := ⟨12, 4⟩
abbrev HLK_STATUS_NSESS : Fld := ⟨8, 4⟩
abbrev HLK_STATUS_LINK : Fld := ⟨0, 4⟩
abbrev HLK_FLAGS_STREAM_TIMEOUT : Fld := ⟨8, 1⟩
abbrev HLK_FLAGS_RX_OVERFLOW : Fld := ⟨7, 1⟩
abbrev HLK_FLAGS_DHCP_FAIL : Fld := ⟨6, 1⟩
abbrev HLK_FLAGS_SEQ_DROP : Fld := ⟨5, 1⟩
abbrev HLK_FLAGS_AUTH_FAIL : Fld := ⟨4, 1⟩
abbrev HLK_FLAGS_SESSION_END : Fld := ⟨3, 1⟩
abbrev HLK_FLAGS_SESSION_OPEN : Fld := ⟨2, 1⟩
abbrev HLK_FLAGS_LINK_DOWN : Fld := ⟨1, 1⟩
abbrev HLK_FLAGS_LINK_UP : Fld := ⟨0, 1⟩
abbrev HLK_ERR_STATE : Fld := ⟨3, 1⟩
abbrev HLK_ERR_ADDRESS : Fld := ⟨2, 1⟩
abbrev HLK_ERR_REFUSED : Fld := ⟨1, 1⟩
abbrev HLK_ERR_GATED : Fld := ⟨0, 1⟩
abbrev HLK_CMD_OP : Fld := ⟨0, 3⟩
abbrev HLK_RTO_EVT : Fld := ⟨16, 16⟩
abbrev HLK_RTO_DATA : Fld := ⟨0, 16⟩
abbrev HLK_MAC_HI_MAC : Fld := ⟨0, 16⟩
abbrev HLK_UDP_PORT_PORT : Fld := ⟨0, 16⟩
abbrev HLK_IF_CFG_DHCP : Fld := ⟨31, 1⟩
abbrev HLK_IF_CFG_ACTIVE_STATIC : Fld := ⟨30, 1⟩
abbrev HLK_IF_CFG_MTU : Fld := ⟨0, 14⟩
abbrev HLK_CNTCLR_CLR : Fld := ⟨0, 1⟩
abbrev HLK_S_INFO_OPEN : Fld := ⟨31, 1⟩
abbrev HLK_S_INFO_AUTH : Fld := ⟨30, 1⟩
abbrev HLK_S_INFO_EVENTS : Fld := ⟨29, 1⟩
abbrev HLK_S_INFO_IF : Fld := ⟨24, 2⟩
abbrev HLK_S_INFO_STREAMS : Fld := ⟨20, 4⟩
abbrev CHN_CTL_DOWN_EN : Fld := ⟨2, 1⟩
abbrev CHN_CTL_STICKY : Fld := ⟨1, 1⟩
abbrev CHN_CTL_LOOPBACK : Fld := ⟨0, 1⟩
abbrev CHN_STATUS_COUNT : Fld := ⟨24, 8⟩
abbrev CHN_STATUS_ADDR : Fld := ⟨16, 6⟩
abbrev CHN_STATUS_ALIGN_WAIT : Fld := ⟨15, 1⟩
abbrev CHN_STATUS_TB_ALIGNED : Fld := ⟨14, 1⟩
abbrev CHN_STATUS_ROOT : Fld := ⟨13, 1⟩
abbrev CHN_STATUS_DOWN_LINK : Fld := ⟨12, 1⟩
abbrev CHN_STATUS_UP_LINK : Fld := ⟨11, 1⟩
abbrev CHN_STATUS_STATE : Fld := ⟨0, 2⟩
abbrev CHN_FLAGS_CMD_LATE : Fld := ⟨13, 1⟩
abbrev CHN_FLAGS_ADDR_CHANGED : Fld := ⟨12, 1⟩
abbrev CHN_FLAGS_CMD_DONE : Fld := ⟨11, 1⟩
abbrev CHN_FLAGS_REVT : Fld := ⟨10, 1⟩
abbrev CHN_FLAGS_CHAIN_FULL : Fld := ⟨9, 1⟩
abbrev CHN_FLAGS_EYE_LOW : Fld := ⟨8, 1⟩
abbrev CHN_FLAGS_LINK_DOWN : Fld := ⟨7, 1⟩
abbrev CHN_FLAGS_LINK_ERR : Fld := ⟨6, 1⟩
abbrev CHN_FLAGS_TRIG_DROP : Fld := ⟨5, 1⟩
abbrev CHN_FLAGS_TRIG_LATE : Fld := ⟨4, 1⟩
abbrev CHN_FLAGS_ALIGNED : Fld := ⟨3, 1⟩
abbrev CHN_FLAGS_ALIGN_LOST : Fld := ⟨2, 1⟩
abbrev CHN_FLAGS_FORMED : Fld := ⟨1, 1⟩
abbrev CHN_FLAGS_TOPO_CHANGE : Fld := ⟨0, 1⟩
abbrev CHN_CMD_OP : Fld := ⟨0, 2⟩
abbrev CHN_GEN_GEN : Fld := ⟨0, 16⟩
abbrev CHN_EYE_UP : Fld := ⟨8, 8⟩
abbrev CHN_EYE_DOWN : Fld := ⟨0, 8⟩
abbrev CHN_EYE_MIN_WARN : Fld := ⟨8, 8⟩
abbrev CHN_EYE_MIN_MIN : Fld := ⟨0, 8⟩
abbrev CHN_ASYM_ASYM : Fld := ⟨0, 16⟩
abbrev CHN_CNTCLR_CLR : Fld := ⟨0, 1⟩
abbrev CHN_REVT_INFO_VALID : Fld := ⟨31, 1⟩
abbrev CHN_REVT_INFO_LIVE : Fld := ⟨30, 1⟩
abbrev CHN_REVT_INFO_MERGED : Fld := ⟨29, 1⟩
abbrev CHN_REVT_INFO_ADDR : Fld := ⟨23, 6⟩
abbrev CHN_REVT_INFO_PRI : Fld := ⟨19, 4⟩
abbrev CHN_REVT_INFO_EPOCH : Fld := ⟨15, 4⟩
abbrev CHN_REVT_INFO_SOURCE : Fld := ⟨0, 11⟩
abbrev CHN_REVT_STAT_COUNT : Fld := ⟨0, 9⟩
abbrev CHN_CMDSTAT_DONE : Fld := ⟨31, 1⟩
abbrev CHN_CMDSTAT_TIMEOUT : Fld := ⟨30, 1⟩
abbrev CHN_CMDSTAT_NREP : Fld := ⟨16, 6⟩
abbrev CHN_CMDSTAT_CSEQ : Fld := ⟨0, 8⟩
abbrev CHN_PTP_CTL_MAP_VALID : Fld := ⟨31, 1⟩
abbrev CHN_PTP_CTL_DOMAIN : Fld := ⟨8, 8⟩
abbrev CHN_PTP_CTL_ROLE : Fld := ⟨0, 2⟩
abbrev CHN_MAP_SEC_HI_SEC : Fld := ⟨0, 16⟩
abbrev CHN_MAP_NS_NS : Fld := ⟨0, 30⟩
abbrev CHN_RES_VALID : Fld := ⟨31, 1⟩
abbrev CHN_RES_LATE : Fld := ⟨30, 1⟩
abbrev CHN_RES_GROUP : Fld := ⟨16, 8⟩
abbrev CHN_RES_GSTATE : Fld := ⟨8, 4⟩
abbrev CHN_RES_STATUS : Fld := ⟨0, 8⟩
abbrev CFG_CTL_BOOT_EN : Fld := ⟨2, 1⟩
abbrev CFG_CTL_BOOT_SLOT : Fld := ⟨0, 2⟩
abbrev CFG_STATUS_DETAIL : Fld := ⟨16, 8⟩
abbrev CFG_STATUS_RESULT : Fld := ⟨12, 4⟩
abbrev CFG_STATUS_BUSY : Fld := ⟨8, 1⟩
abbrev CFG_STATUS_ACTIVE : Fld := ⟨0, 3⟩
abbrev CFG_FLAGS_SHADOW_REJECT : Fld := ⟨8, 1⟩
abbrev CFG_FLAGS_HANDOVER : Fld := ⟨7, 1⟩
abbrev CFG_FLAGS_WEAR_HIGH : Fld := ⟨6, 1⟩
abbrev CFG_FLAGS_SETTINGS_CORRUPT : Fld := ⟨5, 1⟩
abbrev CFG_FLAGS_NV_FAIL : Fld := ⟨4, 1⟩
abbrev CFG_FLAGS_CMD_DONE : Fld := ⟨3, 1⟩
abbrev CFG_FLAGS_GOLDEN_USED : Fld := ⟨2, 1⟩
abbrev CFG_FLAGS_LOAD_REFUSED : Fld := ⟨1, 1⟩
abbrev CFG_FLAGS_LOADED : Fld := ⟨0, 1⟩
abbrev CFG_CMD_KEY : Fld := ⟨6, 2⟩
abbrev CFG_CMD_SLOT : Fld := ⟨4, 2⟩
abbrev CFG_CMD_OP : Fld := ⟨0, 4⟩
abbrev CFG_STAGE_LO_ADDR : Fld := ⟨6, 26⟩
abbrev CFG_STAGE_HI_ADDR : Fld := ⟨0, 9⟩
abbrev CFG_LOADED_REGIONS_MASK : Fld := ⟨0, 8⟩
abbrev CFG_KEYSTAT_MASK : Fld := ⟨0, 4⟩
abbrev CFG_WEAR_FIELD : Fld := ⟨16, 16⟩
abbrev CFG_WEAR_SETTINGS : Fld := ⟨0, 16⟩
abbrev CFG_SLOT_STATUS_VALID : Fld := ⟨31, 1⟩
abbrev CFG_SLOT_STATUS_KEY : Fld := ⟨24, 2⟩
abbrev CFG_SLOT_STATUS_WRITES : Fld := ⟨0, 24⟩
abbrev CFG_G_SHADOW_COUNT : Fld := ⟨8, 9⟩
abbrev CFG_G_SHADOW_PENDING : Fld := ⟨1, 1⟩
abbrev CFG_G_SHADOW_HOLD : Fld := ⟨0, 1⟩
abbrev CFG_SH_ADDR_ADDR : Fld := ⟨2, 30⟩
abbrev CFG_SH_ADDR_VALID : Fld := ⟨0, 1⟩
abbrev DEV_RESET_CAUSE_FROM_FAULT : Fld := ⟨8, 1⟩
abbrev DEV_RESET_CAUSE_WARM : Fld := ⟨3, 1⟩
abbrev DEV_RESET_CAUSE_SYSTEM : Fld := ⟨2, 1⟩
abbrev DEV_RESET_CAUSE_PIN : Fld := ⟨1, 1⟩
abbrev DEV_RESET_CAUSE_POWER_ON : Fld := ⟨0, 1⟩
abbrev DEV_BOOT_STAT_STAGE : Fld := ⟨16, 8⟩
abbrev DEV_BOOT_STAT_FAULT : Fld := ⟨8, 5⟩
abbrev DEV_BOOT_STAT_DETAIL : Fld := ⟨0, 8⟩
abbrev PWR_DOM_CTL_TARGET : Fld := ⟨0, 6⟩
abbrev PWR_DOM_STAT_PARKING : Fld := ⟨16, 1⟩
abbrev PWR_DOM_STAT_DOMS : Fld := ⟨0, 16⟩
abbrev PWR_FLAGS_STANDBY_LEFT : Fld := ⟨6, 1⟩
abbrev PWR_FLAGS_STANDBY_ENTERED : Fld := ⟨5, 1⟩
abbrev PWR_FLAGS_AVS_ALERT : Fld := ⟨4, 1⟩
abbrev PWR_FLAGS_VDDC_DEV : Fld := ⟨3, 1⟩
abbrev PWR_FLAGS_PARK_TIMEOUT : Fld := ⟨2, 1⟩
abbrev PWR_FLAGS_DOM_UP : Fld := ⟨1, 1⟩
abbrev PWR_FLAGS_DOM_DOWN : Fld := ⟨0, 1⟩
abbrev PWR_VDDC_MEAS : Fld := ⟨0, 10⟩
abbrev PWR_AVS_STAT_ALERT : Fld := ⟨16, 1⟩
abbrev PWR_AVS_STAT_STATUS : Fld := ⟨0, 16⟩
abbrev PWR_CNTCLR_CLR : Fld := ⟨0, 1⟩
abbrev PWR_RAIL_STAT_RAILS : Fld := ⟨0, 10⟩
abbrev MON_CTL_HEALTH_H : Fld := ⟨8, 8⟩
abbrev MON_CTL_HEALTH_EN : Fld := ⟨0, 1⟩
abbrev MON_FLAGS_CNT_WRAP : Fld := ⟨8, 1⟩
abbrev MON_FLAGS_UNLOCK_FAIL : Fld := ⟨7, 1⟩
abbrev MON_FLAGS_TEST_UNLOCKED : Fld := ⟨6, 1⟩
abbrev MON_FLAGS_HEALTH : Fld := ⟨5, 1⟩
abbrev MON_FLAGS_LOG_WRAP : Fld := ⟨4, 1⟩
abbrev MON_FLAGS_TEMP_HIGH : Fld := ⟨3, 1⟩
abbrev MON_FLAGS_SNAP_CANCELLED : Fld := ⟨2, 1⟩
abbrev MON_FLAGS_SNAP_MISSED : Fld := ⟨1, 1⟩
abbrev MON_FLAGS_SNAP_DONE : Fld := ⟨0, 1⟩
abbrev MON_SNAP_CMD_OP : Fld := ⟨0, 2⟩
abbrev MON_SNAP_STAT_STATE : Fld := ⟨0, 3⟩
abbrev MON_CNTCLR_CLR_AV : Fld := ⟨1, 1⟩
abbrev MON_CNTCLR_CLR_CNT : Fld := ⟨0, 1⟩
abbrev MON_TEMP_WARN_DEG : Fld := ⟨0, 8⟩
abbrev MON_LOG_STAT_VALID : Fld := ⟨31, 1⟩
abbrev MON_LOG_STAT_COUNT : Fld := ⟨0, 11⟩
abbrev MON_LOG_CMD_CLEAR : Fld := ⟨0, 1⟩
abbrev MON_TEMP_MAX : Fld := ⟨16, 16⟩
abbrev MON_TEMP_NOW : Fld := ⟨0, 16⟩
abbrev MON_CNT_CFG_WRAPPED : Fld := ⟨31, 1⟩
abbrev MON_CNT_CFG_MODE : Fld := ⟨29, 2⟩
abbrev MON_CNT_CFG_SRC : Fld := ⟨0, 11⟩
abbrev MON_CNT_LIVE_HI_COUNT : Fld := ⟨0, 16⟩
abbrev MON_CNT_SNAP_HI_VALID : Fld := ⟨31, 1⟩
abbrev MON_CNT_SNAP_HI_COUNT : Fld := ⟨0, 16⟩
abbrev TST_STATUS_FAILCNT : Fld := ⟨16, 16⟩
abbrev TST_STATUS_STEP : Fld := ⟨8, 2⟩
abbrev TST_STATUS_UNLOCKED : Fld := ⟨0, 1⟩
abbrev TST_HSD_EN : Fld := ⟨31, 1⟩
abbrev TST_HSD_SENT : Fld := ⟨30, 1⟩
abbrev TST_HSD_REGION : Fld := ⟨16, 3⟩
abbrev TST_HSD_STEPS : Fld := ⟨0, 8⟩
abbrev TST_BP_EN : Fld := ⟨31, 1⟩
abbrev TST_BP_TARGET : Fld := ⟨28, 1⟩
abbrev TST_BP_LANE : Fld := ⟨16, 10⟩
abbrev TST_BP_PERIOD : Fld := ⟨8, 4⟩
abbrev TST_BP_DUTY : Fld := ⟨0, 8⟩
abbrev TST_MEMLAT_EN : Fld := ⟨31, 1⟩
abbrev TST_MEMLAT_CHMASK : Fld := ⟨16, 8⟩
abbrev TST_MEMLAT_ADD : Fld := ⟨0, 8⟩
abbrev TST_CAPAR_FIRE : Fld := ⟨31, 1⟩
abbrev TST_CAPAR_CHANNEL : Fld := ⟨8, 3⟩
abbrev TST_CAPAR_REPEAT : Fld := ⟨0, 2⟩
abbrev TST_CHNERR_FIRE : Fld := ⟨31, 1⟩
abbrev TST_CHNERR_PORT : Fld := ⟨24, 1⟩
abbrev TST_CHNERR_KIND : Fld := ⟨16, 2⟩
abbrev TST_CHNERR_COUNT : Fld := ⟨0, 8⟩
abbrev TST_SOFS_ALL : Fld := ⟨31, 1⟩
abbrev TST_SOFS_SEL : Fld := ⟨16, 5⟩
abbrev TST_SOFS_OFS : Fld := ⟨0, 16⟩

end Sys2Proof.Machine.F
end

