-- ==== Sys2Proof/Config.lean ====
section
/-! DEFINITION. What an implementation fixes and what the spec leaves open: opaque constants, no value of which any
proof can see. -/
namespace Sys2Proof.Config

/-- A number the spec does not state, one per use: applied to the state's counter of free values and a tag. -/
opaque freeNat : Nat → Nat → Nat

/-- The factory capability gain of region `r` per mV, *K*_r of R58, as numerator and denominator − 1
(02_handshake_fabric.md R52, R58: measured per part, not stated). -/
opaque kr : Nat → Nat × Nat

/-- The factory trim set of slice `k` of port `q` (04_interleave_calibration.md R108: part-specific, not stated), as the
four trims in trim steps. -/
opaque factoryTrim : Nat → Nat → Int × Int × Int × Int

/-- The factory trims of spare `k` of tile `t` (R108). -/
opaque factorySpare : Nat → Nat → Int × Int × Int × Int

/-- A residual-spur figure that R109 does not fix or that lies too close to a rounding edge for the arithmetic of
Machine/Spur.lean: its value, and which of two neighbours. Operands: the number of slices, the bandwidth code (4 for the
offset figure), and the (offset, gain, skew, bandwidth) errors in slice order. -/
opaque spurOpen : Nat → Nat → List (Int × Int × Int × Int) → Int
opaque spurSel : Nat → Nat → List (Int × Int × Int × Int) → Bool

/-- Coefficient `c` of half-band ROM response `r`, and prototype value `k` of resampler ROM response `r`
(05_filter_chains.md R125: fixed for the stepping, not printed), as s1.21 integers. -/
opaque romHb : Nat → Nat → Int
opaque romRs : Nat → Nat → Int

/-- Byte at channel offset `o` of undefined memory contents number `g` of channel `m` (11_acquisition_memory.md R283, R300). -/
opaque freeByte : Nat → Nat → Nat → Byte

/-- Which of the codes within ±1 of AMP × sin(2π φ) the generator takes, from AMP and the phase in 2^−32 cycle
(09_stimulus_and_timing_ports.md R237). -/
opaque sineSel : Int → Nat → Nat

/-- *A*_g of converter `k` at gain code `g`, in 1/256 tick (08_precision_inputs.md R206: factory-measured, not stated). -/
opaque frontDelay : Nat → Nat → Int

/-- Ryeth's public point, key 0, and the golden image (17_configuration_images.md R426, R433, R438: in the factory area, not
printed). -/
opaque key0 : Nat × Nat
opaque golden : List Byte

/-- The serial number and the station address of interface 0 (01_architecture.md R39; 15_host_link.md R369: part-specific). -/
opaque serial : Nat
opaque mac : Nat

/-- Factory words of the precision reference: PCV_REF_SPEC (08_precision_inputs.md R221). -/
opaque refSpec : Nat

/-- The factory delay of output `o` in its field of CKS_OUT (10_clock_synthesis.md R257). -/
opaque outDelay : Nat → Nat

end Sys2Proof.Config
end

