-- ==== Sys2Proof/Machine/RegTable.lean ====
section
/-! DEFINITION. The register descriptors behind spec/20_register_index.md (R489 to R491): per block its base, count and stride,
and per register its offset in the block, its replication, which bits are rw, w1c and w1s (R16), and its word after reset (R18).
Bits in none of the masks are ro, wo or reserved. -/
namespace Sys2Proof.Machine

/-- One register, or one run of like registers `stride` bytes apart. -/
structure RegRow where
  off : Nat
  stride : Nat
  count : Nat
  rw : Nat
  w1c : Nat
  w1s : Nat
  reset : Nat
  deriving DecidableEq, Repr

/-- One block of R489. -/
structure RegBlock where
  base : Nat
  count : Nat
  stride : Nat
  rows : List RegRow
  deriving DecidableEq, Repr

/-- Descriptors of block DEV. -/
def rowsDev0 : List RegRow := [
  ⟨0x0000, 4, 1, 0x0000, 0x0000, 0x0000, 0x9144_AF00⟩ /- DEV_ID -/,
  ⟨0x0004, 4, 1, 0x0000, 0x0000, 0x0000, 0x4200⟩ /- DEV_STEPPING -/,
  ⟨0x0008, 4, 1, 0x0000, 0x0000, 0x0000, 0x0000⟩ /- DEV_STATE -/,
  ⟨0x000C, 4, 1, 0x0000, 0x0000, 0x0000, 0x0000⟩ /- DEV_FAULT_CAUSE -/,
  ⟨0x0010, 4, 1, 0x0000, 0x0000, 0x0000, 0xFFFF_FFFF⟩ /- DEV_GSTATE_LO -/,
  ⟨0x0014, 4, 1, 0x0000, 0x0000, 0x0000, 0xFFFF_FFFF⟩ /- DEV_GSTATE_HI -/,
  ⟨0x0018, 4, 1, 0x0000, 0x0000, 0x0000, 0x0000⟩ /- DEV_SERIAL_LO -/,
  ⟨0x001C, 4, 1, 0x0000, 0x0000, 0x0000, 0x0000⟩ /- DEV_SERIAL_HI -/,
  ⟨0x0020, 4, 1, 0x0000, 0x0000, 0x0000, 0x0001⟩ /- DEV_RESET_CAUSE -/,
  ⟨0x0024, 4, 1, 0x0000, 0x0000, 0x0000, 0x1_0000⟩ /- DEV_BOOT_STAT -/,
  ⟨0x0028, 4, 1, 0x0000, 0x0000, 0x0000, 0x0000⟩ /- DEV_BOOT_TIME -/]

/-- Descriptors of block FAB. -/
def rowsFab0 : List RegRow := [
  ⟨0x0000, 4, 1, 0x0007, 0x0000, 0x0000, 0x0001⟩ /- FAB_CTL -/,
  ⟨0x0004, 4, 1, 0x0000, 0x0000, 0x0000, 0xFFFF_0000⟩ /- FAB_STATUS -/,
  ⟨0x0008, 4, 1, 0x0000, 0x007F, 0x0000, 0x0000⟩ /- FAB_FLAGS -/,
  ⟨0x000C, 4, 1, 0x0000, 0x0000, 0x0000, 0x320_0320⟩ /- FAB_VDDC -/,
  ⟨0x0010, 4, 1, 0x3FF_03FF, 0x0000, 0x0000, 0x352_028A⟩ /- FAB_VLIMIT -/,
  ⟨0x0014, 4, 1, 0xFF1F_FFFF, 0x0000, 0x0000, 0x1005_0810⟩ /- FAB_PLAN_CTL -/,
  ⟨0x0018, 4, 1, 0xFFFF_FFFF, 0x0000, 0x0000, 0x10CD_119A⟩ /- FAB_THRESH_A -/,
  ⟨0x001C, 4, 1, 0xFFFF_FFFF, 0x0000, 0x0000, 0x1267_1334⟩ /- FAB_THRESH_B -/,
  ⟨0x0020, 4, 1, 0x0000, 0x0000, 0x0000, 0x0000⟩ /- FAB_AVS_ERRCNT -/,
  ⟨0x0024, 4, 1, 0x0000, 0x0000, 0x0000, 0x0000⟩ /- FAB_WINDOW -/,
  ⟨0x0040, 4, 8, 0x0000, 0x0000, 0x0000, 0x0000⟩ /- FAB_RPLAN -/,
  ⟨0x0060, 4, 8, 0x0000, 0x0000, 0x0000, 0x0000⟩ /- FAB_RCAP -/,
  ⟨0x0080, 4, 8, 0x0000, 0x0000, 0x0000, 0xFFFF_FFFF⟩ /- FAB_RMARGIN -/,
  ⟨0x00A0, 4, 8, 0x0000, 0x0000, 0x0000, 0x0000⟩ /- FAB_SENT_EXCL -/,
  ⟨0x0400, 4, 256, 0x0000, 0x0000, 0x0000, 0x0000⟩ /- FAB_SENT -/]

/-- Descriptors of block FCH. -/
def rowsFch0 : List RegRow := [
  ⟨0x0000, 4, 1, 0x003F, 0x0000, 0x0000, 0x0000⟩ /- FCH_CTL -/,
  ⟨0x0004, 4, 1, 0x0000, 0x0000, 0x0000, 0x01F0⟩ /- FCH_STATUS -/,
  ⟨0x0008, 4, 1, 0x0000, 0x000F, 0x0000, 0x0000⟩ /- FCH_FLAGS -/,
  ⟨0x000C, 4, 1, 0x0000, 0x0000, 0x0000, 0x0000⟩ /- FCH_OVRCNT -/,
  ⟨0x0010, 4, 1, 0x0000, 0x0000, 0x0000, 0x0000⟩ /- FCH_LOSTCNT -/,
  ⟨0x0014, 4, 1, 0x0000, 0x0000, 0x0000, 0x0000⟩ /- FCH_CNTCLR -/,
  ⟨0x0018, 4, 1, 0x0FFF, 0x0000, 0x0000, 0x0000⟩ /- FCH_PATTERN -/,
  ⟨0x001C, 4, 1, 0xFFFF_FFFF, 0x0000, 0x0000, 0x0000⟩ /- FCH_TS_ADJ -/,
  ⟨0x0020, 4, 1, 0x0000, 0x0000, 0x0000, 0x0000⟩ /- FCH_START_TS_LO -/,
  ⟨0x0024, 4, 1, 0x0000, 0x0000, 0x0000, 0x0000⟩ /- FCH_START_TS_HI -/,
  ⟨0x0028, 4, 1, 0x0000, 0x0000, 0x0000, 0x0000⟩ /- FCH_STOP_TS_LO -/,
  ⟨0x002C, 4, 1, 0x0000, 0x0000, 0x0000, 0x0000⟩ /- FCH_STOP_TS_HI -/,
  ⟨0x0040, 4, 8, 0x0000, 0x0000, 0x0000, 0x0000⟩ /- FCH_LANELOST -/]

/-- Descriptors of block FCAL. -/
def rowsFcal0 : List RegRow := [
  ⟨0x0000, 4, 1, 0x1F37, 0x0000, 0x0000, 0x1F04⟩ /- FCAL_CTL -/,
  ⟨0x0004, 4, 1, 0x1_FFFF, 0x0000, 0x0000, 0x2710⟩ /- FCAL_INTERVAL -/,
  ⟨0x0008, 4, 1, 0xFFFF, 0x0000, 0x0000, 0x003C⟩ /- FCAL_DEFER_MAX -/,
  ⟨0x000C, 4, 1, 0x0000, 0x0000, 0x0000, 0x0000⟩ /- FCAL_CMD -/,
  ⟨0x0010, 4, 1, 0x0000, 0x0000, 0x0000, 0xF000⟩ /- FCAL_STATUS -/,
  ⟨0x0014, 4, 1, 0x0000, 0x0003, 0x0000, 0x0000⟩ /- FCAL_FLAGS -/,
  ⟨0x0018, 4, 1, 0xFFFF, 0x0000, 0x0000, 0xFD44⟩ /- FCAL_SPUR_LIMIT -/,
  ⟨0x0100, 32, 4, 0x0000, 0x001F, 0x0000, 0x0000⟩ /- FCAL_P_FLAGS -/,
  ⟨0x0104, 32, 4, 0x0000, 0x0000, 0x0000, 0x0000⟩ /- FCAL_P_STATE -/,
  ⟨0x0108, 32, 4, 0x0000, 0x0000, 0x0000, 0xFFFF_FFFF⟩ /- FCAL_P_NEXT -/,
  ⟨0x010C, 32, 4, 0x0000, 0x0000, 0x0000, 0x0000⟩ /- FCAL_P_STEPCNT -/,
  ⟨0x0110, 32, 4, 0x0000, 0x0000, 0x0000, 0x0000⟩ /- FCAL_P_GSTEPCNT -/,
  ⟨0x0114, 32, 4, 0x0000, 0x0000, 0x0000, 0x0000⟩ /- FCAL_P_DISCNT -/,
  ⟨0x0118, 32, 4, 0x0000, 0x0000, 0x0000, 0x8000_8000⟩ /- FCAL_P_SPUR -/,
  ⟨0x1000, 8, 256, 0x0000, 0x0000, 0x0000, 0x0000⟩ /- FCAL_P_TRIMA -/,
  ⟨0x1004, 8, 256, 0x0000, 0x0000, 0x0000, 0x0020⟩ /- FCAL_P_TRIMB -/,
  ⟨0x1800, 8, 4, 0x0000, 0x0000, 0x0000, 0x0000⟩ /- FCAL_SP_TRIMA -/,
  ⟨0x1804, 8, 4, 0x0000, 0x0000, 0x0000, 0x0020⟩ /- FCAL_SP_TRIMB -/]

/-- Descriptors of block DCF. -/
def rowsDcf0 : List RegRow := [
  ⟨0x0000, 4, 1, 0x6FF3, 0x0000, 0x0000, 0x0000⟩ /- DCF_CTL -/,
  ⟨0x0004, 4, 1, 0x0000, 0x0000, 0x0000, 0x01F0⟩ /- DCF_STATUS -/,
  ⟨0x0008, 4, 1, 0x0000, 0x001F, 0x0000, 0x0000⟩ /- DCF_FLAGS -/,
  ⟨0x000C, 4, 1, 0x0000, 0x0000, 0x0000, 0x0000⟩ /- DCF_SATCNT -/,
  ⟨0x0010, 4, 1, 0x0000, 0x0000, 0x0000, 0x0000⟩ /- DCF_CMD -/,
  ⟨0x0014, 4, 1, 0x3FFF_FFFF, 0x0000, 0x0000, 0x0000⟩ /- DCF_STAGE -/,
  ⟨0x0018, 4, 1, 0xFFFF_FFFF, 0x0000, 0x0000, 0x8000_0000⟩ /- DCF_RS_RATIO -/,
  ⟨0x001C, 4, 1, 0xFFFF, 0x0000, 0x0000, 0x0000⟩ /- DCF_RS_PHASE -/,
  ⟨0x0020, 4, 1, 0x1F73, 0x0000, 0x0000, 0x0E40⟩ /- DCF_DCB_CTL -/,
  ⟨0x0024, 4, 1, 0x3FFF_FFFF, 0x0000, 0x0000, 0x0000⟩ /- DCF_DCB_INIT -/,
  ⟨0x0028, 4, 1, 0x0000, 0x0000, 0x0000, 0x0000⟩ /- DCF_DCB_EST -/,
  ⟨0x002C, 4, 1, 0x0000, 0x0000, 0x0000, 0x0000⟩ /- DCF_SETTLE_TOTAL -/,
  ⟨0x0030, 4, 1, 0x0000, 0x0000, 0x0000, 0x0000⟩ /- DCF_SETTLE_LEFT -/,
  ⟨0x0034, 4, 1, 0x0000, 0x0000, 0x0000, 0x0000⟩ /- DCF_GDELAY -/,
  ⟨0x0038, 4, 1, 0x0000, 0x0000, 0x0000, 0x0000⟩ /- DCF_LATENCY -/,
  ⟨0x0040, 4, 1, 0xFFFF_FFFF, 0x0000, 0x0000, 0x0000⟩ /- DCF_SYNC_TS_LO -/,
  ⟨0x0044, 4, 1, 0xFFFF_FFFF, 0x0000, 0x0000, 0x0000⟩ /- DCF_SYNC_TS_HI -/,
  ⟨0x0048, 4, 1, 0x0000, 0x0000, 0x0000, 0x0000⟩ /- DCF_LAST_SYNC_LO -/,
  ⟨0x004C, 4, 1, 0x0000, 0x0000, 0x0000, 0x0000⟩ /- DCF_LAST_SYNC_HI -/,
  ⟨0x0100, 4, 32, 0x3F_FFFF, 0x0000, 0x0000, 0x0000⟩ /- DCF_UHB_C -/,
  ⟨0x0180, 4, 2, 0x000F, 0x0000, 0x0000, 0x0000⟩ /- DCF_UHB_TAPS -/,
  ⟨0x1000, 4, 512, 0x3F_FFFF, 0x0000, 0x0000, 0x0000⟩ /- DCF_URS_H -/,
  ⟨0x2000, 4, 96, 0x0000, 0x0000, 0x0000, 0x0000⟩ /- DCF_ROMHB_C -/,
  ⟨0x2400, 4, 1024, 0x0000, 0x0000, 0x0000, 0x0000⟩ /- DCF_ROMRS_H -/]

/-- Descriptors of block TRU. -/
def rowsTru0 : List RegRow := [
  ⟨0x0000, 4, 1, 0xFFFF_0BF1, 0x0000, 0x0000, 0x0000⟩ /- TRU_CTL -/,
  ⟨0x0004, 4, 1, 0x0000, 0x0000, 0x0000, 0x01F0⟩ /- TRU_STATUS -/,
  ⟨0x0008, 4, 1, 0x0000, 0x007F, 0x0000, 0x0000⟩ /- TRU_FLAGS -/,
  ⟨0x000C, 4, 1, 0x3_FFFF, 0x0000, 0x0000, 0x0000⟩ /- TRU_LEVEL_A -/,
  ⟨0x0010, 4, 1, 0x3_FFFF, 0x0000, 0x0000, 0x0000⟩ /- TRU_LEVEL_B -/,
  ⟨0x0014, 4, 1, 0x1_FFFF, 0x0000, 0x0000, 0x0200⟩ /- TRU_HYST -/,
  ⟨0x0018, 4, 1, 0xFFFF_FFFF, 0x0000, 0x0000, 0x0000⟩ /- TRU_TMIN -/,
  ⟨0x001C, 4, 1, 0xFFFF_FFFF, 0x0000, 0x0000, 0xFFFF_FFFF⟩ /- TRU_TMAX -/,
  ⟨0x0020, 4, 1, 0xFFFF_FFFF, 0x0000, 0x0000, 0x0000⟩ /- TRU_HOLD_T -/,
  ⟨0x0024, 4, 1, 0xFF_FFFF, 0x0000, 0x0000, 0x0000⟩ /- TRU_HOLD_N -/,
  ⟨0x0028, 4, 1, 0xFFFF_FFFF, 0x0000, 0x0000, 0x0000⟩ /- TRU_MEMBERS -/,
  ⟨0x002C, 4, 1, 0xFFFF_FFFF, 0x0000, 0x0000, 0x0000⟩ /- TRU_INVERT -/,
  ⟨0x0030, 4, 1, 0xFFFF_1F1F, 0x0000, 0x0000, 0x1_0000⟩ /- TRU_SEQ -/,
  ⟨0x0034, 4, 1, 0xFFFF_FF03, 0x0000, 0x0000, 0x0000⟩ /- TRU_FRAME -/,
  ⟨0x0038, 4, 1, 0x1_FFFF, 0x0000, 0x0000, 0x0000⟩ /- TRU_OUT_TP -/,
  ⟨0x003C, 4, 1, 0x1_FFFF, 0x0000, 0x0000, 0x0000⟩ /- TRU_OUT_STO -/,
  ⟨0x0040, 4, 1, 0x0000, 0x0000, 0x0000, 0x0000⟩ /- TRU_LATENCY -/,
  ⟨0x0044, 4, 1, 0x0000, 0x0000, 0x0000, 0x0000⟩ /- TRU_CMD -/,
  ⟨0x0048, 4, 1, 0x0000, 0x0000, 0x0000, 0x0000⟩ /- TRU_TRIGCNT -/,
  ⟨0x004C, 4, 1, 0x0000, 0x0000, 0x0000, 0x0000⟩ /- TRU_HOLDCNT -/,
  ⟨0x0050, 4, 1, 0x0000, 0x0000, 0x0000, 0x0000⟩ /- TRU_DEADCNT -/,
  ⟨0x0054, 4, 1, 0x0000, 0x0000, 0x0000, 0x0000⟩ /- TRU_NACCCNT -/,
  ⟨0x0058, 4, 1, 0x0000, 0x0000, 0x0000, 0x0000⟩ /- TRU_CNTCLR -/,
  ⟨0x0060, 4, 1, 0x0000, 0x0000, 0x0000, 0x0000⟩ /- TRU_LAST_TS_LO -/,
  ⟨0x0064, 4, 1, 0x0000, 0x0000, 0x0000, 0x0000⟩ /- TRU_LAST_TS_HI -/,
  ⟨0x0068, 4, 1, 0x0000, 0x0000, 0x0000, 0x0000⟩ /- TRU_LAST_INFO -/]

/-- Descriptors of block POL. -/
def rowsPol0 : List RegRow := [
  ⟨0x0000, 4, 1, 0x0000, 0x0000, 0x0000, 0x0000⟩ /- POL_STATUS -/,
  ⟨0x0004, 4, 1, 0x0000, 0x0007, 0x0000, 0x0000⟩ /- POL_FLAGS -/,
  ⟨0x0008, 4, 1, 0x0000, 0x0000, 0x0000, 0x0000⟩ /- POL_SPILL_HWM -/,
  ⟨0x000C, 4, 1, 0x0000, 0x0000, 0x0000, 0x0000⟩ /- POL_SLUICE_LOST -/,
  ⟨0x0010, 4, 1, 0x0000, 0x0000, 0x0000, 0x0000⟩ /- POL_CNTCLR -/,
  ⟨0x0014, 4, 1, 0x1_FFFF, 0x0000, 0x0000, 0xE000⟩ /- POL_SPILL_RESUME -/,
  ⟨0x1000, 128, 16, 0x0131, 0x0000, 0x0000, 0x0000⟩ /- POL_G_CTL -/,
  ⟨0x1004, 128, 16, 0xFF_FFFF, 0x0000, 0x0000, 0x0000⟩ /- POL_G_NPOLD -/,
  ⟨0x1008, 128, 16, 0xFFFF_FFFF, 0x0000, 0x0000, 0x0000⟩ /- POL_G_PRE_T -/,
  ⟨0x100C, 128, 16, 0xFFFF_FFFF, 0x0000, 0x0000, 0x4000⟩ /- POL_G_POST_T_LO -/,
  ⟨0x1010, 128, 16, 0xFFFF, 0x0000, 0x0000, 0x0000⟩ /- POL_G_POST_T_HI -/,
  ⟨0x1014, 128, 16, 0xFFFF_FFC0, 0x0000, 0x0000, 0x0000⟩ /- POL_G_DIKE_BASE_LO -/,
  ⟨0x1018, 128, 16, 0x01FF, 0x0000, 0x0000, 0x0000⟩ /- POL_G_DIKE_BASE_HI -/,
  ⟨0x101C, 128, 16, 0xFFFF_F000, 0x0000, 0x0000, 0x0000⟩ /- POL_G_DATA_BASE_LO -/,
  ⟨0x1020, 128, 16, 0x01FF, 0x0000, 0x0000, 0x0000⟩ /- POL_G_DATA_BASE_HI -/,
  ⟨0x1024, 128, 16, 0x0000, 0x0000, 0x0000, 0x0000⟩ /- POL_G_SLOT_LO -/,
  ⟨0x1028, 128, 16, 0x0000, 0x0000, 0x0000, 0x0000⟩ /- POL_G_SLOT_HI -/,
  ⟨0x102C, 128, 16, 0x0000, 0x0000, 0x0000, 0x0000⟩ /- POL_G_STATUS -/,
  ⟨0x1030, 128, 16, 0x0000, 0x0000, 0x0000, 0x0000⟩ /- POL_G_NEXT_SLOT -/,
  ⟨0x1034, 128, 16, 0x0000, 0x0000, 0x0000, 0x0000⟩ /- POL_G_ACQ -/,
  ⟨0x1038, 128, 16, 0x0000, 0x0000, 0x0000, 0x0000⟩ /- POL_G_SEQ -/,
  ⟨0x103C, 128, 16, 0x0000, 0x0000, 0x0000, 0x0000⟩ /- POL_G_GEN -/,
  ⟨0x1040, 128, 16, 0x0000, 0x003F, 0x0000, 0x0000⟩ /- POL_G_FLAGS -/,
  ⟨0x1044, 128, 16, 0x0000, 0x0000, 0x0000, 0x0000⟩ /- POL_G_LOSTCNT -/,
  ⟨0x1048, 128, 16, 0x0000, 0x0000, 0x0000, 0x0000⟩ /- POL_G_RELEASE -/,
  ⟨0x104C, 128, 16, 0x0000, 0x0000, 0x0000, 0x0000⟩ /- POL_G_SPAN_LO -/,
  ⟨0x1050, 128, 16, 0x0000, 0x0000, 0x0000, 0x0000⟩ /- POL_G_SPAN_HI -/]

/-- Descriptors of block WAC. -/
def rowsWac0 : List RegRow := [
  ⟨0x0000, 4, 1, 0xFF_03F3, 0x0000, 0x0000, 0x0000⟩ /- WAC_CTL -/,
  ⟨0x0004, 4, 1, 0x0000, 0x0000, 0x0000, 0x01F0⟩ /- WAC_STATUS -/,
  ⟨0x0008, 4, 1, 0x0000, 0x000F, 0x0000, 0x0000⟩ /- WAC_FLAGS -/,
  ⟨0x000C, 4, 1, 0x1FF_FFFF, 0x0000, 0x0000, 0x0400⟩ /- WAC_LEN -/,
  ⟨0x0010, 4, 1, 0xFFFF_FFFF, 0x0000, 0x0000, 0x0000⟩ /- WAC_OFFSET -/,
  ⟨0x0014, 4, 1, 0x1FF_FFFF, 0x0000, 0x0000, 0x0001⟩ /- WAC_NACQ -/,
  ⟨0x0018, 4, 1, 0x0000, 0x0000, 0x0000, 0x0000⟩ /- WAC_COUNT -/,
  ⟨0x001C, 4, 1, 0x0000, 0x0000, 0x0000, 0x0000⟩ /- WAC_REJCNT -/,
  ⟨0x0020, 4, 1, 0x0000, 0x0000, 0x0000, 0x0000⟩ /- WAC_BUSYCNT -/,
  ⟨0x0024, 4, 1, 0x0000, 0x0000, 0x0000, 0x0000⟩ /- WAC_OVRCNT -/,
  ⟨0x0028, 4, 1, 0xFFFF_FFC0, 0x0000, 0x0000, 0x0000⟩ /- WAC_RES_BASE_LO -/,
  ⟨0x002C, 4, 1, 0x01FF, 0x0000, 0x0000, 0x0000⟩ /- WAC_RES_BASE_HI -/,
  ⟨0x0030, 4, 1, 0xFFFF_FFC0, 0x0000, 0x0000, 0x0000⟩ /- WAC_WORK_BASE_LO -/,
  ⟨0x0034, 4, 1, 0x01FF, 0x0000, 0x0000, 0x0000⟩ /- WAC_WORK_BASE_HI -/,
  ⟨0x0038, 4, 1, 0x0000, 0x0000, 0x0000, 0x0000⟩ /- WAC_OFFSUM_LO -/,
  ⟨0x003C, 4, 1, 0x0000, 0x0000, 0x0000, 0x0000⟩ /- WAC_OFFSUM_HI -/,
  ⟨0x0040, 4, 1, 0x0000, 0x0000, 0x0000, 0x0000⟩ /- WAC_CMD -/]

/-- Descriptors of block PCV. -/
def rowsPcv0 : List RegRow := [
  ⟨0x0000, 4, 1, 0x1FF_F333, 0x0000, 0x0000, 0x0000⟩ /- PCV_CTL -/,
  ⟨0x0004, 4, 1, 0x0000, 0x0000, 0x0000, 0x01F0⟩ /- PCV_STATUS -/,
  ⟨0x0008, 4, 1, 0x0000, 0xF_0FFB, 0x0000, 0x0000⟩ /- PCV_FLAGS -/,
  ⟨0x000C, 4, 1, 0x0000, 0x0000, 0x0000, 0x0000⟩ /- PCV_OVRCNT -/,
  ⟨0x0010, 4, 1, 0x0000, 0x0000, 0x0000, 0x0000⟩ /- PCV_TRIG_OVERRUN -/,
  ⟨0x0014, 4, 1, 0x0000, 0x0000, 0x0000, 0x0000⟩ /- PCV_URG_DROPCNT -/,
  ⟨0x0018, 4, 1, 0x0000, 0x0000, 0x0000, 0x0000⟩ /- PCV_LOSTCNT -/,
  ⟨0x001C, 4, 1, 0x0000, 0x0000, 0x0000, 0x0000⟩ /- PCV_CNTCLR -/,
  ⟨0x0020, 4, 1, 0x0000, 0x0000, 0x0000, 0x0000⟩ /- PCV_CMD -/,
  ⟨0x0024, 4, 1, 0xFFFF_FFFF, 0x0000, 0x0000, 0x0000⟩ /- PCV_DELAY -/,
  ⟨0x0028, 4, 1, 0xFFFF_FFFF, 0x0000, 0x0000, 0x2800⟩ /- PCV_TIMER_PERIOD -/,
  ⟨0x002C, 4, 1, 0xFFFF_FFFF, 0x0000, 0x0000, 0x0000⟩ /- PCV_TIMER_PHASE -/,
  ⟨0x0030, 4, 1, 0xFFFF, 0x0000, 0x0000, 0x0080⟩ /- PCV_MUXSET -/,
  ⟨0x0034, 4, 1, 0x7F_FFFF, 0x0000, 0x0000, 0x40_0000⟩ /- PCV_OW_THRESH -/,
  ⟨0x0038, 4, 1, 0xFFFF_FFFF, 0x0000, 0x0000, 0x0000⟩ /- PCV_TS_ADJ -/,
  ⟨0x0040, 4, 4, 0x13FF_FFFF, 0x0000, 0x0000, 0x200_2800⟩ /- PCV_PROF -/,
  ⟨0x0080, 4, 16, 0xFFFF_037F, 0x0000, 0x0000, 0x0000⟩ /- PCV_SEQ -/,
  ⟨0x00C0, 4, 1, 0xFFFF_037F, 0x0000, 0x0000, 0x0000⟩ /- PCV_URG -/,
  ⟨0x00D0, 4, 1, 0xFFFF_FFC0, 0x0000, 0x0000, 0x0000⟩ /- PCV_RING_BASE_LO -/,
  ⟨0x00D4, 4, 1, 0x01FF, 0x0000, 0x0000, 0x0000⟩ /- PCV_RING_BASE_HI -/,
  ⟨0x00D8, 4, 1, 0xFFF_FFFF, 0x0000, 0x0000, 0x1000⟩ /- PCV_RING_UNITS -/,
  ⟨0x00DC, 4, 1, 0x0000, 0x0000, 0x0000, 0x0000⟩ /- PCV_RING_WR -/,
  ⟨0x00E0, 4, 1, 0xFFFF_FFFF, 0x0000, 0x0000, 0x0000⟩ /- PCV_RING_RD -/,
  ⟨0x00E4, 4, 1, 0x1FFF, 0x0000, 0x0000, 0x0000⟩ /- PCV_FLOW -/,
  ⟨0x00F0, 4, 1, 0x0000, 0x0000, 0x0000, 0x0000⟩ /- PCV_REF_DRIFT -/,
  ⟨0x00F4, 4, 1, 0xFFFF, 0x0000, 0x0000, 0x01F4⟩ /- PCV_REF_LIMIT -/,
  ⟨0x00F8, 4, 1, 0x0000, 0x0000, 0x0000, 0x0000⟩ /- PCV_REF_SPEC -/]

/-- Descriptors of block STO. -/
def rowsSto0 : List RegRow := [
  ⟨0x0000, 4, 1, 0xECF7, 0x0000, 0x0000, 0x0000⟩ /- STO_CTL -/,
  ⟨0x0004, 4, 1, 0x0000, 0x0000, 0x0000, 0x01F0⟩ /- STO_STATUS -/,
  ⟨0x0008, 4, 1, 0x0000, 0x007F, 0x0000, 0x0000⟩ /- STO_FLAGS -/,
  ⟨0x000C, 4, 1, 0xFFFF, 0x0000, 0x0000, 0x4000⟩ /- STO_GAIN -/,
  ⟨0x0010, 4, 1, 0x3_FFFF, 0x0000, 0x0000, 0x0000⟩ /- STO_OFFSET -/,
  ⟨0x0014, 4, 1, 0x3_FFFF, 0x0000, 0x0000, 0x0000⟩ /- STO_IDLE -/,
  ⟨0x0018, 4, 1, 0x1FFF, 0x0000, 0x0000, 0x0000⟩ /- STO_FLOW -/,
  ⟨0x001C, 4, 1, 0xFFFF_FFFF, 0x0000, 0x0000, 0x0000⟩ /- STO_LENGTH -/,
  ⟨0x0020, 4, 1, 0x0000, 0x0000, 0x0000, 0x0000⟩ /- STO_CMD -/,
  ⟨0x0024, 4, 1, 0xFFFF_FFFF, 0x0000, 0x0000, 0x0000⟩ /- STO_AT_TS_LO -/,
  ⟨0x0028, 4, 1, 0xFFFF_FFFF, 0x0000, 0x0000, 0x0000⟩ /- STO_AT_TS_HI -/,
  ⟨0x002C, 4, 1, 0x0000, 0x0000, 0x0000, 0x0000⟩ /- STO_TRIGCNT -/,
  ⟨0x0030, 4, 1, 0x0000, 0x0000, 0x0000, 0x0000⟩ /- STO_DROPCNT -/,
  ⟨0x0034, 4, 1, 0x0000, 0x0000, 0x0000, 0x0000⟩ /- STO_UNDERCNT -/,
  ⟨0x0038, 4, 1, 0x0000, 0x0000, 0x0000, 0x0000⟩ /- STO_SATCNT -/,
  ⟨0x003C, 4, 1, 0x0000, 0x0000, 0x0000, 0x0000⟩ /- STO_CNTCLR -/,
  ⟨0x0040, 4, 1, 0x0000, 0x0000, 0x0000, 0x0000⟩ /- STO_LAST_TS_LO -/,
  ⟨0x0044, 4, 1, 0x0000, 0x0000, 0x0000, 0x0000⟩ /- STO_LAST_TS_HI -/,
  ⟨0x0048, 4, 1, 0x0000, 0x0000, 0x0000, 0x0000⟩ /- STO_LAST_INFO -/,
  ⟨0x0050, 4, 1, 0x0007, 0x0000, 0x0000, 0x0000⟩ /- STO_GEN_CTL -/,
  ⟨0x0054, 4, 1, 0x3_FFFF, 0x0000, 0x0000, 0x0000⟩ /- STO_GEN_AMP -/,
  ⟨0x0058, 4, 1, 0xFFFF_FFFF, 0x0000, 0x0000, 0x0000⟩ /- STO_GEN_FREQ -/,
  ⟨0x005C, 4, 1, 0xFFFF_FFFF, 0x0000, 0x0000, 0x0000⟩ /- STO_GEN_PHASE -/,
  ⟨0x0060, 4, 1, 0xFFFF_FFFF, 0x0000, 0x0000, 0x0000⟩ /- STO_GEN_RATE -/]

/-- Descriptors of block TPT. -/
def rowsTpt0 : List RegRow := [
  ⟨0x0000, 4, 1, 0x07EF, 0x0000, 0x0000, 0x0000⟩ /- TPT_CTL -/,
  ⟨0x0004, 4, 1, 0x0000, 0x0000, 0x0000, 0x01F0⟩ /- TPT_STATUS -/,
  ⟨0x0008, 4, 1, 0x0000, 0x007F, 0x0000, 0x0000⟩ /- TPT_FLAGS -/,
  ⟨0x000C, 4, 1, 0xFFFF_FFFF, 0x0000, 0x0000, 0x0000⟩ /- TPT_DELAY -/,
  ⟨0x0010, 4, 1, 0xFFFF_FFFF, 0x0000, 0x0000, 0x0400⟩ /- TPT_WIDTH -/,
  ⟨0x0014, 4, 1, 0xFFFF_FFFF, 0x0000, 0x0000, 0x0800⟩ /- TPT_PERIOD -/,
  ⟨0x0018, 4, 1, 0xFF_FFFF, 0x0000, 0x0000, 0x0001⟩ /- TPT_COUNT -/,
  ⟨0x001C, 4, 1, 0x0000, 0x0000, 0x0000, 0x0000⟩ /- TPT_CMD -/,
  ⟨0x0020, 4, 1, 0xFFFF_FFFF, 0x0000, 0x0000, 0x0000⟩ /- TPT_AT_TS_LO -/,
  ⟨0x0024, 4, 1, 0xFFFF_FFFF, 0x0000, 0x0000, 0x0000⟩ /- TPT_AT_TS_HI -/,
  ⟨0x0028, 4, 1, 0xFF_FFFF, 0x0000, 0x0000, 0x0000⟩ /- TPT_FRAME_NEXT -/,
  ⟨0x002C, 4, 1, 0x0000, 0x0000, 0x0000, 0x0000⟩ /- TPT_FIFO_TS_LO -/,
  ⟨0x0030, 4, 1, 0x0000, 0x0000, 0x0000, 0x0000⟩ /- TPT_FIFO_TS_HI -/,
  ⟨0x0034, 4, 1, 0x0000, 0x0000, 0x0000, 0x0000⟩ /- TPT_FIFO_INFO -/,
  ⟨0x0038, 4, 1, 0x0000, 0x0000, 0x0000, 0x0000⟩ /- TPT_EDGECNT -/,
  ⟨0x003C, 4, 1, 0x0000, 0x0000, 0x0000, 0x0000⟩ /- TPT_LOSTCNT -/,
  ⟨0x0040, 4, 1, 0x0000, 0x0000, 0x0000, 0x0000⟩ /- TPT_LATECNT -/,
  ⟨0x0044, 4, 1, 0x0000, 0x0000, 0x0000, 0x0000⟩ /- TPT_DROPCNT -/,
  ⟨0x0048, 4, 1, 0x0000, 0x0000, 0x0000, 0x0000⟩ /- TPT_CNTCLR -/,
  ⟨0x0050, 4, 1, 0xFFFF_FFF0, 0x0000, 0x0000, 0x0000⟩ /- TPT_LOG_BASE_LO -/,
  ⟨0x0054, 4, 1, 0x01FF, 0x0000, 0x0000, 0x0000⟩ /- TPT_LOG_BASE_HI -/,
  ⟨0x0058, 4, 1, 0xFFF_FFFF, 0x0000, 0x0000, 0x1000⟩ /- TPT_LOG_ENTRIES -/,
  ⟨0x005C, 4, 1, 0x0000, 0x0000, 0x0000, 0x0000⟩ /- TPT_LOG_WR -/,
  ⟨0x0060, 4, 1, 0xFFFF_FFFF, 0x0000, 0x0000, 0x0000⟩ /- TPT_LOG_RD -/]

/-- Descriptors of block CKS. -/
def rowsCks0 : List RegRow := [
  ⟨0x0000, 4, 1, 0x000F, 0x0000, 0x0000, 0x000B⟩ /- CKS_REF_CTL -/,
  ⟨0x0004, 4, 1, 0x0000, 0x0000, 0x0000, 0x0000⟩ /- CKS_STATUS -/,
  ⟨0x0008, 4, 1, 0x0000, 0x007F, 0x0000, 0x0000⟩ /- CKS_FLAGS -/,
  ⟨0x000C, 4, 1, 0x0000, 0x0000, 0x0000, 0x0000⟩ /- CKS_CMD -/,
  ⟨0x0010, 4, 1, 0x0000, 0x0000, 0x0000, 0x0000⟩ /- CKS_EPOCH -/,
  ⟨0x0014, 4, 1, 0x0000, 0x0000, 0x0000, 0x0000⟩ /- CKS_LOSSCNT -/,
  ⟨0x0018, 4, 1, 0x0000, 0x0000, 0x0000, 0x0000⟩ /- CKS_FREEZE_US -/,
  ⟨0x0020, 4, 1, 0x0000, 0x0000, 0x0000, 0x0000⟩ /- CKS_TICK_LO -/,
  ⟨0x0024, 4, 1, 0x0000, 0x0000, 0x0000, 0x0000⟩ /- CKS_TICK_HI -/,
  ⟨0x0028, 4, 1, 0x0000, 0x0000, 0x0000, 0x0000⟩ /- CKS_LOSS_TS_LO -/,
  ⟨0x002C, 4, 1, 0x0000, 0x0000, 0x0000, 0x0000⟩ /- CKS_LOSS_TS_HI -/,
  ⟨0x0030, 4, 1, 0x0000, 0x0000, 0x0000, 0x0000⟩ /- CKS_FREEZE_TS_LO -/,
  ⟨0x0034, 4, 1, 0x0000, 0x0000, 0x0000, 0x0000⟩ /- CKS_FREEZE_TS_HI -/,
  ⟨0x0040, 4, 9, 0x0000, 0x0000, 0x0000, 0x8000_0000⟩ /- CKS_OUT -/,
  ⟨0x0080, 4, 8, 0x37F_007F, 0x0000, 0x0000, 0x50_0050⟩ /- CKS_MDLL_CTL -/,
  ⟨0x00A0, 4, 8, 0x0000, 0x0000, 0x0000, 0x0000⟩ /- CKS_MDLL_STAT -/]

/-- Descriptors of block MCH. -/
def rowsMch0 : List RegRow := [
  ⟨0x0000, 4, 1, 0x0000, 0x0000, 0x0000, 0x0000⟩ /- MCH_CFG -/,
  ⟨0x0004, 4, 1, 0x0007, 0x0000, 0x0000, 0x0001⟩ /- MCH_CTL -/,
  ⟨0x0008, 4, 1, 0x0000, 0x0000, 0x0000, 0x0000⟩ /- MCH_STATUS -/,
  ⟨0x000C, 4, 1, 0x0000, 0x07FB, 0x0000, 0x0000⟩ /- MCH_FLAGS -/,
  ⟨0x0010, 4, 1, 0x0000, 0x0000, 0x0000, 0x0000⟩ /- MCH_CMD -/,
  ⟨0x0014, 4, 1, 0xFFFF, 0x0000, 0x0000, 0x03E8⟩ /- MCH_SR_IDLE -/,
  ⟨0x0018, 4, 1, 0xFFFF_FFFF, 0x0000, 0x0000, 0x2710⟩ /- MCH_SCRUB -/,
  ⟨0x001C, 4, 1, 0x0000, 0x0000, 0x0000, 0x0000⟩ /- MCH_SCRUB_PASS -/,
  ⟨0x0020, 4, 1, 0x0000, 0x0000, 0x0000, 0x0000⟩ /- MCH_CE_CNT -/,
  ⟨0x0024, 4, 1, 0x0000, 0x0000, 0x0000, 0x0000⟩ /- MCH_UE_CNT -/,
  ⟨0x0028, 4, 1, 0x0000, 0x0000, 0x0000, 0x0000⟩ /- MCH_CAPAR_CNT -/,
  ⟨0x002C, 4, 1, 0x0000, 0x0000, 0x0000, 0x0000⟩ /- MCH_SR_ABORT -/,
  ⟨0x0030, 4, 1, 0x0000, 0x0000, 0x0000, 0x0000⟩ /- MCH_SR_CNT -/,
  ⟨0x0034, 4, 1, 0xFF_FFFF, 0x0000, 0x0000, 0x8_1000⟩ /- MCH_RH_CTL -/,
  ⟨0x0038, 4, 1, 0x0000, 0x0000, 0x0000, 0x0000⟩ /- MCH_RFM_CNT -/,
  ⟨0x003C, 4, 1, 0x0000, 0x0000, 0x0000, 0x0000⟩ /- MCH_RH_REQ -/,
  ⟨0x0040, 4, 1, 0x0000, 0x0000, 0x0000, 0x0000⟩ /- MCH_RH_ROW -/,
  ⟨0x0044, 4, 1, 0x0000, 0x0000, 0x0000, 0x0000⟩ /- MCH_RAW_WAIT -/,
  ⟨0x0048, 4, 1, 0x0000, 0x0000, 0x0000, 0x0000⟩ /- MCH_DROPCNT -/,
  ⟨0x004C, 4, 1, 0x0000, 0x0000, 0x0000, 0x0000⟩ /- MCH_CNTCLR -/,
  ⟨0x0050, 4, 1, 0x0000, 0x0000, 0x0000, 0x0000⟩ /- MCH_CE_ADDR_LO -/,
  ⟨0x0054, 4, 1, 0x0000, 0x0000, 0x0000, 0x0000⟩ /- MCH_CE_ADDR_HI -/,
  ⟨0x0058, 4, 1, 0x0000, 0x0000, 0x0000, 0x0000⟩ /- MCH_UE_ADDR_LO -/,
  ⟨0x005C, 4, 1, 0x0000, 0x0000, 0x0000, 0x0000⟩ /- MCH_UE_ADDR_HI -/,
  ⟨0x0060, 4, 1, 0x0000, 0x0000, 0x0000, 0x0000⟩ /- MCH_UE_INFO -/,
  ⟨0x0064, 4, 1, 0x0000, 0x0000, 0x0000, 0x0000⟩ /- MCH_EYE -/,
  ⟨0x0068, 4, 1, 0xFFFF, 0x0000, 0x0000, 0x5A40⟩ /- MCH_EYE_MIN -/,
  ⟨0x006C, 4, 1, 0x0000, 0x0000, 0x0000, 0x0000⟩ /- MCH_DIMM_TEMP -/]

/-- Descriptors of block DMA. -/
def rowsDma0 : List RegRow := [
  ⟨0x0000, 4, 1, 0x0000, 0x0000, 0x0000, 0x0000⟩ /- DMA_STATUS -/,
  ⟨0x0004, 4, 1, 0x0000, 0x000F, 0x0000, 0x0000⟩ /- DMA_FLAGS -/,
  ⟨0x0008, 4, 1, 0x0000, 0x0000, 0x0000, 0x0000⟩ /- DMA_CMD -/,
  ⟨0x000C, 4, 1, 0x0000, 0x0000, 0x0000, 0x0000⟩ /- DMA_SEM_ADD -/,
  ⟨0x0010, 4, 1, 0x0000, 0x0000, 0x0000, 0x0000⟩ /- DMA_BADCNT -/,
  ⟨0x0014, 4, 1, 0x0000, 0x0000, 0x0000, 0x0000⟩ /- DMA_LAST_BAD -/,
  ⟨0x0018, 4, 1, 0x0000, 0x0000, 0x0000, 0x0000⟩ /- DMA_LAST_BAD_PC_LO -/,
  ⟨0x001C, 4, 1, 0x0000, 0x0000, 0x0000, 0x0000⟩ /- DMA_LAST_BAD_PC_HI -/,
  ⟨0x0020, 4, 1, 0x0000, 0x0000, 0x0000, 0x0000⟩ /- DMA_CNTCLR -/]

/-- Descriptors of block DMAF. -/
def rowsDmaf0 : List RegRow := [
  ⟨0x0000, 4, 1, 0x000F, 0x0000, 0x0000, 0x0000⟩ /- DMA_F_CTL -/,
  ⟨0x0004, 4, 1, 0x0000, 0x0000, 0x0000, 0x0000⟩ /- DMA_F_STATUS -/,
  ⟨0x0008, 4, 1, 0xFFFF_FFF0, 0x0000, 0x0000, 0x0000⟩ /- DMA_F_ENTRY_LO -/,
  ⟨0x000C, 4, 1, 0x01FF, 0x0000, 0x0000, 0x0000⟩ /- DMA_F_ENTRY_HI -/,
  ⟨0x0010, 4, 1, 0x0000, 0x0000, 0x0000, 0x0000⟩ /- DMA_F_PC_LO -/,
  ⟨0x0014, 4, 1, 0x0000, 0x0000, 0x0000, 0x0000⟩ /- DMA_F_PC_HI -/,
  ⟨0x0018, 4, 1, 0x0000, 0x0000, 0x0000, 0x0000⟩ /- DMA_F_SEM -/,
  ⟨0x001C, 4, 1, 0x0000, 0x0000, 0x0000, 0x0000⟩ /- DMA_F_LOOP_A -/,
  ⟨0x0020, 4, 1, 0x0000, 0x0000, 0x0000, 0x0000⟩ /- DMA_F_LOOP_B -/,
  ⟨0x0024, 4, 1, 0x0000, 0x0000, 0x0000, 0x0000⟩ /- DMA_F_RATE -/,
  ⟨0x0028, 4, 1, 0xFFFF_FFFF, 0x0000, 0x0000, 0x0000⟩ /- DMA_F_PTR_LO -/,
  ⟨0x002C, 4, 1, 0x01FF, 0x0000, 0x0000, 0x0000⟩ /- DMA_F_PTR_HI -/,
  ⟨0x0030, 4, 1, 0xFFFF_FFFF, 0x0000, 0x0000, 0x0000⟩ /- DMA_F_RING_BASE_LO -/,
  ⟨0x0034, 4, 1, 0x01FF, 0x0000, 0x0000, 0x0000⟩ /- DMA_F_RING_BASE_HI -/,
  ⟨0x0038, 4, 1, 0xFFFF_FFFF, 0x0000, 0x0000, 0x0000⟩ /- DMA_F_RING_SIZE -/,
  ⟨0x003C, 4, 1, 0x0000, 0x0000, 0x0000, 0x0000⟩ /- DMA_F_BADCNT -/]

/-- Descriptors of block CMP. -/
def rowsCmp0 : List RegRow := [
  ⟨0x0000, 4, 1, 0x0001, 0x0000, 0x0000, 0x0001⟩ /- CMP_CTL -/,
  ⟨0x0004, 4, 1, 0x0000, 0x0000, 0x0000, 0x0000⟩ /- CMP_STATUS -/,
  ⟨0x0008, 4, 1, 0x0000, 0x003F, 0x0000, 0x0000⟩ /- CMP_FLAGS -/,
  ⟨0x000C, 4, 1, 0x0000, 0x0000, 0x0000, 0x0000⟩ /- CMP_SUBMIT_LO -/,
  ⟨0x0010, 4, 1, 0x0000, 0x0000, 0x0000, 0x0000⟩ /- CMP_SUBMIT_HI -/,
  ⟨0x0014, 4, 1, 0x0000, 0x0000, 0x0000, 0x0000⟩ /- CMP_CMD -/,
  ⟨0x0018, 4, 1, 0x0000, 0x0000, 0x0000, 0x0000⟩ /- CMP_JOBCNT -/,
  ⟨0x001C, 4, 1, 0x0000, 0x0000, 0x0000, 0x0000⟩ /- CMP_ERRCNT -/,
  ⟨0x0020, 4, 1, 0x0000, 0x0000, 0x0000, 0x0000⟩ /- CMP_CNTCLR -/,
  ⟨0x0024, 4, 1, 0x0000, 0x0000, 0x0000, 0x0000⟩ /- CMP_CUR_LO -/,
  ⟨0x0028, 4, 1, 0x0000, 0x0000, 0x0000, 0x0000⟩ /- CMP_CUR_HI -/]

/-- Descriptors of block EVC. -/
def rowsEvc0 : List RegRow := [
  ⟨0x0000, 4, 1, 0x0001, 0x0000, 0x0000, 0x0000⟩ /- EVC_CTL -/,
  ⟨0x0004, 4, 1, 0x0000, 0x0000, 0x0000, 0x0000⟩ /- EVC_STATUS -/,
  ⟨0x0008, 4, 1, 0x0000, 0x0003, 0x0000, 0x0000⟩ /- EVC_FLAGS -/,
  ⟨0x000C, 4, 1, 0x0000, 0x0000, 0x0000, 0x0000⟩ /- EVC_MERGECNT -/,
  ⟨0x0010, 4, 1, 0x0000, 0x0000, 0x0000, 0x0000⟩ /- EVC_CNTCLR -/,
  ⟨0x0014, 4, 1, 0x0000, 0x0000, 0x0000, 0x0000⟩ /- EVC_SLEEP_STAT -/,
  ⟨0x0018, 4, 1, 0x0000, 0x0000, 0x0000, 0x0000⟩ /- EVC_WAKE_SRC -/,
  ⟨0x0020, 32, 3, 0x7F_003F, 0x0000, 0x0000, 0x40_0000⟩ /- EVC_T_CTL -/,
  ⟨0x0024, 32, 3, 0x0000, 0x0000, 0x0000, 0x0000⟩ /- EVC_T_STATUS -/,
  ⟨0x0028, 32, 3, 0x0000, 0x0000, 0x0000, 0x0000⟩ /- EVC_T_CLAIM -/,
  ⟨0x002C, 32, 3, 0x0000, 0x0000, 0x0000, 0x0000⟩ /- EVC_T_COMPLETE -/,
  ⟨0x0030, 32, 3, 0x0000, 0x0000, 0x0000, 0x0000⟩ /- EVC_T_CLAIM_TS_LO -/,
  ⟨0x0034, 32, 3, 0x0000, 0x0000, 0x0000, 0x0000⟩ /- EVC_T_CLAIM_TS_HI -/,
  ⟨0x1004, 4, 1471, 0x0E1F, 0x0000, 0x0000, 0x0000⟩ /- EVC_SRC_CFG -/,
  ⟨0x3004, 4, 1471, 0x0000, 0x1000, 0x0000, 0x0000⟩ /- EVC_SRC_STAT -/]

/-- Descriptors of block HLK. -/
def rowsHlk0 : List RegRow := [
  ⟨0x0000, 4, 1, 0xFF3F, 0x0000, 0x0000, 0x4028⟩ /- HLK_CTL -/,
  ⟨0x0004, 4, 1, 0x0000, 0x0000, 0x0000, 0x0000⟩ /- HLK_STATUS -/,
  ⟨0x0008, 4, 1, 0x0000, 0x01FF, 0x0000, 0x0000⟩ /- HLK_FLAGS -/,
  ⟨0x000C, 4, 1, 0x0000, 0x000F, 0x0000, 0x0000⟩ /- HLK_ERR -/,
  ⟨0x0010, 4, 1, 0x0000, 0x0000, 0x0000, 0x0000⟩ /- HLK_GATED_ADDR -/,
  ⟨0x0014, 4, 1, 0x0000, 0x0000, 0x0000, 0x0000⟩ /- HLK_REFUSED_ADDR -/,
  ⟨0x0018, 4, 1, 0x0000, 0x0000, 0x0000, 0x0000⟩ /- HLK_CMD -/,
  ⟨0x001C, 4, 1, 0xFFFF_FFFF, 0x0000, 0x0000, 0x2710⟩ /- HLK_SESS_TO -/,
  ⟨0x0020, 4, 1, 0xFFFF_FFFF, 0x0000, 0x0000, 0x3E8_07D0⟩ /- HLK_RTO -/,
  ⟨0x0024, 4, 1, 0x0000, 0x0000, 0x0000, 0x0000⟩ /- HLK_MAC_LO -/,
  ⟨0x0028, 4, 1, 0x0000, 0x0000, 0x0000, 0x0000⟩ /- HLK_MAC_HI -/,
  ⟨0x002C, 4, 1, 0xFFFF, 0x0000, 0x0000, 0xB82E⟩ /- HLK_UDP_PORT -/,
  ⟨0x0030, 16, 4, 0xFFFF_FFFF, 0x0000, 0x0000, 0x0000⟩ /- HLK_IF_ADDR -/,
  ⟨0x0034, 16, 4, 0xFFFF_FFFF, 0x0000, 0x0000, 0x0000⟩ /- HLK_IF_MASK -/,
  ⟨0x0038, 16, 4, 0xFFFF_FFFF, 0x0000, 0x0000, 0x0000⟩ /- HLK_IF_GW -/,
  ⟨0x003C, 16, 4, 0x8000_3FFF, 0x0000, 0x0000, 0x8000_2328⟩ /- HLK_IF_CFG -/,
  ⟨0x0070, 4, 4, 0xFFFF_FFFF, 0x0000, 0x0000, 0x0000⟩ /- HLK_IPV6_W -/,
  ⟨0x0080, 4, 8, 0x0000, 0x0000, 0x0000, 0x0000⟩ /- HLK_KEY -/,
  ⟨0x00A0, 4, 1, 0x0000, 0x0000, 0x0000, 0x0000⟩ /- HLK_RXCNT -/,
  ⟨0x00A4, 4, 1, 0x0000, 0x0000, 0x0000, 0x0000⟩ /- HLK_TXCNT -/,
  ⟨0x00A8, 4, 1, 0x0000, 0x0000, 0x0000, 0x0000⟩ /- HLK_DUPCNT -/,
  ⟨0x00AC, 4, 1, 0x0000, 0x0000, 0x0000, 0x0000⟩ /- HLK_DROPCNT -/,
  ⟨0x00B0, 4, 1, 0x0000, 0x0000, 0x0000, 0x0000⟩ /- HLK_AUTHFAIL -/,
  ⟨0x00B4, 4, 1, 0x0000, 0x0000, 0x0000, 0x0000⟩ /- HLK_RETXCNT -/,
  ⟨0x00B8, 4, 1, 0x0000, 0x0000, 0x0000, 0x0000⟩ /- HLK_MACDROP -/,
  ⟨0x00BC, 4, 1, 0x0000, 0x0000, 0x0000, 0x0000⟩ /- HLK_CNTCLR -/,
  ⟨0x00C0, 4, 1, 0x0000, 0x0000, 0x0000, 0x0000⟩ /- HLK_EYE -/,
  ⟨0x0100, 8, 8, 0x0000, 0x0000, 0x0000, 0x0000⟩ /- HLK_S_ID -/,
  ⟨0x0104, 8, 8, 0x0000, 0x0000, 0x0000, 0x0000⟩ /- HLK_S_INFO -/]

/-- Descriptors of block CHN. -/
def rowsChn0 : List RegRow := [
  ⟨0x0000, 4, 1, 0x0007, 0x0000, 0x0000, 0x0006⟩ /- CHN_CTL -/,
  ⟨0x0004, 4, 1, 0x0000, 0x0000, 0x0000, 0x0000⟩ /- CHN_STATUS -/,
  ⟨0x0008, 4, 1, 0x0000, 0x3FFF, 0x0000, 0x0000⟩ /- CHN_FLAGS -/,
  ⟨0x000C, 4, 1, 0x0000, 0x0000, 0x0000, 0x0000⟩ /- CHN_CMD -/,
  ⟨0x0010, 4, 1, 0x0000, 0x0000, 0x0000, 0x0000⟩ /- CHN_GEN -/,
  ⟨0x0014, 4, 1, 0x0000, 0x0000, 0x0000, 0x0000⟩ /- CHN_RELEASE -/,
  ⟨0x0018, 4, 1, 0x0000, 0x0000, 0x0000, 0x0000⟩ /- CHN_HOP -/,
  ⟨0x001C, 4, 1, 0x0000, 0x0000, 0x0000, 0x0000⟩ /- CHN_OFFSET -/,
  ⟨0x0020, 4, 1, 0x0000, 0x0000, 0x0000, 0x0000⟩ /- CHN_EYE -/,
  ⟨0x0024, 4, 1, 0xFFFF, 0x0000, 0x0000, 0x5A40⟩ /- CHN_EYE_MIN -/,
  ⟨0x0028, 4, 1, 0xFFFF, 0x0000, 0x0000, 0x0000⟩ /- CHN_ASYM -/,
  ⟨0x002C, 4, 1, 0x0000, 0x0000, 0x0000, 0x0000⟩ /- CHN_TRIGTX -/,
  ⟨0x0030, 4, 1, 0x0000, 0x0000, 0x0000, 0x0000⟩ /- CHN_TRIGRX -/,
  ⟨0x0034, 4, 1, 0x0000, 0x0000, 0x0000, 0x0000⟩ /- CHN_TRIGDROP -/,
  ⟨0x0038, 4, 1, 0x0000, 0x0000, 0x0000, 0x0000⟩ /- CHN_CRCERR -/,
  ⟨0x003C, 4, 1, 0x0000, 0x0000, 0x0000, 0x0000⟩ /- CHN_RETX -/,
  ⟨0x0040, 4, 1, 0x0000, 0x0000, 0x0000, 0x0000⟩ /- CHN_CNTCLR -/,
  ⟨0x0044, 4, 1, 0x0000, 0x0000, 0x0000, 0x0000⟩ /- CHN_REVT_TS_LO -/,
  ⟨0x0048, 4, 1, 0x0000, 0x0000, 0x0000, 0x0000⟩ /- CHN_REVT_TS_HI -/,
  ⟨0x004C, 4, 1, 0x0000, 0x0000, 0x0000, 0x0000⟩ /- CHN_REVT_INFO -/,
  ⟨0x0050, 4, 1, 0x0000, 0x0000, 0x0000, 0x0000⟩ /- CHN_REVT_STAT -/,
  ⟨0x0054, 4, 1, 0x0000, 0x0000, 0x0000, 0x0000⟩ /- CHN_CMDSTAT -/,
  ⟨0x0058, 4, 1, 0xFF03, 0x0000, 0x0000, 0x0000⟩ /- CHN_PTP_CTL -/,
  ⟨0x005C, 4, 1, 0x0000, 0x0000, 0x0000, 0x0000⟩ /- CHN_MAP_TICK_LO -/,
  ⟨0x0060, 4, 1, 0x0000, 0x0000, 0x0000, 0x0000⟩ /- CHN_MAP_TICK_HI -/,
  ⟨0x0064, 4, 1, 0xFFFF_FFFF, 0x0000, 0x0000, 0x0000⟩ /- CHN_MAP_SEC_LO -/,
  ⟨0x0068, 4, 1, 0xFFFF, 0x0000, 0x0000, 0x0000⟩ /- CHN_MAP_SEC_HI -/,
  ⟨0x006C, 4, 1, 0x3FFF_FFFF, 0x0000, 0x0000, 0x0000⟩ /- CHN_MAP_NS -/,
  ⟨0x0070, 4, 1, 0xFFFF_FFFF, 0x0000, 0x0000, 0x0000⟩ /- CHN_MAP_RATE -/,
  ⟨0x0104, 4, 63, 0x0000, 0x0000, 0x0000, 0x0000⟩ /- CHN_RES -/]

/-- Descriptors of block CFG. -/
def rowsCfg0 : List RegRow := [
  ⟨0x0000, 4, 1, 0x0007, 0x0000, 0x0000, 0x0004⟩ /- CFG_CTL -/,
  ⟨0x0004, 4, 1, 0x0000, 0x0000, 0x0000, 0x0007⟩ /- CFG_STATUS -/,
  ⟨0x0008, 4, 1, 0x0000, 0x01FF, 0x0000, 0x0000⟩ /- CFG_FLAGS -/,
  ⟨0x000C, 4, 1, 0x0000, 0x0000, 0x0000, 0x0000⟩ /- CFG_CMD -/,
  ⟨0x0010, 4, 1, 0xFFFF_FFC0, 0x0000, 0x0000, 0x0000⟩ /- CFG_STAGE_LO -/,
  ⟨0x0014, 4, 1, 0x01FF, 0x0000, 0x0000, 0x0000⟩ /- CFG_STAGE_HI -/,
  ⟨0x0018, 4, 1, 0x0000, 0x0000, 0x0000, 0x0000⟩ /- CFG_GEN -/,
  ⟨0x001C, 4, 1, 0x0000, 0x0000, 0x0000, 0x0000⟩ /- CFG_ACTIVE_ID_LO -/,
  ⟨0x0020, 4, 1, 0x0000, 0x0000, 0x0000, 0x0000⟩ /- CFG_ACTIVE_ID_HI -/,
  ⟨0x0024, 4, 1, 0x0000, 0x0000, 0x0000, 0x0000⟩ /- CFG_ACTIVE_VER -/,
  ⟨0x0028, 4, 1, 0x0000, 0x0000, 0x0000, 0x0000⟩ /- CFG_LOADED_REGIONS -/,
  ⟨0x002C, 4, 1, 0x0000, 0x0000, 0x0000, 0x0001⟩ /- CFG_KEYSTAT -/,
  ⟨0x0030, 4, 1, 0x0000, 0x0000, 0x0000, 0x0000⟩ /- CFG_WEAR -/,
  ⟨0x0040, 16, 3, 0x0000, 0x0000, 0x0000, 0x0000⟩ /- CFG_SLOT_STATUS -/,
  ⟨0x0044, 16, 3, 0x0000, 0x0000, 0x0000, 0x0000⟩ /- CFG_SLOT_ID_LO -/,
  ⟨0x0048, 16, 3, 0x0000, 0x0000, 0x0000, 0x0000⟩ /- CFG_SLOT_ID_HI -/,
  ⟨0x004C, 16, 3, 0x0000, 0x0000, 0x0000, 0x0000⟩ /- CFG_SLOT_VER -/,
  ⟨0x0100, 16, 16, 0x0001, 0x0000, 0x0000, 0x0000⟩ /- CFG_G_SHADOW -/,
  ⟨0x0104, 16, 16, 0x0000, 0x0000, 0x0000, 0x0000⟩ /- CFG_G_GEN -/,
  ⟨0x0108, 16, 16, 0x0000, 0x0000, 0x0000, 0x0000⟩ /- CFG_G_HOTS_LO -/,
  ⟨0x010C, 16, 16, 0x0000, 0x0000, 0x0000, 0x0000⟩ /- CFG_G_HOTS_HI -/,
  ⟨0x1000, 8, 4096, 0xFFFF_FFFC, 0x0000, 0x0000, 0x0000⟩ /- CFG_SH_ADDR -/,
  ⟨0x1004, 8, 4096, 0xFFFF_FFFF, 0x0000, 0x0000, 0x0000⟩ /- CFG_SH_DATA -/]

/-- Descriptors of block PWR. -/
def rowsPwr0 : List RegRow := [
  ⟨0x0000, 4, 1, 0x003F, 0x0000, 0x0000, 0x003F⟩ /- PWR_DOM_CTL -/,
  ⟨0x0004, 4, 1, 0x0000, 0x0000, 0x0000, 0x0000⟩ /- PWR_DOM_STAT -/,
  ⟨0x0008, 4, 1, 0x0000, 0x007F, 0x0000, 0x0000⟩ /- PWR_FLAGS -/,
  ⟨0x000C, 4, 1, 0x0000, 0x0000, 0x0000, 0x0000⟩ /- PWR_VDDC -/,
  ⟨0x0010, 4, 1, 0x0000, 0x0000, 0x0000, 0x0000⟩ /- PWR_AVS_STAT -/,
  ⟨0x0014, 4, 1, 0x0000, 0x0000, 0x0000, 0x0000⟩ /- PWR_PARKCNT -/,
  ⟨0x0018, 4, 1, 0x0000, 0x0000, 0x0000, 0x0000⟩ /- PWR_LOSTCNT -/,
  ⟨0x001C, 4, 1, 0x0000, 0x0000, 0x0000, 0x0000⟩ /- PWR_CNTCLR -/,
  ⟨0x0020, 4, 1, 0x0000, 0x0000, 0x0000, 0x03FF⟩ /- PWR_RAIL_STAT -/,
  ⟨0x0024, 4, 1, 0x0000, 0x0000, 0x0000, 0x0000⟩ /- PWR_STANDBY_US -/]

/-- Descriptors of block MON. -/
def rowsMon0 : List RegRow := [
  ⟨0x0000, 4, 1, 0xFF01, 0x0000, 0x0000, 0x1801⟩ /- MON_CTL -/,
  ⟨0x0004, 4, 1, 0x0000, 0x01FF, 0x0000, 0x0000⟩ /- MON_FLAGS -/,
  ⟨0x0008, 4, 1, 0x0000, 0x0000, 0x0000, 0x0000⟩ /- MON_SNAP_CMD -/,
  ⟨0x000C, 4, 1, 0x0000, 0x0000, 0x0000, 0x0000⟩ /- MON_SNAP_STAT -/,
  ⟨0x0010, 4, 1, 0x0000, 0x0000, 0x0000, 0x0000⟩ /- MON_SNAP_SEQ -/,
  ⟨0x0014, 4, 1, 0xFFFF_FFFF, 0x0000, 0x0000, 0x0000⟩ /- MON_SNAP_T_LO -/,
  ⟨0x0018, 4, 1, 0xFFFF_FFFF, 0x0000, 0x0000, 0x0000⟩ /- MON_SNAP_T_HI -/,
  ⟨0x001C, 4, 1, 0x0000, 0x0000, 0x0000, 0x0000⟩ /- MON_CNTCLR -/,
  ⟨0x0020, 4, 1, 0x00FF, 0x0000, 0x0000, 0x0064⟩ /- MON_TEMP_WARN -/,
  ⟨0x0024, 4, 1, 0x0000, 0x0000, 0x0000, 0x0000⟩ /- MON_LOG_HEAD -/,
  ⟨0x0028, 4, 1, 0xFFFF_FFFF, 0x0000, 0x0000, 0x0000⟩ /- MON_LOG_SEL -/,
  ⟨0x002C, 4, 1, 0x0000, 0x0000, 0x0000, 0x0000⟩ /- MON_LOG_STAT -/,
  ⟨0x0030, 4, 1, 0x0000, 0x0000, 0x0000, 0x0000⟩ /- MON_LOG_CMD -/,
  ⟨0x0040, 4, 8, 0x0000, 0x0000, 0x0000, 0x0000⟩ /- MON_LOG_W -/,
  ⟨0x0080, 4, 8, 0x0000, 0x0000, 0x0000, 0x0000⟩ /- MON_TEMP -/,
  ⟨0x1000, 32, 640, 0x6000_07FF, 0x8000_0000, 0x0000, 0x0000⟩ /- MON_CNT_CFG -/,
  ⟨0x1004, 32, 640, 0x0000, 0x0000, 0x0000, 0x0000⟩ /- MON_CNT_LIVE_LO -/,
  ⟨0x1008, 32, 640, 0x0000, 0x0000, 0x0000, 0x0000⟩ /- MON_CNT_LIVE_HI -/,
  ⟨0x100C, 32, 640, 0x0000, 0x0000, 0x0000, 0x0000⟩ /- MON_CNT_SNAP_LO -/,
  ⟨0x1010, 32, 640, 0x0000, 0x0000, 0x0000, 0x0000⟩ /- MON_CNT_SNAP_HI -/,
  ⟨0x1014, 32, 640, 0x0000, 0x0000, 0x0000, 0x0000⟩ /- MON_CNT_SNAP_SEQ -/,
  ⟨0x6000, 16, 144, 0x0000, 0x0000, 0x0000, 0x0000⟩ /- MON_AV_UP_LO -/,
  ⟨0x6004, 16, 144, 0x0000, 0x0000, 0x0000, 0x0000⟩ /- MON_AV_UP_HI -/,
  ⟨0x6008, 16, 144, 0x0000, 0x0000, 0x0000, 0x0000⟩ /- MON_AV_DOWN_LO -/,
  ⟨0x600C, 16, 144, 0x0000, 0x0000, 0x0000, 0x0000⟩ /- MON_AV_DOWN_HI -/]

/-- Descriptors of block TST. -/
def rowsTst0 : List RegRow := [
  ⟨0x0000, 4, 1, 0x0000, 0x0000, 0x0000, 0x0000⟩ /- TST_UNLOCK -/,
  ⟨0x0004, 4, 1, 0x0000, 0x0000, 0x0000, 0x0000⟩ /- TST_STATUS -/,
  ⟨0x0008, 4, 1, 0xC007_00FF, 0x0000, 0x0000, 0x0000⟩ /- TST_HSD -/,
  ⟨0x000C, 4, 1, 0x93FF_0FFF, 0x0000, 0x0000, 0x0000⟩ /- TST_BP -/,
  ⟨0x0010, 4, 1, 0x80FF_00FF, 0x0000, 0x0000, 0x0000⟩ /- TST_MEMLAT -/,
  ⟨0x0014, 4, 1, 0x0703, 0x0000, 0x8000_0000, 0x0000⟩ /- TST_CAPAR -/,
  ⟨0x0018, 4, 1, 0x103_00FF, 0x0000, 0x8000_0000, 0x0000⟩ /- TST_CHNERR -/,
  ⟨0x0020, 4, 8, 0x801F_FFFF, 0x0000, 0x0000, 0x0000⟩ /- TST_SOFS -/]

/-- The blocks of R489. -/
def regBlocks : List RegBlock := [
  ⟨0x0000, 1, 0x1_0000, rowsDev0⟩ /- DEV -/,
  ⟨0x1_0000, 1, 0x1_0000, rowsFab0⟩ /- FAB -/,
  ⟨0x10_0000, 16, 0x1_0000, rowsFch0⟩ /- FCH -/,
  ⟨0x20_0000, 4, 0x4000, rowsFcal0⟩ /- FCAL -/,
  ⟨0x30_0000, 32, 0x8000, rowsDcf0⟩ /- DCF -/,
  ⟨0x40_0000, 32, 0x4000, rowsTru0⟩ /- TRU -/,
  ⟨0x50_0000, 1, 0x1_0000, rowsPol0⟩ /- POL -/,
  ⟨0x58_0000, 16, 0x4000, rowsWac0⟩ /- WAC -/,
  ⟨0x60_0000, 24, 0x2000, rowsPcv0⟩ /- PCV -/,
  ⟨0x70_0000, 16, 0x4000, rowsSto0⟩ /- STO -/,
  ⟨0x78_0000, 16, 0x1000, rowsTpt0⟩ /- TPT -/,
  ⟨0x80_0000, 1, 0x1_0000, rowsCks0⟩ /- CKS -/,
  ⟨0x90_0000, 8, 0x1_0000, rowsMch0⟩ /- MCH -/,
  ⟨0xA0_0000, 1, 0x1_0000, rowsDma0⟩ /- DMA -/,
  ⟨0xA8_0000, 8192, 0x0040, rowsDmaf0⟩ /- DMAF -/,
  ⟨0xB0_0000, 8, 0x1000, rowsCmp0⟩ /- CMP -/,
  ⟨0xC0_0000, 1, 0x1_0000, rowsEvc0⟩ /- EVC -/,
  ⟨0xD0_0000, 1, 0x1_0000, rowsHlk0⟩ /- HLK -/,
  ⟨0xE0_0000, 1, 0x1_0000, rowsChn0⟩ /- CHN -/,
  ⟨0xF0_0000, 1, 0x1_0000, rowsCfg0⟩ /- CFG -/,
  ⟨0x100_0000, 1, 0x1_0000, rowsPwr0⟩ /- PWR -/,
  ⟨0x110_0000, 1, 0x1_0000, rowsMon0⟩ /- MON -/,
  ⟨0x120_0000, 1, 0x1_0000, rowsTst0⟩ /- TST -/]

/-- The block an address lies in; none where R490 answers ADDRESS. -/
def blockOf (a : Nat) : Option RegBlock :=
  regBlocks.find? (fun b => decide (b.base ≤ a) && decide (a < b.base + b.count * b.stride))

/-- The register at an address; none where the address holds no register (R20). -/
def rowOf (a : Nat) : Option RegRow :=
  match blockOf a with
  | none => none
  | some b =>
    let r := (a - b.base) % b.stride
    b.rows.find? (fun w => decide (w.off ≤ r) && decide ((r - w.off) % w.stride = 0) && decide ((r - w.off) / w.stride < w.count))

/-- The word a register holds after the reset that clears its block (R18). -/
def resetWord (a : Nat) : Word :=
  match rowOf a with
  | none => 0#32
  | some w => BitVec.ofNat 32 w.reset

end Sys2Proof.Machine
end

