-- ==== Sys2Proof/Machine/Sparse.lean ====
section
/-! DEFINITION. Sparse tables: a list of (key, value) pairs in ONE canonical form (keys strictly rising, no entry
equal to what an unlisted key reads as), with the look-up and the update that every register file, memory and
per-unit table of the model goes through. -/
namespace Sys2Proof.Machine

/-- What key `k` reads as: the first entry listed for it, else the default of the key. -/
def lookupD {α : Type} (d : Nat → α) : List (Nat × α) → Nat → α
  | [], k => d k
  | (j, v) :: t, k => if j = k then v else lookupD d t k

/-- The table without any entry for `k`. -/
def eraseKey {α : Type} (k : Nat) : List (Nat × α) → List (Nat × α)
  | [] => []
  | (j, v) :: t => if j = k then eraseKey k t else (j, v) :: eraseKey k t

/-- Enter `(k, v)` before the first greater key. -/
def insertKey {α : Type} (k : Nat) (v : α) : List (Nat × α) → List (Nat × α)
  | [] => [(k, v)]
  | (j, u) :: t => if k < j then (k, v) :: (j, u) :: t else (j, u) :: insertKey k v t

/-- Write `v` at `k`, keeping the canonical form. -/
def updateD {α : Type} [DecidableEq α] (d : Nat → α) (m : List (Nat × α)) (k : Nat) (v : α) : List (Nat × α) :=
  if v = d k then eraseKey k m else insertKey k v (eraseKey k m)

/-- Every key of the list is above `k`. -/
def keysAbove {α : Type} (k : Nat) (m : List (Nat × α)) : Bool := m.all (fun p => decide (k < p.1))

/-- Keys strictly rising. -/
def keysRising {α : Type} : List (Nat × α) → Bool
  | [] => true
  | (j, _) :: t => keysAbove j t && keysRising t

/-- The canonical form: keys strictly rising, no entry equal to its key's default. -/
def sparseWf {α : Type} [DecidableEq α] (d : Nat → α) (m : List (Nat × α)) : Bool :=
  keysRising m && m.all (fun p => decide (p.2 ≠ d p.1))

/-- The value of key `k`, where the table has one. -/
def lookup? {α : Type} (m : List (Nat × α)) (k : Nat) : Option α := (m.find? (fun p => p.1 == k)).map (fun p => p.2)

/-- The table with `v` at `k`, or without an entry for `k`. -/
def setKey {α : Type} (m : List (Nat × α)) (k : Nat) : Option α → List (Nat × α)
  | none => eraseKey k m
  | some v => insertKey k v (eraseKey k m)

/-- `v` becomes the latest of the earlier values of key `k`. -/
def pushPast {α : Type} (v : Option α) (k : Nat) (m : List (Nat × List (Option α))) : List (Nat × List (Option α)) :=
  insertKey k (v :: lookupD (fun _ => []) m k) (eraseKey k m)

/-- The latest value that is left, and those before it, once `n` more of the latest are ignored; none is left: absent. -/
def dropLatest {α : Type} : Nat → Option α → List (Option α) → Option α × List (Option α)
  | 0, v, past => (v, past)
  | _ + 1, _, [] => (none, [])
  | n + 1, _, v :: past => dropLatest n v past

end Sys2Proof.Machine
end

