-- ==== Sys2Proof/Machine/State.lean ====
section
/-! DEFINITION. The state of the block as plain data: the registers (one sparse file over the register map), acquisition
memory, the state the spec names or implies behind the registers (per family), and the queue of waiting commands. -/
namespace Sys2Proof.Machine

/-- A set pulse or a line's change on its way from a flag to the event controller (14_event_controller.md R348, R353). -/
structure LineEvt where
  src  : Nat
  rise : Bool
  deriving DecidableEq, Repr

/-- A claim of the present control cycle (14_event_controller.md R354): its target, the source that it took, none where it returned 0,
and CLAIM_TS before it. -/
structure ClaimRec where
  target : Nat
  src    : Option Nat
  tsOld  : Nat
  deriving DecidableEq, Repr

/-- What hardware did to flags and counts in the present control cycle (00_scope.md R22, R23, R516): the real time at which the
cycle began, the flags set (register and bit), and the increments of counts (register and amount). -/
structure CycHid where
  rt     : Nat := 0
  sets   : List (Nat × Nat) := []
  counts : List (Nat × Nat) := []
  /-- Sources and targets that became pending, and whose pending state a line's fall ended (14_event_controller.md R354); sources with
  a set pulse (R365). -/
  pends  : List (Nat × Nat) := []
  falls  : List (Nat × Nat) := []
  pulses : List Nat := []
  /-- Shadow registers that a write of this cycle has changed, at their words of the cycle's start (17_configuration_images.md R442). -/
  was    : List (Nat × Word) := []
  /-- Claims of this cycle, latest first (14_event_controller.md R354). -/
  claims : List ClaimRec := []
  deriving DecidableEq, Repr

/-- The margin planner behind the FAB registers (02_handshake_fabric.md R54 to R66). -/
structure FabHid where
  /-- Sentinels with a run of implausible windows, and its length (R56). -/
  implRun : List (Nat × Nat) := []
  /-- Consecutive planner actions at or above DOWN (R60). -/
  downRun : Nat := 0
  /-- The tick at which the latest window ended, or measuring began, and whether the planner has acted at it (R54, R60). -/
  lastEnd : Option Nat := some 0
  acted : Bool := false
  /-- A VDDC step or its settling has lain in the present window (R55). -/
  staleMark : Bool := false
  /-- The tick at which the present SETTLING began (R55), and the windows that still read STALE after a return from STANDBY (R65). -/
  settleFrom : Nat := 0
  staleWins : Nat := 0
  /-- The tick at which SETTLING ends (R60, R62). -/
  settleAt : Nat := 0
  /-- An AVSBus write has been sent and is not yet answered (R60, R62). -/
  inFlight : Bool := false
  /-- Retries made of the present AVSBus write (R62). -/
  tries : Nat := 0
  /-- A retry is owed at tick `retryAt` (R62). -/
  retryDue : Bool := false
  retryAt : Nat := 0
  /-- The last acknowledged target, mV (R62). -/
  lastAck : Nat := 800
  /-- The mV of the latest AVSBus VOUT write sent (R60). -/
  avsSent : Nat := 800
  /-- A move into new limits waits for the settling to end (R61). -/
  limitMove : Bool := false
  /-- Whether each condition of R66 held when last judged. -/
  condLow : Bool := false
  condExhausted : Bool := false
  condHeadroom : Bool := false
  condBelow : Bool := false
  /-- Plans of the regions as the active configuration states them, and those of regions raised for a load (R51, R63). -/
  imagePlan : List (Nat × Nat) := []
  loadPlan : List (Nat × Nat) := []
  deriving DecidableEq, Repr

/-- A word of a stream on its way to one consumer (02_handshake_fabric.md R45 to R47): the word, its name in 1/256 tick
(the nominal instant of R72, or the name of R123 and R128), the capture lane it lies on, and, for a resampled stream, the
accumulator of its output (05_filter_chains.md R127) and whether it is the first output after a synchronising reset. -/
structure QWord where
  w    : FWord
  name : Int
  lane : Nat := 0
  acc  : Nat := 0
  rst  : Bool := false
  deriving DecidableEq, Repr

/-- What stands in the queue of a consumer of a stream: a word, or the end of the source stream. -/
inductive QItem where
  | word (q : QWord)
  | endStream
  deriving DecidableEq, Repr

/-- A fast input port behind its FCH registers (03_fast_inputs.md, 04_interleave_calibration.md R98). -/
structure FchHid where
  /-- A disable is accepted: the stream ends at frame boundary `stopAt` (R89). -/
  stopping : Bool := false
  stopAt : Nat := 0
  /-- The latest frames that counted as down in the port's availability account (19_monitoring_and_test.md R483). -/
  badFrames : List Nat := []
  /-- The tick at which the next frame to hand over begins (R72). -/
  nextFrame : Nat := 0
  /-- Lanes whose next word carries GAP (R29). -/
  gapLanes : List Nat := []
  /-- A calibration step withholds the frames that begin at or after `holdFrom` and before `holdTo` (R98, R107). -/
  hold : Bool := false
  holdFrom : Nat := 0
  holdTo : Option Nat := none
  /-- The first word of the next frame delivered carries GAP (R98, R107). -/
  gapFirst : Bool := false
  /-- The pattern code in force for the present frame (R92 FCH_PATTERN). -/
  pattern : Nat := 0
  /-- After a hand-over of FCH_TS_ADJ: the boundary, in 1/256 tick, and the adjustment that words named before it keep
  (17_configuration_images.md R440). -/
  adjFrom : Option Int := none
  adjOld  : Int := 0
  deriving DecidableEq, Repr

/-- A running calibration step (R94, R100): `phase` as FCAL_STATUS.PHASE. -/
structure CalStep where
  port    : Nat
  slice   : Nat
  guarded : Bool
  spare   : Nat
  start   : Nat
  phase   : Nat
  /-- The frame boundary at which RETURN ends (R100, R107). -/
  endAt   : Nat := 0
  /-- The slice is done with: the port moves on at the end (R96). -/
  moveOn  : Bool := false
  /-- The judgement agreed (R95). -/
  agreed  : Bool := false
  /-- ABORT has ended the step (R107). -/
  aborted : Bool := false
  deriving DecidableEq, Repr

/-- The calibration engine of a tile (R99 to R104). -/
structure CalTile where
  run : Option CalStep := none
  nextSpare : Nat := 0
  /-- Consecutive SHADOW_IN failures of each spare (R101). -/
  spareFails : List (Nat × Nat) := []
  /-- The spares hold their factory trims (R108). -/
  sparesLoaded : Bool := false
  deriving DecidableEq, Repr

/-- The calibration state of a port (R103 to R109). -/
structure CalPort where
  /-- A scheduled step waits (R104); since when it is held under DEFER (R105); and that it may run. -/
  sched : Bool := false
  heldSince : Option Nat := none
  released : Bool := false
  /-- A waiting command: 0 none, 1 STEP, 2 FULL (R106). -/
  cmd : Nat := 0
  /-- Slices left of a running FULL (R106). -/
  fullLeft : Nat := 0
  /-- Errors each slice's latest agreeing step measured, in 1/512 trim step (the sum of its two measurements), and the slices that have agreed since the
  port entered RUNNING (R109). -/
  errs : List (Nat × Quad) := []
  agreed : List Nat := []
  /-- RESTORE_FACTORY loads the slices at the next frame boundary (R106). -/
  restore : Bool := false
  /-- The latest due instant that STEP_DUE has taken (R103). -/
  lastDue : Option Nat := none
  deriving DecidableEq, Repr

/-- A word in a filter history: its position in input periods, value, tags (05_filter_chains.md R122, R128). -/
structure HWord where
  p    : Int
  v    : Int
  tags : Nat
  deriving DecidableEq, Repr

/-- A filter chain behind its DCF registers (05_filter_chains.md R119 to R138). -/
structure DcfHid where
  /-- The integrator of R119, and the estimate *d* in units of 2^−29. -/
  sdc : Nat := 0
  d : Int := 0
  /-- The block in progress: first instant in ticks, S_DC at its start, and whether it may update *d* (R119, R120). -/
  blk : Option Int := none
  blkS : Nat := 0
  blkOk : Bool := false
  /-- A finished block whose end is not yet processed: its sum, and whether it may update *d*. -/
  blkDone : Option (Int × Bool) := none
  /-- The histories of the half-band stages and of the resampler (R122, R128). -/
  hist : List (Nat × List HWord) := []
  rhist : List HWord := []
  /-- The resampler's accumulator, u32.31, in units of 2^−31, and its anchor in ticks, which moves on by 2^32 input periods where the
  accumulator wraps (R127). -/
  acc : Nat := 0
  anchor : Int := 0
  /-- The instant of the latest synchronising reset in ticks, and that no output has left since (R133, R136). -/
  resetAt : Int := 0
  first : Bool := false
  /-- A reset is owed to the next word: SYNC, or the group's entry to ARMING (R132). -/
  sync : Bool := false
  armed : Bool := false
  /-- The instant of a pending SYNC_AT, and that a reset is owed to the next word for one that was late (R137). -/
  syncAt : Option Nat := none
  late : Bool := false
  /-- The name of the last input word taken, in ticks, counted on where the tick count wraps (R10). -/
  lastIn : Option Int := none
  deriving DecidableEq, Repr

/-- A stored stream of the active image (07_polders_and_accumulation.md R168; 17_configuration_images.md STREAMS section). -/
structure StreamDef where
  group  : Nat
  stream : Nat
  src    : Nat
  mode   : Nat
  log2D  : Nat
  log2W  : Nat
  format : Nat
  /-- Area offset in the slot and capacity in words, fixed at activation (R172, R173). -/
  off : Nat := 0
  cap : Nat := 0
  deriving DecidableEq, Repr

/-- A trigger (06_triggers.md R159, R161; 07_polders_and_accumulation.md R185): timestamp in 1/256 tick, unit (255 automatic),
marks, and the originating timestamp of a chain trigger. -/
structure Trig where
  ts     : Int
  unit   : Nat
  ovr    : Bool := false
  chain  : Bool := false
  forced : Bool := false
  auto   : Bool := false
  origin : Nat := 0
  deriving DecidableEq, Repr

/-- A source word that a decimator holds (07_polders_and_accumulation.md R169): name in 1/256 tick, code, tags, accumulator,
first after a synchronising reset. -/
structure DecWord where
  name : Int
  v    : Int
  tags : Nat
  acc  : Nat
  rst  : Bool
  deriving DecidableEq, Repr

/-- The decimator of a stored stream (R169, R170): words held, latest first; words of the present interval; words since the
latest restart; the next stored word carries GAP (R188); the name of the latest output; a reset to be marked (R184). -/
structure DecHid where
  win   : List DecWord := []
  cnt   : Nat := 0
  since : Nat := 0
  gapOwed : Bool := false
  lastOut : Option Int := none
  /-- A synchronising reset that no stored word has marked yet (R184): 0 none, 1 one that loses no position, 2 another. -/
  rstOwed : Nat := 0
  deriving DecidableEq, Repr

/-- What the polder manager keeps of a stored word (R174, R184): position in the ring, not wrapped, name, tags, positions
lost before it, first after a synchronising reset, accumulator, code, second of an ENVELOPE pair, words discarded before the
ring's first stored word. -/
structure SWord where
  pos  : Nat
  name : Int
  tags : Nat
  lost : Nat
  rst  : Bool
  acc  : Nat
  v    : Int := 0
  second : Bool := false
  pre  : Nat := 0
  deriving DecidableEq, Repr

/-- One stream's ring in a slot: its definition, name step in 2^−31 tick, *T*_r, resampler switch and phase, its stored words,
latest first, the bytes of the line being packed, and the names of the words discarded since the latest stored one (R173, R174,
R188). -/
structure RingStream where
  k    : Nat
  d    : StreamDef
  step : Nat
  tr   : Nat
  rs   : Bool
  phase : Nat
  words : List SWord := []
  buf  : List (Nat × Byte) := []
  tail : List Int := []
  deriving DecidableEq, Repr

/-- A slot's ring and the polder in it (R175 to R185). Instants in 1/256 tick. -/
structure PolRing where
  slot   : Nat
  base   : Nat
  acq    : Nat
  openTs : Int
  strs   : List RingStream
  opened : Bool := false
  seq    : Nat := 0
  gen    : Nat := 0
  epoch  : Nat := 0
  devAddr : Nat := 0
  prim   : Trig := ⟨0, 0, false, false, false, false, 0⟩
  secs   : List Trig := []
  secOvf : Bool := false
  preT   : Nat := 0
  postT  : Nat := 0
  preActual : Nat := 0
  shortPre  : Bool := false
  b      : Int := 0
  /-- Closed logically: status and truncation or boundary instant. -/
  close  : Option (Nat × Int) := none
  /-- Its data and header have been issued to memory (R181). -/
  written : Bool := false
  /-- Words named at or after its boundary that wait to learn whether the next slot, whose dike is SEALED, is released before the logical
  close (R177): stream, word, second of a pair; oldest first. -/
  held : List (Nat × DecWord × Bool) := []
  /-- The dike of its opening still waits for room in the spillway; the sealing dike has been issued (R181, R188). -/
  dikeOwed : Bool := false
  sealing : Bool := false
  deriving DecidableEq, Repr

/-- A capture of a waveform accumulator (R189, R190): *t*_p, the name from which it takes words, and the words taken, latest
first. -/
structure WacCap where
  tp    : Int
  start : Int
  words : List QWord := []
  deriving DecidableEq, Repr

/-- A waveform accumulator behind its WAC registers (R189 to R195): the capture in progress, a finished capture that is not
merged, sums (or minima) and maxima by position, first and last merged *t*_p. -/
structure WacHid where
  cap    : Option WacCap := none
  merge  : Option WacCap := none
  sums   : List Int := []
  maxs   : List Int := []
  first  : Int := 0
  last   : Int := 0
  /-- A write has met a channel fault, which the group has still to take; the sums in DRAM are undefined (R195). -/
  hurt   : Bool := false
  gone   : Bool := false
  /-- After a hand-over of WAC_OFFSET: the boundary, and the word for triggers timestamped before it (17_configuration_images.md R440). -/
  offCut : Option (Int × Word) := none
  deriving DecidableEq, Repr

/-- An entry run of a precision converter (08_precision_inputs.md R205 to R207): entry index, its word, the edge at which it
begins, its results (none: without end), the results delivered, cause of its marker, urgent, INV results to come, open wire
seen. -/
structure PcvRun where
  entry : Nat
  word  : Word
  start : Nat
  count : Option Nat
  cause : Nat
  urg   : Bool := false
  done  : Nat := 0
  inv   : Nat := 0
  owd   : Bool := false
  ovl   : Bool := false
  deriving DecidableEq, Repr

/-- A precision converter behind its PCV registers (08_precision_inputs.md R198 to R227). -/
structure PcvHid where
  run : Option PcvRun := none
  /-- What follows a running urgent entry: entry, results left, cause (R212). -/
  resume : Option (Nat × Option Nat × Nat) := none
  /-- Modulator edges at which requested starts, and the urgent request, take effect (R209, R212). -/
  starts : List Nat := []
  urgent : Option Nat := none
  /-- The edge index after which timer due instants count (R210). -/
  timerFrom : Nat := 0
  /-- The modulator edge at which the converter ends, with the STATE it then reads; whether a FREE pass begins there (R208, R214,
  R226). -/
  ending : Option (Nat × Nat) := none
  again  : Bool := false
  /-- Onset of the latest overload (R218). -/
  onset : Option Nat := none
  /-- Writing has stopped at a full ring or stream; a RESYNC marker is owed (R225, R316). -/
  stopped : Bool := false
  resync  : Bool := false
  /-- Units written since enable, and units of USER mode that the flow has not taken, 6 bytes each (R224, R316). -/
  total  : Nat := 0
  stream : List (List Byte) := []
  /-- The factory trim set failed its check at stage FACTORY (R220). -/
  trimBad : Bool := false
  deriving DecidableEq, Repr

/-- What an activation fixed (17_configuration_images.md R434 to R436): planned rates of flows in MB/s, and the planned memory
traffic of everything but the polder writers, in 2^−32 B/s. -/
structure CfgHid where
  flowPlan  : List (Nat × Nat) := []
  planOther : Nat := 0
  /-- A SLOT_WRITE in progress: slot and image (R439). -/
  writing : Option (Nat × List Byte) := none
  /-- LEVEL values of EVENTS entries that wait for their source (R431). -/
  levels : List (Nat × Nat) := []
  /-- The lanes in force: lane, rate, source and destination region (R431 LANES, R437). -/
  lanes : List (Nat × Nat × Nat × Nat) := []
  /-- The real time of the latest cycle in which the shadow unit took a request (R442; 00_scope.md R516). -/
  handAt : Option Nat := none
  /-- A region load whose hand-over waits for VDDC (02_handshake_fabric.md R63): its PARAM, the slot and identifier of its session, and
  the real time of its start. -/
  loading : Option (Nat × Nat × Nat × Nat) := none
  deriving DecidableEq, Repr

/-- An entry of the error log (19_monitoring_and_test.md R482). -/
structure LogEntry where
  ts     : Nat
  epoch  : Nat
  seq    : Nat
  code   : Nat
  source : Nat
  info   : Nat
  data   : Nat
  deriving DecidableEq, Repr

/-- The sample synthesiser behind the CKS registers (10_clock_synthesis.md R260 to R271). -/
structure ClkHid where
  /-- *D* of a loss or commanded relock whose freeze has not begun, and whether words from *D* on carry FLT (R265, R269). -/
  lossD : Option Nat := none
  lossFlt : Bool := false
  /-- Real time of the declaration or acceptance, of the freeze and of lock (R262, R264, R267). -/
  lossRt : Nat := 0
  freezeRt : Nat := 0
  lockRt : Nat := 0
  /-- RELOCK_TIMEOUT has been raised for the present relock (R262). -/
  timedOut : Bool := false
  /-- A first release since the CKS block was reset (R271, R275). -/
  released : Bool := false
  /-- The move to the chain reference of R271 is made or has been replaced. -/
  chainMoved : Bool := false
  /-- Real time of that first release (16_eweone_chain.md R408). -/
  relRt : Nat := 0
  /-- Channels that MREF_RETURN has still to take back, the present one first (R273). -/
  mrefQ : List Nat := []
  /-- Real time from which a run of good reference cycles can count (R262). -/
  runRt : Nat := 0
  /-- The frequency of R254 at which REFCLK is known to lie, by its REFSEL code (R261), and the one that the host-link PLL took at
  stage CLOCKS (R271). -/
  refNow : Option Nat := none
  hlRef : Nat := 3
  /-- The real time at which a step of the counter releases the outputs that it holds (16_eweone_chain.md R412). -/
  stepHold : Option Nat := none
  /-- The memory rate that boot loaded from the settings store; 0 for none (17_configuration_images.md R444). -/
  rate : Nat := 0
  deriving DecidableEq, Repr

/-- An MDLL behind its CKS registers (10_clock_synthesis.md R272): real time at which its present state began and from which
the budget counts; whether the budget has run out. -/
structure MdllHid where
  since : Nat := 0
  budget : Nat := 0
  /-- The return goes to MREF whatever MREF code the channel has (R273). -/
  toMref : Bool := false
  /-- The present relock goes to the HKO. -/
  hko : Bool := false
  /-- The relock belongs to an initialisation or a change of multiplier, not to a loss. -/
  plain : Bool := false
  deriving DecidableEq, Repr

/-- A write request: its address and bytes (11_acquisition_memory.md R289, R300). -/
structure WrReq where
  addr : Nat
  data : List Byte
  /-- The group whose dike it writes (07_polders_and_accumulation.md R187). -/
  dike : Option Nat := none
  /-- The group whose polder manager issues it (R296). -/
  group : Option Nat := none
  /-- Its place in the order of issue (R289). -/
  seq  : Nat := 0
  deriving DecidableEq, Repr

/-- A read held for matching writes (11_acquisition_memory.md R289). -/
structure RdReq where
  addr : Nat
  len  : Nat
  deriving DecidableEq, Repr

/-- Acquisition memory: the bytes that differ from what an unlisted address reads as, the poisoned 64-byte lines
(11_acquisition_memory.md R291, R292), and, per channel, which undefined contents it holds: 0 for contents that are zero,
another number for one initialisation's undefined contents (R283, R300). -/
structure MemHid where
  cells  : List Host.Cell := []
  poison : List Nat := []
  fill   : List (Nat × Nat) := []
  fills  : Nat := 0
  /-- The spillway, oldest write first (07_polders_and_accumulation.md R188). -/
  spill  : List WrReq := []
  /-- Writes that have been put into a queue or the spillway so far (R289). -/
  issued : Nat := 0
  deriving DecidableEq, Repr

/-- A memory channel behind its MCH registers (11_acquisition_memory.md R276 to R302). -/
structure MchHid where
  /-- Writes and reads that wait in the channel's queues (R289). -/
  wq : List WrReq := []
  rq : List RdReq := []
  /-- Activation counts of row neighbourhoods in the present refresh window, by bank and row code (R295). -/
  rows : List (Nat × Nat) := []
  /-- Throttled requesters, and the activations each has made in the present µs (R296). -/
  throttled : List (Nat × Nat) := []
  throttleUs : Nat := 0
  /-- Why the channel is in self-refresh: 0 it is not, 1 idle, 2 SR_ENTER, 3 STANDBY, 4 holdover (R297). -/
  srCause : Nat := 0
  /-- A self-refresh entry is decided and SRE not yet issued, with its cause (R298). -/
  srEntry : Nat := 0
  /-- The time of SRE in real time (R299). -/
  srSince : Nat := 0
  /-- Real time of the latest request (R297). -/
  lastReq : Nat := 0
  /-- Replays made of the present alert episode (R294). -/
  replays : Nat := 0
  /-- The channel has reached READY since its latest initialisation began (R282). -/
  wasReady : Bool := false
  /-- The next line of the patrol scrub, as a channel byte offset (R293). -/
  scrubAt : Nat := 0
  /-- DIMM size in GiB, rank organisation and highest rated multiplier as the SPD reads gave them (R277, R279). -/
  dimmGib : Nat := 0
  ranks : Nat := 0
  rated : Nat := 0
  /-- Refresh runs at twice its rate (R301). -/
  hot : Bool := false
  /-- SPD reads are done in the present initialisation, with their verdict of R276, and the MAXMULT it loaded (R258, R277). -/
  spdDone : Bool := false
  fits : Bool := false
  maxLoaded : Nat := 80
  /-- The channel has left phase 6 in its latest initialisation (R282). -/
  left6 : Bool := false
  /-- Real time of the latest scrub read and temperature read (R293, R301). -/
  lastScrub : Nat := 0
  lastTemp : Nat := 0
  deriving DecidableEq, Repr

/-- What the latest MEMORY_ACCESS or other read returned: address, bytes, poison mark. -/
structure ReadOut where
  addr     : Nat := 0
  data     : List Byte := []
  poisoned : Bool := false
  deriving DecidableEq, Repr

/-- A placed play of a stimulus output (09_stimulus_and_timing_ports.md R229 to R239): its instant and cause. -/
structure Play where
  place : Nat
  cause : Nat
  deriving DecidableEq, Repr

/-- A stimulus output behind its STO registers (09_stimulus_and_timing_ports.md R229 to R243). -/
structure StoHid where
  /-- Words in the prime buffer, as s1.17 codes, from waveform index `base` on; the number delivered so far. -/
  prime : List Int := []
  base  : Nat := 0
  got   : Nat := 0
  /-- The flow has ended (R239, R242). -/
  flowEnd : Bool := false
  /-- The play at the output, and accepted plays whose instant has not come. -/
  cur  : Option Play := none
  next : List Play := []
  /-- A pending STOP, and the instant at which a STOP took effect on the present play (R241). -/
  stopAt  : Option Nat := none
  stopped : Option Nat := none
  /-- Words replaced by IDLE (R242), and the word held after a play (R239). -/
  missing : List Nat := []
  hold : Option Int := none
  /-- The latest play that has ended: the word path goes on with IDLE or the held word (R239). -/
  ended : Option Play := none
  /-- The DAC is forced to code 0 (R236, R243). -/
  forced : Bool := true
  /-- GAIN, OFFSET and IDLE in force (R252). -/
  gain : Int := 0x4000
  ofs  : Int := 0
  idle : Int := 0
  /-- Rounding errors of the last two samples, in 2^−17 (R235), and the code at the DAC (R236). -/
  e1 : Int := 0
  e2 : Int := 0
  dac : Int := 0
  /-- Generator words from index `gbase` on, and its state after the last one: PRBS register, phase, frequency (R237). -/
  gen : List Int := []
  gbase : Nat := 0
  /-- The placement instant of the play that the generator runs for. -/
  genFor : Option Nat := none
  lfsr : Nat := 0x7FFFFFFF
  ph : Nat := 0
  fr : Nat := 0
  /-- The latest frames that counted up and down in the output's availability account (19_monitoring_and_test.md R483), and the tags of
  the sample at the DAC (02_handshake_fabric.md R47). -/
  upFrame : Option Nat := none
  badFrame : Option Nat := none
  tags : Nat := 0
  deriving DecidableEq, Repr

/-- A train of a timing port (09_stimulus_and_timing_ports.md R246, R247): its first active edge, the next pulse, whether a
pulse is active (`held`: carried over from the train before), the settings it runs with, and an instant at which STOP cuts it. -/
structure Train where
  e0     : Nat
  i      : Nat := 0
  active : Bool := false
  held   : Bool := false
  width  : Nat
  period : Nat
  count  : Nat
  cut    : Option Nat := none
  deriving DecidableEq, Repr

/-- An edge in a timing port's FIFO (R250). -/
structure FifoEdge where
  ts    : Nat
  rise  : Bool
  frame : Nat
  deriving DecidableEq, Repr

/-- A timing port behind its TPT registers (09_stimulus_and_timing_ports.md R244 to R251). -/
structure TptHid where
  lastBall : Option Nat := none
  /-- The level that the outside gives the ball (R253 LEVEL). -/
  ball : Bool := false
  fifo : List FifoEdge := []
  trains : List Train := []
  gapBefore : Bool := false
  /-- The instant from which the latest STOP cancels edges (R247). -/
  stopAt : Option Nat := none
  deriving DecidableEq, Repr

/-- A change that a PATTERN or SEQUENCE unit has still to take (06_triggers.md R155 to R157): its instant in 1/256 tick, the
member, what happens: 0 its level falls, 1 its level rises, 2 it has a condition, 3 its coincidence level ends, and the instant to which a
condition's coincidence level lasts. -/
structure MemEvt where
  ts   : Int
  m    : Nat
  kind : Nat
  till : Int := 0
  deriving DecidableEq, Repr

/-- A trigger unit behind its TRU registers (06_triggers.md R143 to R159). -/
structure TruHid where
  /-- The previous word of the stream: name in 1/256 tick, code, OVR (R143, R150). -/
  prev : Option (Int × Int × Bool) := none
  /-- The stream has reached the hysteresis limit that qualifies a rising or falling crossing of A, and of B (R143). -/
  upA : Bool := false
  dnA : Bool := false
  upB : Bool := false
  dnB : Bool := false
  /-- Starts in progress, with their instants and OVR marks: first and second variant of the type (R144). -/
  st0 : Option (Int × Bool) := none
  st1 : Option (Int × Bool) := none
  /-- A usable word has arrived since enable or clearing (R167 STATE). -/
  seen : Bool := false
  level : Bool := false
  /-- The last condition that passed the dead time (R158), and the last one since the detector was cleared, from which a coincidence
  level runs (R150, R155). -/
  lastPass : Option Int := none
  coin : Option Int := none
  /-- The holdoff in force: end of its time rule, conditions left of its count rule (R159). -/
  holdTo : Option Int := none
  holdN  : Nat := 0
  /-- SEQUENCE: the arming instant and the count (R157). PATTERN: the value, the members' states, the ends of their
  coincidence levels (R155, R156). -/
  tA  : Option Int := none
  cnt : Nat := 0
  pat : Bool := false
  seenM : List (Nat × Bool) := []
  ends  : List (Nat × Int) := []
  evts  : List MemEvt := []
  /-- After a hand-over of TRU_FRAME: the boundary, and the word for edges stamped before it (17_configuration_images.md R440). -/
  frameCut : Option (Int × Word) := none
  deriving DecidableEq, Repr

/-- A chain trigger awaiting its release: line, release instant in ticks, origin timestamp in 1/256 tick (R414, R415). -/
structure ChnTrig where
  line    : Nat
  release : Nat
  origin  : Nat
  deriving DecidableEq, Repr

/-- A message cell waiting on a port (16_eweone_chain.md R403, R405): its bytes 1 to 13, and that it is an EVENT cell of this
device's own. -/
structure MsgOut where
  bytes : List Byte
  own   : Bool := false
  deriving DecidableEq, Repr

/-- A cell as sent (16_eweone_chain.md R402): the K character of symbol 0, bytes 1 to 15, and what TST_CHNERR does to it: 0
nothing, 1 a bad CRC, 2 a code violation (19_monitoring_and_test.md R486); and its 16 symbols on the line, before that, each with its
first bit the most significant of ten. -/
structure CellOut where
  k     : Nat := 0
  bytes : List Byte := []
  fault : Nat := 0
  line  : List Nat := []
  deriving DecidableEq, Repr

/-- A chain port (16_eweone_chain.md R403 to R405, R414): trigger cells and the copies of the first that have left; TIME cells
(a request, or a response with its *t*_2 in 1/256 tick); messages; sent and unacknowledged messages, and the next of them to
send again; sequence numbers; the latest CREDIT; rounds of resending; real times of cells found bad; the latest cell sent. -/
structure ChnPort where
  trigQ : List (List Byte) := []
  copies : Nat := 0
  timeQ : List (Option Nat) := []
  msgQ : List MsgOut := []
  unacked : List MsgOut := []
  again : Option Nat := none
  txSeq : Nat := 0
  credit : Nat := 0
  rounds : Nat := 0
  ackSince : Nat := 0
  rxSeq : Nat := 0
  prevTrig : Option (List Byte) := none
  peerAligned : Bool := false
  sinceIdle : Nat := 0
  bad : List Nat := []
  sent : CellOut := {}
  /-- The transmitter's running disparity is positive (R402). -/
  rdPlus : Bool := false
  deriving DecidableEq, Repr

/-- A chain command held for its AT (16_eweone_chain.md R418 to R420): OP, CSEQ, GROUPS, AT, held too late, and on the root the
session and SEQ whose reply it owes. -/
structure ChnCmd where
  op     : Nat
  cseq   : Nat
  groups : Nat
  at_    : Nat
  late   : Bool := false
  reply  : Option (Nat × Nat) := none
  deriving DecidableEq, Repr

/-- An entry of the remote event FIFO (16_eweone_chain.md R417): CLAIM_TS, and CHN_REVT_INFO without VALID. -/
structure Revt where
  ts   : Nat
  info : Nat
  deriving DecidableEq, Repr

/-- A mapping from ticks to PTP time (R422): at tick count `tick` it is `sec` seconds and `ns` nanoseconds, and it advances by
`rate`. -/
structure PtpMap where
  tick : Nat := 0
  sec  : Nat := 0
  ns   : Nat := 0
  rate : Nat := 0
  deriving DecidableEq, Repr

/-- The chain behind the CHN registers (16_eweone_chain.md). -/
structure ChnHid where
  up : ChnPort := {}
  down : ChnPort := {}
  tseq : Nat := 0
  await : List ChnTrig := []
  /-- Real time at which the root starts an enumeration (R409); its step: 0 none runs, 1 the mask is gathered, 2 addresses are
  assigned. -/
  enumAt : Option Nat := none
  enumStep : Nat := 0
  /-- The claim made in the enumeration with generation `claimGen`: address, and whether a group was active (R409). -/
  claimGen : Nat := 0
  claim : Option (Nat × Bool) := none
  /-- Latest CSEQ used, and commands held. -/
  cseq : Nat := 0
  cmds : List ChnCmd := []
  /-- AT of the latest chain command of this root. -/
  cmdAt : Nat := 0
  revt : List Revt := []
  /-- Sources whose EVENT cells the neighbour has accepted and CHF has still to complete (14_event_controller.md R363). -/
  chfDone : List Nat := []
  /-- Time exchange (R411): real time of the latest start, *t*_1 of the exchange in flight, exchanges of the round, sums of
  twice the delay and twice the offset in 1/256 tick. -/
  lastReq : Nat := 0
  t1 : Option Nat := none
  exch : Nat := 0
  sumD : Int := 0
  sumO : Int := 0
  /-- Consecutive rounds with |o| ≤ 32/256 and with |o| > 96/256 tick; the latest *o*; the latest slew in 1/256 tick (R412). -/
  inRounds : Nat := 0
  outRounds : Nat := 0
  off : Int := 0
  slew : Int := 0
  /-- The mapping (R423): MAPSEQ used or gathered, its parts, real time of the latest broadcast, and a change not yet sent. -/
  mapSeq : Nat := 0
  mapParts : List (Nat × List Byte) := []
  mapSent : Nat := 0
  mapDirty : Bool := false
  /-- The mapping in force on the root (R422, R425). -/
  map : PtpMap := {}
  deriving DecidableEq, Repr

/-- An EVENT message not yet acknowledged (15_host_link.md R396): EVSEQ, payload, sends, real time of the latest. -/
structure EvOut where
  evseq : Nat
  data  : List Byte
  sends : Nat
  since : Nat
  deriving DecidableEq, Repr

/-- A session (15_host_link.md R377 to R383): identifier, interface, IPv6, authenticated with session key, event delivery,
window *W*, expected SEQ *E*, real time of the latest valid message, cached replies by SEQ, buffered requests (SEQ, TYPE,
message), whether the request *E* awaits a deferred reply, the next EVSEQ, unacknowledged EVENTs. -/
structure Session where
  id     : Nat
  iface  : Nat
  v6     : Bool
  auth   : Bool
  key    : List Byte
  events : Bool
  w      : Nat
  e      : Nat
  last   : Nat
  cache  : List (Nat × List Byte) := []
  buf    : List (Nat × Nat × Msg) := []
  busy   : Bool := false
  evseq  : Nat := 1
  evs    : List EvOut := []
  deriving DecidableEq, Repr

/-- A frame the host link has sent: interface, and its kind (0 BTP, 1 ARP, 2 neighbour advertisement, 3 echo, 4 DHCPv4, 5 IEEE
1588) with the message's bytes; its UDP source port, where it is a UDP datagram, and whether it is IPv4, which goes with DF set
(R373). It goes untagged at priority 0 (R370). -/
structure FrameOut where
  iface : Nat
  kind  : Nat
  data  : List Byte
  port  : Nat := 0
  df    : Bool := false
  deriving DecidableEq, Repr

/-- An interface (15_host_link.md R372): the address in use with mask and router; the DHCPv4 client: 0 off, 1 asking, 2 bound,
3 failed; real time of its latest request and of the lease, and the lease in seconds; an IEEE 802.3 pause until `pause`. -/
structure HlkIf where
  addr  : Word := 0#32
  mask  : Word := 0#32
  gw    : Word := 0#32
  held  : Bool := false
  dhcp  : Nat := 0
  asked : Nat := 0
  bound : Nat := 0
  lease : Nat := 0
  pause : Nat := 0
  deriving DecidableEq, Repr

/-- The host link behind the HLK registers (15_host_link.md R368 to R400): sessions by slot; boot-loaded registers as in force
since the latest RELINK or boot; interfaces; frames sent since the latest message, event or timer reached the link; RELINK owed
after a reply; a reset owed after a reply (18_power_reset_boot.md R466): 1 SYSTEM, 2 WARM. -/
structure HlkHid where
  sess   : List (Nat × Session) := []
  active : List (Nat × Word) := []
  ifs    : List (Nat × HlkIf) := []
  out    : List FrameOut := []
  /-- Frames that a pause keeps back, oldest first (R370). -/
  held   : List FrameOut := []
  relink : Bool := false
  reset  : Nat := 0
  /-- The timestamp of the latest IEEE 1588 event message (R374). -/
  ptpTs  : Nat := 0
  deriving DecidableEq, Repr

/-- The non-volatile store (17_configuration_images.md R426 to R446) but for the field trims. -/
structure NvHid where
  /-- Registers of the first five items of R444, at their latest saved values; empty: none saved. -/
  saved : List (Nat × Word) := []
  /-- The stored chain address (16_eweone_chain.md R410). -/
  addr : Option Nat := none
  /-- The device key K (15_host_link.md R380), and integrator keys 1 to 3 as X and Y (R433). -/
  key : Option (List Byte) := none
  keys : List (Nat × Nat × Nat) := []
  /-- The sealed images of slots A and B (R439), and the completed writes of each slot. -/
  slots : List (Nat × List Byte) := []
  slotWrites : List (Nat × Nat) := []
  /-- Blocks written to the settings log since manufacture, and field trim sets written for each port (R428, R445, R446). -/
  logBlocks : Nat := 0
  fieldWrites : List (Nat × Nat) := []
  /-- The older copy of each port's field trim set (R428). -/
  fieldOld : List (Nat × List (Nat × Quad)) := []
  /-- Earlier committed records that the log still holds, the latest first: of each saved register, the chain address, the device key and
  each integrator key; none: the record says that the item is absent (R445). -/
  past : List (Nat × List (Option Word)) := []
  pastAddr : List (Option Nat) := []
  pastKey : List (Option (List Byte)) := []
  pastKeys : List (Nat × List (Option (Nat × Nat))) := []
  deriving DecidableEq, Repr

/-- A MOVE that a flow executes (12_dma_flows.md R310, R314, R318): program space and address, spaces (0 MEM, 1 PMEM, 2 STREAM),
addresses, length, the side in PTR mode (0 none, 1 source, 2 destination), its ring (base, size), bytes done, poison seen. -/
structure DmaMove where
  pc   : Nat
  ss   : Nat
  ds   : Nat
  src  : Nat
  dst  : Nat
  len  : Nat
  ptr  : Nat
  ring : Option (Nat × Nat)
  done : Nat := 0
  poisoned : Bool := false
  /-- The first byte of a word on its way to a stimulus output, with its poison mark. -/
  carry : List (BitVec 8 × Bool) := []
  /-- The source as it was when the MOVE began, where a wrapping ring lets the MOVE overwrite it before it is read (R317). -/
  snap : Option (List (BitVec 8 × Bool)) := none
  deriving DecidableEq, Repr

/-- A flow behind its context (12_dma_flows.md R304 to R325; 18_power_reset_boot.md R458 to R461). -/
structure DmaFlow where
  mv : Option DmaMove := none
  /-- A park request waits for the bursts in flight, with the domains that go down and its real time (R325, R459). -/
  park : Option (List Nat × Nat) := none
  /-- The domains a parked flow needs (R461). -/
  needs : List Nat := []
  /-- Program bytes that have been fetched, from an address on (R307). -/
  ahead : Option (Nat × List (BitVec 8)) := none
  deriving DecidableEq, Repr

/-- The DMA engine's arbitration (12_dma_flows.md R318, R326): the bursts in flight, each with its flow and length, in the order of
their issue; the flow whose turn came last in the round; the flows whose next burst can be issued, in the order in which it came to
that; and the token buckets, each with its level in 1/163,840 byte and the real time to which that applies. -/
structure DmaHid where
  flights : List (Nat × Nat × Nat) := []
  turn : Nat := 8191
  ready : List Nat := []
  buckets : List (Nat × Nat × Nat) := []
  deriving DecidableEq, Repr

/-- A compression job in progress (13_compression.md R331, R338, R341): its descriptor, host fields, and the context after the
last committed group; `total` counts all parts. -/
structure CmpRun where
  addr : Nat
  elem : Nat
  opts : Nat
  minRatio : Nat
  nsamp : Nat
  inA  : Nat
  outA : Nat
  outMax : Nat
  inDone : Nat := 0
  outDone : Nat := 0
  total : Nat := 0
  x1 : Int := 0
  x2 : Int := 0
  k : Nat := 0
  crc : Nat := 0xFFFFFFFF
  vgroups : Nat := 0
  /-- An ABORT or FLUSH, accepted at this real time, waits for the group boundary; the trailer is committed. -/
  abort : Option Nat := none
  trailer : Bool := false
  deriving DecidableEq, Repr

/-- A chunk of a compressed block read (13_compression.md R345; 15_host_link.md R390): session, stream, number, address,
samples, format. -/
structure Chunk where
  sess : Nat
  id   : Nat
  idx  : Nat
  addr : Nat
  nsamp : Nat
  elem : Nat
  deriving DecidableEq, Repr

/-- A compression engine behind its CMP registers (13_compression.md R332, R345). -/
structure CmpHid where
  lo    : Nat := 0
  queue : List (Nat × Bool) := []
  run   : Option CmpRun := none
  slot  : Option Chunk := none
  coding : Option Chunk := none
  /-- The latest thing taken was a chunk. -/
  lastChunk : Bool := false
  deriving DecidableEq, Repr

/-- A coded chunk in the host link's buffer: number, bytes, poison. -/
structure CodedChunk where
  idx : Nat
  data : List Byte
  poisoned : Bool
  deriving DecidableEq, Repr

/-- A block read in progress (15_host_link.md R388 to R392), with the SEQ of its request. -/
structure BlkStream where
  sess : Nat
  id   : Nat
  seq  : Nat
  space : Nat
  mode : Nat
  elem : Nat
  frame : Nat
  window : Nat
  addr : Nat
  len  : Nat
  /-- The next new frame, frames below CUM, frames to send again, the LAST frame with its status. -/
  next : Nat := 0
  cum  : Nat := 0
  again : List Nat := []
  last : Option (Nat × Nat) := none
  /-- COMPRESSED: chunk and offset at which each sent frame begins; the next frame's place; chunks handed out; chunks coded. -/
  places : List (Nat × Nat) := []
  chunk : Nat := 0
  ofs  : Nat := 0
  handed : Nat := 0
  coded : List CodedChunk := []
  poisoned : Bool := false
  /-- The stream ends early with this status. -/
  fail : Option Nat := none
  /-- Real time from which HLK_RTO.DATA counts; consecutive timeouts; sends of the LAST frame. -/
  since : Nat := 0
  timeouts : Nat := 0
  lastSends : Nat := 0
  deriving DecidableEq, Repr

/-- The event controller behind the EVC registers (14_event_controller.md R351 to R366). -/
structure EvcHid where
  /-- Tick of the latest set of each source, and the pending tick of source *s* for target *t*, at 4*s* + *t* (R356). -/
  sets : List (Nat × Nat) := []
  pend : List (Nat × Nat) := []
  /-- Running handlers of the MGC, the innermost first: source and priority (R359). -/
  run  : List (Nat × Nat) := []
  /-- A standby command is accepted and the device does not yet read CONFIGURED again; EDGE sources with WAKE and no enabled
  target that pulsed since (R364). -/
  standby : Bool := false
  wakes : List Nat := []
  /-- Real time at which the MGC's latest sleep was accepted (R365). -/
  slept : Option Nat := none
  /-- Sources that have entered the device's wake set since the standby command was accepted, in that order (R366). -/
  woke : List Nat := []
  deriving DecidableEq, Repr

/-- Power control behind the PWR registers (18_power_reset_boot.md R454 to R467). -/
structure PwrHid where
  /-- Real time at which the domain entered its present state. -/
  since : List (Nat × Nat) := []
  /-- STANDBY accepted and not yet entered: real time of acceptance. -/
  entering : Option Nat := none
  /-- The requests whose replies wait for entry to STANDBY, and those that wait for the return: slot, session identifier, tick
  of acceptance. -/
  toEnter : List (Nat × Nat × Nat) := []
  toWake : List (Nat × Nat × Nat) := []
  /-- A wake has begun: its real time, and whether a WAKE command caused it. -/
  waking : Option (Nat × Bool) := none
  /-- Real time since which PWR_VDDC deviates, and whether VDDC_DEV has set for that (R454). -/
  devSince : Option Nat := none
  devTold : Bool := false
  /-- The latest reading of VDDC lies outside 0.630 V to 0.870 V (R454). -/
  vddcOut : Bool := false
  /-- STANDBY has been accepted in the present control cycle, whose events still count for its wake set (14_event_controller.md
  R365); the flows have been asked to park on the way into it (R463). -/
  asked : Bool := false
  parkAsked : Bool := false
  /-- The timeout of a park request has been reached in the present control cycle (R459, R462). -/
  parkEnds : Bool := false
  deriving DecidableEq, Repr

/-- Health records, temperatures and test injections behind the MON and TST registers (19_monitoring_and_test.md R480 to R486):
lowest WORST_MARGIN, lowest reference margin and highest temperature of the present interval; real time from which the interval
counts; a reading has been made; sensors whose TEMP_HIGH waits for a fall; real time of the latest update; real time of the
latest right unlock word; a pending parity injection (channel, inverted replays left); a pending line error (port, kind, cells
left). -/
structure MonHid where
  /-- The instant *T* of the armed snapshot (R476). -/
  snapT : Nat := 0
  /-- Real time of the end of BOOT, from which HEALTH records are counted (R481). -/
  healthFrom : Nat := 0
  lowMargin : Option Nat := none
  lowRef : Option Int := none
  highTemp : Option Int := none
  healthAt : Option Nat := none
  tempSeen : Bool := false
  hot : List Nat := []
  lastTemp : Nat := 0
  unlockAt : Nat := 0
  capar : Option (Nat × Nat) := none
  chnerr : Option (Nat × Nat × Nat) := none
  deriving DecidableEq, Repr

/-- Reset and boot (18_power_reset_boot.md R466 to R469): real time of the latest release of reset; the boot follows a WARM reset;
a WARM reset waits for seals since; stage IMAGE has ended. -/
structure BootHid where
  since : Nat := 0
  warm : Bool := false
  warmWait : Option Nat := none
  /-- Its flows have been asked to park (R467). -/
  warmPark : Bool := false
  imageDone : Bool := false
  /-- The device state that BOOT ends in (01_architecture.md R33). -/
  into : Nat := 1
  /-- The device is held in reset for want of power (R450). -/
  held : Bool := false
  deriving DecidableEq, Repr

/-- The test access port (21_electrical_and_package.md R510, R511): its instruction, 0x02 (IDCODE) after its reset, and what the
data register that it selected captured, where the spec gives that register's content. -/
structure TapHid where
  ir : Nat := 2
  dr : Option Word := some 0x19144B47#32
  deriving DecidableEq, Repr

/-- Why a step ends in a fault. -/
inductive Fault where
  /-- An acquisition address that has no memory behind it. No command raises it: the interface that asks refuses such a
  request (11_acquisition_memory.md R285), so the request does nothing. Safe. -/
  | noSuchAddress
  deriving DecidableEq, Repr

/-- Why a step is refused. -/
inductive Refusal where
  /-- An arm of exec that has no meaning yet. Safe: the model stops. -/
  | notModelled (mnemonic : String)
  deriving DecidableEq, Repr

/-- The whole state of the device. -/
structure State where
  /-- Commands waiting, first in, first out. -/
  pending : List Instr := []
  /-- The tick counter (00_scope.md R9, R10), modulo 2^64. -/
  tick : Nat := 0
  /-- Real time in nominal ticks, which runs on while the tick counter is frozen (10_clock_synthesis.md R256, R265). -/
  rt : Nat := 0
  /-- Uses made of free values so far (the MODEL's own field). -/
  free : Nat := 0
  /-- The registers that differ from their reset words. -/
  regs : List (Nat × Word) := []
  /-- Flags and counts that hardware has moved in the present control cycle. -/
  cyc : CycHid := {}
  /-- Set pulses and line changes on their way to the event controller (14_event_controller.md R348, R353). -/
  lines : List LineEvt := []
  /-- The margin planner. -/
  fab : FabHid := {}
  /-- What waits for each consumer of a stream: DCF n at n, TRU n at 32 + n, WAC n at 64 + n, stored stream k at 128 + k. -/
  queues : List (Nat × List QItem) := []
  /-- The latest frame boundary that FRAME_BOUNDARY has passed. -/
  lastFrame : Nat := 0
  fchs : List (Nat × FchHid) := []
  calTiles : List (Nat × CalTile) := []
  calPorts : List (Nat × CalPort) := []
  /-- The port's field trim set in the calibration store, slice by slice; empty: none has been written (R108). It is
  non-volatile. -/
  fieldTrims : List (Nat × List (Nat × Quad)) := []
  dcfs : List (Nat × DcfHid) := []
  /-- The stored streams of the active image, in its order. -/
  streams : List StreamDef := []
  evc : EvcHid := {}
  pwr : PwrHid := {}
  /-- The error log, oldest entry first, at most 1,024 entries, and whether it has overwritten one since it was cleared. -/
  log : List LogEntry := []
  logWrapped : Bool := false
  clk : ClkHid := {}
  mem : MemHid := {}
  mchs : List (Nat × MchHid) := []
  mdlls : List (Nat × MdllHid) := []
  nv : NvHid := {}
  flows : List (Nat × DmaFlow) := []
  dma : DmaHid := {}
  cmps : List (Nat × CmpHid) := []
  /-- The engine that took the latest chunk (13_compression.md R345). -/
  cmpTurn : Nat := 7
  /-- Block reads in progress, in order of acceptance. -/
  blks : List BlkStream := []
  /-- Program memory: the bytes that are not 0 (12_dma_flows.md R306). -/
  pmem : List Host.Cell := []
  /-- Stream endpoints whose unit was disabled since a MOVE on them began (12_dma_flows.md R316). -/
  closedEnds : List Nat := []
  stos : List (Nat × StoHid) := []
  tpts : List (Nat × TptHid) := []
  trus : List (Nat × TruHid) := []
  /-- Triggers delivered to each group and not yet taken, in the order they will be taken (06_triggers.md R162). -/
  trigQ : List (Nat × List Trig) := []
  chn : ChnHid := {}
  /-- Decimators of the stored streams, by their index in `streams`. -/
  decs : List (Nat × DecHid) := []
  /-- The slots' rings of each group, oldest first. -/
  rings : List (Nat × List PolRing) := []
  wacs : List (Nat × WacHid) := []
  pcvs : List (Nat × PcvHid) := []
  cfg : CfgHid := {}
  hlk : HlkHid := {}
  mon : MonHid := {}
  boot : BootHid := {}
  tap : TapHid := {}
  /-- The data the latest served memory access returned. -/
  memOut : ReadOut := {}
  deriving DecidableEq, Repr

/-- The machine right after power-on reset: BOOT, nothing queued. -/
def State.reset : State := {}

end Sys2Proof.Machine
end

