-- ==== Sys2Proof/Machine/Ops.lean ====
section
/-! DEFINITION. The named operations over registers, counts, timestamps, group and device states. -/
namespace Sys2Proof.Machine

/-- The word of a register as the register file holds it. -/
def State.rd (s : State) (a : Nat) : Word := lookupD resetWord s.regs a

/-- Store the word of a register. -/
def State.wr (s : State) (a : Nat) (v : Word) : State := { s with regs := updateD resetWord s.regs a v }

/-- The word of a register as a number. -/
def State.rn (s : State) (a : Nat) : Nat := (s.rd a).toNat

/-- Store a number, modulo 2^32. -/
def State.wn (s : State) (a : Nat) (x : Nat) : State := s.wr a (BitVec.ofNat 32 x)

/-- A field of a register. -/
def State.get (s : State) (a : Nat) (f : Fld) : Nat := fldGet f (s.rd a)

/-- Store a field of a register. -/
def State.put (s : State) (a : Nat) (f : Fld) (x : Nat) : State := s.wr a (fldSet f (s.rd a) x)

/-- A one-bit field. -/
def State.on (s : State) (a : Nat) (f : Fld) : Bool := s.get a f == 1

/-- What hardware has done so far in the present control cycle (R22, R23). -/
def State.cycNow (s : State) : CycHid := if s.cyc.rt = s.rt then s.cyc else { rt := s.rt }

/-- Keep that hardware set bit `b` of the register at `a` in this cycle. -/
def State.noteSet (s : State) (a b : Nat) : State := { s with cyc := { s.cycNow with sets := (a, b) :: s.cycNow.sets } }

/-- Keep that the count register at `a` went up by `n` in this cycle. -/
def State.noteCount (s : State) (a n : Nat) : State := { s with cyc := { s.cycNow with counts := (a, n) :: s.cycNow.counts } }

/-- The words of shadow registers at the start of this cycle are kept, for those that a write is about to change (17_configuration_images.md R442). -/
def State.keepStart (s : State) (l : List Nat) : State :=
  let c := s.cycNow
  { s with cyc := { c with was := (l.filter (fun a => c.was.all (fun p => p.1 != a))).map (fun a => (a, s.rd a)) ++ c.was } }

/-- The word of a shadow register at the start of this cycle. -/
def State.atStart (s : State) (a : Nat) : Word :=
  match s.cycNow.was.find? (fun p => p.1 == a) with
  | some p => p.2
  | none => s.rd a

/-- The word that holds for an instant where a hand-over has changed a register: the replaced one before its boundary (17_configuration_images.md
R440). -/
def cutWord (cut : Option (Int × Word)) (now : Word) (ts : Int) : Word :=
  match cut with
  | none => now
  | some c => if tsBefore ts c.1 then c.2 else now

/-- The bits of a flag register that hardware has set in this cycle. -/
def State.setNow (s : State) (a : Nat) : Word :=
  (s.cycNow.sets.filter (fun p => p.1 == a)).foldl (fun w p => w ||| BitVec.ofNat 32 (2 ^ p.2)) 0#32

/-- Bit `f` of a register has been set in this cycle. -/
def State.setsNow (s : State) (a : Nat) (f : Fld) : Bool := fldGet f (s.setNow a) == 1

/-- By how much a count register has gone up in this cycle. -/
def State.countNow (s : State) (a : Nat) : Nat := (s.cycNow.counts.filter (fun p => p.1 == a)).foldl (fun x p => x + p.2) 0

/-- A 32-bit saturating count goes up by `n`. -/
def State.bump (s : State) (a : Nat) (n : Nat) : State := (s.wr a (incSat32 (s.rd a) n)).noteCount a n

/-- A saturating count in a field goes up by `n`. -/
def State.bumpFld (s : State) (a : Nat) (f : Fld) (n : Nat) : State :=
  (s.put a f (incSatN f.w (s.get a f) n)).noteCount a (n * 2 ^ f.lo)

/-- The 64-bit value of a _LO register and its _HI partner, 4 bytes above. -/
def State.rd64 (s : State) (a : Nat) : Nat := s.rn a + 2 ^ 32 * s.rn (a + 4)

/-- Store a 64-bit value into a _LO and _HI pair. -/
def State.wr64 (s : State) (a : Nat) (x : Nat) : State := (s.wn a (x % 2 ^ 32)).wn (a + 4) (x / 2 ^ 32 % 2 ^ 32)

/-- The next free value with tag `t`; `useFree` counts the use. -/
def State.freeVal (s : State) (t : Nat) : Nat := Config.freeNat s.free t

/-- Count a use of a free value. -/
def State.useFree (s : State) : State := { s with free := s.free + 1 }

/-- The timestamp of the present tick, in 1/256 tick. -/
def State.now256 (s : State) : Nat := s.tick * 256

/-! ### Device and group states (01_architecture.md R32, R35, R38) -/

def devBoot : Nat := 0
def devUnconfigured : Nat := 1
def devConfigured : Nat := 2
def devStandby : Nat := 3
def devFault : Nat := 4

def gStopped : Nat := 0
def gArming : Nat := 1
def gArmed : Nat := 2
def gFilling : Nat := 3
def gHalting : Nat := 4
def gHalted : Nat := 5
def gFault : Nat := 6
def gUnused : Nat := 15

/-- The device state (R32). -/
def State.dev (s : State) : Nat := s.get Reg.DEV_STATE F.DEV_STATE_STATE

/-- The device is UNCONFIGURED: every port disabled, outputs at mid-scale, timing ports high impedance (R32). -/
def State.unconf (s : State) : Bool := s.dev == devUnconfigured

/-- Move the device to a state (R33). -/
def State.setDev (s : State) (x : Nat) : State := s.put Reg.DEV_STATE F.DEV_STATE_STATE x

/-- The register that holds the nibble of a group. -/
def gstateReg (g : Nat) : Nat := if g < 8 then Reg.DEV_GSTATE_LO else Reg.DEV_GSTATE_HI

/-- The nibble of a group in its register. -/
def gstateFld (g : Nat) : Fld := ⟨4 * (g % 8), 4⟩

/-- The state that the group machine of group `g` holds. -/
def State.gstHeld (s : State) (g : Nat) : Nat := s.get (gstateReg g) (gstateFld g)

/-- The state of group `g` (R35): UNUSED while the device is not CONFIGURED, but for the FAULT that device FAULT brings (R34), and
for a number that names no group. A group that was in FAULT before the device reads FAULT too (DESIGN CHOICE, log 147). -/
def State.gst (s : State) (g : Nat) : Nat :=
  if g < 16 && (s.dev == devConfigured || (s.dev == devFault && s.gstHeld g == gFault)) then s.gstHeld g else gUnused

/-- The active image defines group `g`, whatever the device state is. -/
def State.gDefined (s : State) (g : Nat) : Bool := decide (g < 16) && s.gstHeld g != gUnused

/-- What DEV_GSTATE_LO (`h` = 0) or DEV_GSTATE_HI (`h` = 1) reads as (R38). -/
def State.gstateWord (s : State) (h : Nat) : Nat := (List.range 8).foldr (fun k x => s.gst (8 * h + k) + 16 * x) 0

/-- Move group `g` to a state (R36). -/
def State.setGst (s : State) (g : Nat) (x : Nat) : State :=
  if g < 16 then s.put (gstateReg g) (gstateFld g) x else s

/-- The group is in ARMING, ARMED, FILLING or HALTING. -/
def State.gRunning (s : State) (g : Nat) : Bool :=
  s.gst g == gArming || s.gst g == gArmed || s.gst g == gFilling || s.gst g == gHalting

/-- Some group is in ARMING, ARMED, FILLING or HALTING. -/
def State.anyRunning (s : State) : Bool := (List.range 16).any s.gRunning

end Sys2Proof.Machine
end

