-- ==== Sys2Proof/Machine/Flags.lean ====
section
/-! DEFINITION. Sticky flags and their event sources (00_scope.md R16, R22, R23; 14_event_controller.md R348, R349), counts
and their clears, power domains (18_power_reset_boot.md R455). -/
namespace Sys2Proof.Machine

/-- A run of flag registers of R349: base, stride and count of the registers, the first source, sources per register,
number of flag bits. -/
structure FlagRun where
  base : Nat
  stride : Nat
  count : Nat
  src : Nat
  per : Nat
  bits : Nat
  deriving DecidableEq, Repr

/-- R349 for the blocks whose index is the bit number, and the sources assigned to HLK, CHN, CFG, PWR and MON. -/
def flagRuns : List FlagRun := [
  ⟨Reg.FAB_FLAGS, 4, 1, 1, 0, 7⟩, ⟨Reg.CKS_FLAGS, 4, 1, 8, 0, 7⟩, ⟨Reg.POL_FLAGS, 4, 1, 15, 0, 3⟩,
  ⟨Reg.DMA_FLAGS, 4, 1, 18, 0, 4⟩, ⟨Reg.FCH_FLAGS 0, 0x10000, 16, 56, 4, 4⟩, ⟨Reg.FCAL_FLAGS 0, 0x4000, 4, 120, 2, 2⟩,
  ⟨Reg.FCAL_P_FLAGS 0 0, 0x20, 4, 128, 5, 5⟩, ⟨Reg.FCAL_P_FLAGS 1 0, 0x20, 4, 148, 5, 5⟩,
  ⟨Reg.FCAL_P_FLAGS 2 0, 0x20, 4, 168, 5, 5⟩, ⟨Reg.FCAL_P_FLAGS 3 0, 0x20, 4, 188, 5, 5⟩,
  ⟨Reg.DCF_FLAGS 0, 0x8000, 32, 208, 5, 5⟩, ⟨Reg.TRU_FLAGS 0, 0x4000, 32, 368, 7, 7⟩,
  ⟨Reg.POL_G_FLAGS 0, 0x80, 16, 592, 6, 6⟩, ⟨Reg.WAC_FLAGS 0, 0x4000, 16, 688, 4, 4⟩,
  ⟨Reg.STO_FLAGS 0, 0x4000, 16, 992, 7, 7⟩, ⟨Reg.TPT_FLAGS 0, 0x1000, 16, 1104, 7, 7⟩,
  ⟨Reg.CMP_FLAGS 0, 0x1000, 8, 1296, 6, 6⟩, ⟨Reg.HLK_FLAGS, 4, 1, 1344, 0, 9⟩, ⟨Reg.HLK_ERR, 4, 1, 1360, 0, 4⟩,
  ⟨Reg.CHN_FLAGS, 4, 1, 1376, 0, 14⟩, ⟨Reg.CFG_FLAGS, 4, 1, 1408, 0, 9⟩, ⟨Reg.PWR_FLAGS, 4, 1, 1424, 0, 7⟩,
  ⟨Reg.MON_FLAGS, 4, 1, 1440, 0, 9⟩]

/-- The PCV index of R349: bits 0, 1, 3 to 9 and the four OW_POS bits; REF_MARGIN_LOW and REF_OUT have sources of their own. -/
def pcvFlagSource (k b : Nat) : Option Nat :=
  if b = 0 then some (752 + 10 * k) else if b = 1 then some (753 + 10 * k)
  else if 3 ≤ b ∧ b ≤ 9 then some (752 + 10 * k + (b - 1))
  else if b = 10 ∧ k = 0 then some 54 else if b = 11 ∧ k = 0 then some 55
  else if 16 ≤ b ∧ b ≤ 19 then some (752 + 10 * k + 9) else none

/-- The MCH index of R349: bits 0 and 1 as they are, bits 3 to 10 one lower. -/
def mchFlagSource (m b : Nat) : Option Nat :=
  if b ≤ 1 then some (1216 + 10 * m + b) else if 3 ≤ b ∧ b ≤ 10 then some (1216 + 10 * m + (b - 1)) else none

/-- The event source of bit `b` of the flag register at `a` (R349); none for EVC_FLAGS and for any other register. -/
def flagSource (a b : Nat) : Option Nat :=
  if Reg.PCV_FLAGS 0 ≤ a ∧ a < Reg.PCV_FLAGS 24 ∧ (a - Reg.PCV_FLAGS 0) % 0x2000 = 0 then
    pcvFlagSource ((a - Reg.PCV_FLAGS 0) / 0x2000) b
  else if Reg.MCH_FLAGS 0 ≤ a ∧ a < Reg.MCH_FLAGS 8 ∧ (a - Reg.MCH_FLAGS 0) % 0x10000 = 0 then
    mchFlagSource ((a - Reg.MCH_FLAGS 0) / 0x10000) b
  else
    match flagRuns.find? (fun r => decide (r.base ≤ a) && decide ((a - r.base) % r.stride = 0) &&
        decide ((a - r.base) / r.stride < r.count)) with
    | none => none
    | some r => if b < r.bits then some (r.src + r.per * ((a - r.base) / r.stride) + b) else none

/-- Source `src` sends a set pulse (`rise`) or its line's fall towards the controller (R348, R353, R356). -/
def State.sendLine (s : State) (src : Nat) (rise : Bool) : State := { s with lines := s.lines ++ [⟨src, rise⟩] }

/-- A pulse or a fall of the source of a flag, where the flag has one. -/
def State.sendFlag (s : State) (a b : Nat) (rise : Bool) : State :=
  match flagSource a b with
  | none => s
  | some src => s.sendLine src rise

/-- A hardware set of a flag (R22, R348): the bit reads 1 and its source carries a set pulse, also when it read 1 before. -/
def State.setFlag (s : State) (a : Nat) (f : Fld) : State := ((s.put a f 1).noteSet a f.lo).sendFlag a f.lo true

/-- Set the flag where the condition holds. -/
def State.setFlagIf (s : State) (c : Bool) (a : Nat) (f : Fld) : State := if c then s.setFlag a f else s

/-- The line of a source is high after a clear only while another flag bit of the same source reads 1 (OW_POS, R349). -/
def lineStays (a : Nat) (v : Word) (b : Nat) : Bool :=
  (List.range 32).any (fun c => bitOf v.toNat c && decide (flagSource a c = flagSource a b) && (flagSource a b).isSome)

/-- Report the fall of every line that went from 1 to 0, bits `b` downwards. -/
def sendFalls (s : State) (a : Nat) (old new : Word) : Nat → State
  | 0 => s
  | b + 1 =>
    let s := sendFalls s a old new b
    if bitOf old.toNat b && !bitOf new.toNat b && !lineStays a new b then s.sendFlag a b false else s

/-- Clear the flags named in `mask` (R16 w1c): the bits read 0 and each line that was high falls. -/
def State.clearFlags (s : State) (a : Nat) (mask : Word) : State :=
  sendFalls (s.wr a (s.rd a &&& ~~~ mask)) a (s.rd a) (s.rd a &&& ~~~ mask) 32

/-- The host clears the flags named in `mask`: a flag that hardware sets in the same control cycle is set after it (R22). -/
def State.hostClear (s : State) (a : Nat) (mask : Word) : State := s.clearFlags a (mask &&& ~~~ (s.setNow a))

/-- The host clears each of the count registers listed; the increments of the same control cycle come after the clear (R23). -/
def State.clearCounts (s : State) : List Nat → State
  | [] => s
  | a :: t => (s.wn a (min (s.countNow a) (2 ^ 32 - 1))).clearCounts t

/-- Write 0 to each of the registers listed. -/
def State.zero (s : State) : List Nat → State
  | [] => s
  | a :: t => (s.wr a 0#32).zero t

/-- Domain codes of R455. -/
def domStim : Nat := 4
def domPrec : Nat := 5
def domFab : Nat := 6
def domMem : Nat := 7

/-- The field of a domain in PWR_DOM_STAT (18 R472). -/
def domFld (d : Nat) : Fld := ⟨2 * d, 2⟩

/-- The state of domain `d`: 0 OFF, 1 POWERING, 2 ON, 3 DOWNING. -/
def State.dom (s : State) (d : Nat) : Nat := s.get Reg.PWR_DOM_STAT (domFld d)

/-- The domain is ON. -/
def State.domOn (s : State) (d : Nat) : Bool := s.dom d == 2

end Sys2Proof.Machine
end

