-- ==== Sys2Proof/Machine/Operands.lean ====
section
/-! DEFINITION. How a register write reaches its fields (00_scope.md R16, R19, R20, R21), how a write that is not applied is
reported (15_host_link.md R384, R399), and which blocks refuse transactions in STANDBY (15 R386, 18 R455). -/
namespace Sys2Proof.Machine

/-- The fate of one register write: the entry statuses of R384 that a write can draw. -/
inductive WStat where
  | ok
  | stateRefused
  | gated
  | valueRefused
  | address
  | testLocked
  deriving DecidableEq, Repr

/-- The status code of R384. -/
def WStat.code : WStat → Nat
  | .ok => 0x0000
  | .stateRefused => 0x0001
  | .gated => 0x0002
  | .valueRefused => 0x0003
  | .address => 0x0004
  | .testLocked => 0x0018

/-- What a write that was not applied leaves in the HLK block (R399). -/
def State.report (s : State) (a : Nat) : WStat → State
  | .ok => s
  | .testLocked => s
  | .gated => (s.setFlag Reg.HLK_ERR F.HLK_ERR_GATED).wn Reg.HLK_GATED_ADDR a
  | .valueRefused => (s.setFlag Reg.HLK_ERR F.HLK_ERR_REFUSED).wn Reg.HLK_REFUSED_ADDR a
  | .stateRefused => (s.setFlag Reg.HLK_ERR F.HLK_ERR_STATE).wn Reg.HLK_REFUSED_ADDR a
  | .address => s.setFlag Reg.HLK_ERR F.HLK_ERR_ADDRESS

/-- The word an rw register takes: the rw bits of `v`, the w1s bits set, every other bit as it was. -/
def mergeWord (r : RegRow) (old v : Word) : Word :=
  (old &&& ~~~ (BitVec.ofNat 32 r.rw)) ||| (v &&& BitVec.ofNat 32 r.rw) ||| (v &&& BitVec.ofNat 32 r.w1s)

/-- Apply an accepted write to the fields of the register at `a` (R16): rw fields take their bits, w1s bits set, w1c bits
clear, every other bit and an address that holds no register (R20) is unchanged. -/
def State.applyFields (s : State) (a : Nat) (v : Word) : State :=
  match rowOf a with
  | none => s
  | some r => (s.wr a (mergeWord r (s.rd a) v)).hostClear a (v &&& BitVec.ofNat 32 r.w1c)

/-- Carry a write out where its check passes, else report it (R19, R399). -/
def State.writeIf (s : State) (a : Nat) (c : WStat) (f : State → State) : WStat × State :=
  match c with
  | .ok => (.ok, f s)
  | w => (w, s.report a w)

/-- The first refusal of a list of conditions, in the list's order; ok where none holds. -/
def firstOf : List (Bool × WStat) → WStat
  | [] => .ok
  | (c, w) :: t => if c then w else firstOf t

/-- The power domain of the block at an address (R455); none for the always-on blocks. -/
def domainOf (a : Nat) : Option Nat :=
  if 0x100000 ≤ a ∧ a < 0x200000 then some ((a - 0x100000) / 0x40000)
  else if 0x200000 ≤ a ∧ a < 0x210000 then some ((a - 0x200000) / 0x4000)
  else if 0x300000 ≤ a ∧ a < 0x5C0000 then some domFab
  else if 0x600000 ≤ a ∧ a < 0x630000 then some domPrec
  else if 0x700000 ≤ a ∧ a < 0x740000 then some domStim
  else if 0x900000 ≤ a ∧ a < 0x980000 then some domMem
  else if 0xB00000 ≤ a ∧ a < 0xB08000 then some domFab
  else none

/-- In STANDBY a transaction to a block whose domain is down fails (R386). -/
def State.standbyBlocked (s : State) (a : Nat) : Bool :=
  s.dev == devStandby &&
    match domainOf a with
    | none => false
    | some d => !s.domOn d

/-- A command that is a host write of the register at `a`: it does `t`, or is refused by the register's block in STANDBY (R386). -/
def State.hostReg (s : State) (a : Nat) (t : State) : State := if s.standbyBlocked a then s.report a .stateRefused else t

/-- The group a unit's status register names in GROUP [8:4]; 0x1F where none. -/
def State.groupOf (s : State) (statusReg : Nat) : Nat := s.get statusReg ⟨4, 5⟩

/-- The unit whose status register is given belongs to a group that is running. -/
def State.unitRunning (s : State) (statusReg : Nat) : Bool := s.gRunning (s.groupOf statusReg)

end Sys2Proof.Machine
end

