-- ==== Sys2Proof/Machine/Streams.lean ====
section
/-! DEFINITION. Streams between units: the fabric word and its tags (02_handshake_fabric.md R45, R47), the source codes of
06_triggers.md R141, and the queue of words each consumer has still to take (R29, R46, R74). -/
namespace Sys2Proof.Machine

def tagTRG : Nat := 1
def tagOVR : Nat := 2
def tagGAP : Nat := 4
def tagSETTLE : Nat := 8
def tagSOP : Nat := 16
def tagFLT : Nat := 32

/-- A fabric word from its DATA, as an integer code, and its six tag bits (R45). -/
def mkWord (data : Int) (tags : Nat) : FWord := BitVec.ofNat 24 (unsx 18 data * 64 + tags % 64)

/-- DATA of a word as a signed code. -/
def wData (w : FWord) : Int := sext 18 (w.toNat / 64)

/-- The tag bits of a word. -/
def wTags (w : FWord) : Nat := w.toNat % 64

/-- A tag bit is set in a tag set. -/
def hasTag (tags t : Nat) : Bool := tags / t % 2 == 1

/-- The OR of two tag sets. -/
def orTags (a b : Nat) : Nat := a ||| b

/-- Source codes (06 R141): FAI q is q, DCF n is 0x10 + n. -/
def srcDcf (n : Nat) : Nat := 0x10 + n

/-- Queue keys of the consumers. -/
def qDcf (n : Nat) : Nat := n
def qTru (n : Nat) : Nat := 32 + n
def qWac (n : Nat) : Nat := 64 + n
def qStream (k : Nat) : Nat := 128 + k

/-- What waits for a consumer. -/
def State.queue (s : State) (k : Nat) : List QItem := lookupD (fun _ => []) s.queues k

/-- Replace what waits for a consumer. -/
def State.setQueue (s : State) (k : Nat) (l : List QItem) : State :=
  { s with queues := updateD (fun _ => []) s.queues k l }

/-- Append an item for a consumer. -/
def State.push (s : State) (k : Nat) (i : QItem) : State := s.setQueue k (s.queue k ++ [i])

/-- The types of 06 R140 that watch a sample stream: EDGE, WINDOW, PULSE_WIDTH, RUNT, SLOPE. -/
def State.truOnStream (s : State) (n : Nat) : Bool :=
  s.on (Reg.TRU_CTL n) F.TRU_CTL_ENABLE && decide (s.get (Reg.TRU_CTL n) F.TRU_CTL_TYPE ≤ 4)

/-- The consumers that take the stream of a source: enabled filter chains and trigger units that name it, enabled
accumulators that name it, and the stored streams of the active image that name it. -/
def State.consumers (s : State) (src : Nat) : List Nat :=
  ((List.range 32).filter (fun n => s.on (Reg.DCF_CTL n) F.DCF_CTL_ENABLE &&
      decide (src < 16) && decide (s.get (Reg.DCF_CTL n) F.DCF_CTL_SRC = src))).map qDcf ++
  ((List.range 32).filter (fun n => s.truOnStream n && decide (s.get (Reg.TRU_CTL n) F.TRU_CTL_SRC = src))).map qTru ++
  ((List.range 16).filter (fun n => s.on (Reg.WAC_CTL n) F.WAC_CTL_ENABLE &&
      decide (s.get (Reg.WAC_CTL n) F.WAC_CTL_SRC = src))).map qWac ++
  ((List.range s.streams.length).filter (fun k => match s.streams[k]? with
      | some d => decide (d.src = src)
      | none => false)).map qStream

/-- Hand an item of source `src` to every consumer of it. -/
def State.publish (s : State) (src : Nat) (i : QItem) : State := (s.consumers src).foldl (fun s k => s.push k i) s

/-- TST_BP withholds acknowledgement at this tick: the first DUTY/256 of each period of 1,024 × 2^PERIOD ticks
(19_monitoring_and_test.md R486). -/
def State.bpHolds (s : State) : Bool :=
  let n := 1024 * 2 ^ s.get Reg.TST_BP F.TST_BP_PERIOD
  s.on Reg.TST_BP F.TST_BP_EN && decide (s.tick % n * 256 < s.get Reg.TST_BP F.TST_BP_DUTY * n)

/-- The consumer of a word from source `src` withholds its acknowledgement under TST_BP, lane numbers of fast port *q* being
8*q* to 8*q* + 7 (19 R486; the numbers are DEDUCED, notes/assumptions/62.md). -/
def State.ackHeld (s : State) (src : Nat) : List QItem → Bool
  | .word q :: _ => s.on Reg.TST_BP F.TST_BP_TARGET && s.bpHolds && decide (src < 16) &&
      decide (s.get Reg.TST_BP F.TST_BP_LANE = 8 * src + q.lane)
  | _ => false

/-- The sluice grants no credit under TST_BP (19 R486). -/
def State.sluiceHeld (s : State) : Bool := !s.on Reg.TST_BP F.TST_BP_TARGET && s.bpHolds

/-- The words of a capture lane that a consumer has not yet taken. -/
def laneCount (lane : Nat) : List QItem → Nat
  | [] => 0
  | .word q :: t => b2n (q.lane == lane) + laneCount lane t
  | .endStream :: t => laneCount lane t

/-- The words the capture buffer of a lane of port `q` holds: those that its slowest consumer has still to take (R29). An
accumulator takes every word at once; its queue is its own history. -/
def State.laneLoad (s : State) (q lane : Nat) : Nat :=
  ((s.consumers q).filter (fun k => decide (k < 64) || decide (128 ≤ k))).foldl
    (fun m k => max m (laneCount lane (s.queue k))) 0

/-- The record of a port, chain or calibration engine behind its registers. -/
def State.fch (s : State) (n : Nat) : FchHid := lookupD (fun _ => {}) s.fchs n
def State.setFch (s : State) (n : Nat) (x : FchHid) : State := { s with fchs := updateD (fun _ => {}) s.fchs n x }
def State.dcf (s : State) (n : Nat) : DcfHid := lookupD (fun _ => {}) s.dcfs n
def State.setDcf (s : State) (n : Nat) (x : DcfHid) : State := { s with dcfs := updateD (fun _ => {}) s.dcfs n x }
def State.calTile (s : State) (t : Nat) : CalTile := lookupD (fun _ => {}) s.calTiles t
def State.setCalTile (s : State) (t : Nat) (x : CalTile) : State :=
  { s with calTiles := updateD (fun _ => {}) s.calTiles t x }
def State.calPort (s : State) (q : Nat) : CalPort := lookupD (fun _ => {}) s.calPorts q
def State.setCalPort (s : State) (q : Nat) (x : CalPort) : State :=
  { s with calPorts := updateD (fun _ => {}) s.calPorts q x }

/-- The unit of a stream endpoint is disabled (12_dma_flows.md R316). -/
def State.closeEnd (s : State) (e : Nat) : State := { s with closedEnds := e :: s.closedEnds.filter (fun x => x != e) }

/-- The source port of a fast stream (06_triggers.md R141). -/
def State.portOf (s : State) (src : Nat) : Nat :=
  (if src < 16 then src else s.get (Reg.DCF_CTL ((src - 0x10) % 32)) F.DCF_CTL_SRC) % 16

/-- FCH_TS_ADJ of the source port, in 1/256 tick, for a word or instant named `name`: what every timestamp taken from a name has
subtracted (03_fast_inputs.md R75; 05_filter_chains.md R130; after a hand-over 17_configuration_images.md R440). -/
def State.tsAdj (s : State) (src : Nat) (name : Int) : Int :=
  let h := s.fch (s.portOf src)
  if (match h.adjFrom with
    | none => false
    | some b => tsBefore name b) then h.adjOld else sext 32 (s.rn (Reg.FCH_TS_ADJ (s.portOf src)))

/-- The word with the name that records and captures use (R75, R130). -/
def QWord.adjusted (q : QWord) (src : Nat) (s : State) : QWord := { q with name := q.name - s.tsAdj src q.name }

/-- STATE of a fast port: 0 OFF, 1 POWERING, 2 RUNNING, 3 PARTNER (03 R92). -/
def State.fchState (s : State) (n : Nat) : Nat := s.get (Reg.FCH_STATUS n) F.FCH_STATUS_STATE
def State.setFchState (s : State) (n x : Nat) : State := s.put (Reg.FCH_STATUS n) F.FCH_STATUS_STATE x

/-- A port samples in paired mode (03 R76). -/
def State.paired (s : State) (n : Nat) : Bool := n % 2 == 0 && s.on (Reg.FCH_CTL n) F.FCH_CTL_PAIRED

/-- The sample period of a port in ticks: 8 in paired mode, else 16 (R72, R76). -/
def State.period (s : State) (n : Nat) : Nat := if s.paired n then 8 else 16

end Sys2Proof.Machine
end

