-- ==== Sys2Proof/Machine/Filter.lean ====
section
/-! DEFINITION. Filter chains: DC blocker, half-band stages, resampler, synchronising resets, settling
(05_filter_chains.md). -/
namespace Sys2Proof.Machine

/-- STATE of a chain: 0 STOPPED, 1 WAITING, 2 SETTLING, 3 RUNNING (R139). -/
def State.dcfState (s : State) (n : Nat) : Nat := s.get (Reg.DCF_STATUS n) F.DCF_STATUS_STATE
def State.setDcfState (s : State) (n x : Nat) : State := s.put (Reg.DCF_STATUS n) F.DCF_STATUS_STATE x

/-- The number of half-band stages *S*, the blocker's and the resampler's switches (R114). -/
def State.nStage (s : State) (n : Nat) : Nat := s.get (Reg.DCF_CTL n) F.DCF_CTL_NSTAGE
def State.dcbOn (s : State) (n : Nat) : Bool := s.on (Reg.DCF_DCB_CTL n) F.DCF_DCB_CTL_EN
def State.rsOn (s : State) (n : Nat) : Bool := s.on (Reg.DCF_CTL n) F.DCF_CTL_RS_EN

/-- The number of active blocks *B* (R114, R131). -/
def State.nBlocks (s : State) (n : Nat) : Nat := b2n (s.dcbOn n) + s.nStage n + b2n (s.rsOn n)

/-- *T*_in of a chain in ticks (R113). -/
def State.tIn (s : State) (n : Nat) : Nat := s.period (s.get (Reg.DCF_CTL n) F.DCF_CTL_SRC)

/-- The coefficient source of stage `k`, 1 to 10 (R124). -/
def State.stageCode (s : State) (n k : Nat) : Nat := s.get (Reg.DCF_STAGE n) ⟨3 * k - 3, 3⟩

/-- *K* of a kernel: the ROM responses of R125, or a user kernel's TAPS (R124). -/
def State.kernelK (s : State) (n code : Nat) : Nat :=
  match code with
  | 0 => 15
  | 1 => 11
  | 2 => 7
  | 3 => 5
  | 4 => 2
  | 5 => 1
  | c => s.get (Reg.DCF_UHB_TAPS n (c - 6)) F.DCF_UHB_TAPS_K

/-- The taps *N* = 4*K* + 3 of stage `k`. -/
def State.nTaps (s : State) (n k : Nat) : Nat := 4 * s.kernelK n (s.stageCode n k) + 3

/-- Coefficient *C*[c] of a kernel, s1.21 (R122, R124). -/
def State.coefC (s : State) (n code c : Nat) : Int :=
  if code < 6 then sext 22 (unsx 22 (Config.romHb code c)) else sext 22 (s.get (Reg.DCF_UHB_C n (code - 6) c) F.DCF_UHB_C_COEF)

/-- *h*[j] of a kernel of *K*, in units of 2^−21 (R122). -/
def State.kernelH (s : State) (n code : Nat) (j : Nat) : Int :=
  let k := s.kernelK n code
  let m := 2 * k + 1
  let d := if j ≤ m then m - j else j - m
  if d = 0 then 2 ^ 20 else if d % 2 = 1 ∧ (d - 1) / 2 ≤ k then s.coefC n code ((d - 1) / 2) else 0

/-- Prototype value *h*[k] of the resampler, 0 to 1,024 (R128). -/
def State.protoH (s : State) (n k : Nat) : Int :=
  if k ≥ 1024 then 0
  else
    let i := if k < 512 then k else 1023 - k
    match s.get (Reg.DCF_CTL n) F.DCF_CTL_RS_PROTO with
    | 0 => sext 22 (unsx 22 (Config.romRs 6 i))
    | 1 => sext 22 (unsx 22 (Config.romRs 7 i))
    | _ => sext 22 (s.get (Reg.DCF_URS_H n i) F.DCF_URS_H_COEF)

/-- *R* in units of 2^−31; 2^31 when the resampler is off (R115). -/
def State.ratio (s : State) (n : Nat) : Nat := if s.rsOn n then s.rn (Reg.DCF_RS_RATIO n) else 2 ^ 31

/-- *G* in units of 1/256 tick (R129). -/
def State.groupDelay (s : State) (n : Nat) : Nat :=
  (List.range (s.nStage n)).foldl (fun g k => g + (s.nTaps n (k + 1) - 1) / 2 * (s.tIn n * 2 ^ k) * 256) 0 +
    (if s.rsOn n then 2046 * (s.tIn n * 2 ^ s.nStage n) else 0)

/-- The latency bound of R131 in ticks. -/
def State.chainLatency (s : State) (n : Nat) : Nat := (s.groupDelay n + 255) / 256 + 2048 + 320 * s.nBlocks n

/-- GDELAY and LATENCY are formed again (R139). -/
def refreshChain (n : Nat) (s : State) : State :=
  (s.wn (Reg.DCF_GDELAY n) (s.groupDelay n)).wn (Reg.DCF_LATENCY n) (s.chainLatency n)

/-- The blocks *n*_A of R134 for each *A*. -/
def blocksA (a : Nat) : Nat := [1, 8, 20, 42, 86, 175, 353, 708].getD a 0

/-- The settling count *N*_settle of R134. -/
def State.settleCount (s : State) (n : Nat) : Nat :=
  let st := s.nStage n
  let dc := if s.dcbOn n ∧ s.on (Reg.DCF_DCB_CTL n) F.DCF_DCB_CTL_FREEZE = false then
      (blocksA (s.get (Reg.DCF_DCB_CTL n) F.DCF_DCB_CTL_A) + 1) * 2 ^ s.get (Reg.DCF_DCB_CTL n) F.DCF_DCB_CTL_BLK else 0
  let hb := (List.range st).foldl (fun g k => g + (s.nTaps n (k + 1) - 1) * 2 ^ k) 0
  let num := (dc + hb + (if s.rsOn n then 15 * 2 ^ st else 0)) * 2 ^ 31
  let den := 2 ^ st * s.ratio n
  (num + den - 1) / den

/-- The settling is delivered: SETTLED sets and the chain enters RUNNING (R133, R138). -/
def settled (n : Nat) (s : State) : State :=
  (s.setFlag (Reg.DCF_FLAGS n) F.DCF_FLAGS_SETTLED).setDcfState n 3

/-- The instant of a pending SYNC_AT is reached by the word named `u` (R132, R137; R10). -/
def syncAtReached (h : DcfHid) (u : Int) : Bool :=
  match h.syncAt with
  | none => false
  | some t => decide (0 ≤ sext 64 (unsx 64 (u - (t : Int))))

/-- A synchronising reset at the input word named `u` ticks (R121, R127, R133, R134). A SYNC_AT whose instant the word does not reach
stays pending (R137). SYNC_LATE sets with the late reset, not as the command is accepted (DESIGN CHOICE, log 155). -/
def syncReset (n : Nat) (u : Int) (gap : Bool) (late : Bool) (s : State) : State :=
  let tr : Int := (s.tIn n * 2 ^ s.nStage n : Nat)
  let d := sext 30 (s.get (Reg.DCF_DCB_INIT n) F.DCF_DCB_INIT_INIT)
  let c := s.settleCount n
  let wait := if syncAtReached (s.dcf n) u then none else (s.dcf n).syncAt
  let s := s.setDcf n { s.dcf n with
    sdc := 0, d := d, blk := none, blkS := 0, blkOk := false, blkDone := none, hist := [], rhist := [],
    acc := s.get (Reg.DCF_RS_PHASE n) F.DCF_RS_PHASE_PHASE * 2 ^ 15, anchor := -((-u) / tr) * tr, resetAt := u,
    first := true, sync := false, armed := false, late := false, syncAt := wait }
  let s := s.put (Reg.DCF_STATUS n) F.DCF_STATUS_SYNC_PENDING (b2n wait.isSome)
  let s := s.put (Reg.DCF_DCB_EST n) F.DCF_DCB_EST_EST (unsx 30 d)
  let s := (s.wn (Reg.DCF_SETTLE_TOTAL n) c).wn (Reg.DCF_SETTLE_LEFT n) c
  let s := s.wr64 (Reg.DCF_LAST_SYNC_LO n) (unsx 64 u)
  let s := s.setFlagIf gap (Reg.DCF_FLAGS n) F.DCF_FLAGS_GAP_RESET
  let s := s.setFlagIf late (Reg.DCF_FLAGS n) F.DCF_FLAGS_SYNC_LATE
  if c = 0 then settled n s else s.setDcfState n 2

/-- A block's exact sum in units of 2^−fb, requantised to its output format with saturation (R116, R117): the code and
whether it saturated. -/
def quant (fb : Nat) (final : Bool) (x : Int) : Int × Bool :=
  let y := if final then rne (fb - 17) x else rne (fb - 15) x
  let z := if final then satS 18 y else satS 17 y
  (z, decide (z ≠ y))

/-- A saturation at a final block counts and sets SAT, at any other sets STAGE_SAT (R117). -/
def noteSat (n : Nat) (final sat : Bool) (s : State) : State :=
  if sat = false then s
  else if final then (s.bump (Reg.DCF_SATCNT n) 1).setFlag (Reg.DCF_FLAGS n) F.DCF_FLAGS_SAT
  else s.setFlag (Reg.DCF_FLAGS n) F.DCF_FLAGS_STAGE_SAT

/-- A finished DC-blocker block updates *d* where `ok` says that it may (R119): FREEZE acts from the word taken after its write
(R120), so a write behind the block's last word does not reach it. `sum` is Σ. -/
def dcbUpdate (n : Nat) (sum : Int) (ok : Bool) (s : State) : State :=
  let h := s.dcf n
  if ok = false then s.setDcf n { h with blkDone := none }
  else
    let blk := s.get (Reg.DCF_DCB_CTL n) F.DCF_DCB_CTL_BLK
    let a := s.get (Reg.DCF_DCB_CTL n) F.DCF_DCB_CTL_A
    -- B − d in units of 2^−(29 + BLK): B = Σ × 2^−(BLK+17) = Σ × 2^12 × 2^−(29+BLK)
    let diff := sum * 2 ^ 12 - h.d * 2 ^ blk
    let d := sext 30 (unsx 30 (h.d + rne (blk + a) diff))
    (s.setDcf n { h with d := d, blkDone := none }).put (Reg.DCF_DCB_EST n) F.DCF_DCB_EST_EST (unsx 30 d)

/-- The end of a block that CHAIN_WORD has recorded (R119). -/
def blockEnd (n : Nat) (s : State) : State :=
  match (s.dcf n).blkDone with
  | none => s
  | some (sum, ok) => dcbUpdate n sum ok s

/-- The DC blocker takes the word `x` named `u` ticks (R119 to R121): its integrator and blocks, and the output. -/
def dcbWord (n : Nat) (u x : Int) (s : State) : Int × State :=
  let tin : Int := s.tIn n
  let span : Int := 2 ^ s.get (Reg.DCF_DCB_CTL n) F.DCF_DCB_CTL_BLK * tin
  let b := u - u % span
  let s := blockEnd n s
  let h := s.dcf n
  let frz := s.on (Reg.DCF_DCB_CTL n) F.DCF_DCB_CTL_FREEZE
  -- a block whose first word this is may update d when it begins at or after the reset with FREEZE = 0
  let h := if h.blk = some b then { h with blkOk := h.blkOk && !frz }
    else { h with blk := some b, blkS := h.sdc, blkOk := decide (h.resetAt ≤ b) && !frz }
  let h := { h with sdc := unsx 48 ((h.sdc : Int) + x) }
  let y := quant 29 (s.nBlocks n == 1) (x * 2 ^ 12 - h.d)
  let h := if (u + tin) % span = 0 then
      { h with blkDone := some (sext 48 (unsx 48 ((h.sdc : Int) - (h.blkS : Int))), h.blkOk), blk := none } else h
  (y.1, noteSat n (s.nBlocks n == 1) y.2 (s.setDcf n h))

/-- The entry of a history at a position; a position with no entry counts 0 without tags. -/
def histAt (l : List HWord) (p : Int) : Int × Nat :=
  match l.find? (fun w => decide (w.p = p)) with
  | none => (0, 0)
  | some w => (w.v, w.tags)

/-- The sum of a half-band stage over its history at position `p`, and the OR of the tags in its span (R118, R122). -/
def halfBandSum (s : State) (n code : Nat) (l : List HWord) (p : Int) : Int × Nat :=
  (List.range (4 * s.kernelK n code + 3)).foldl (fun (a : Int × Nat) (j : Nat) =>
    let w := histAt l (p - (j : Int))
    (a.1 + s.kernelH n code j * w.1, orTags a.2 w.2)) (0, 0)

/-- Half-band stage `k` takes the word `v` (fraction bits `fb`) named `u` ticks: its output at the words of R123. -/
def halfBandWord (n k fb : Nat) (u v : Int) (tags : Nat) (s : State) : Option (Int × Int × Nat) × State :=
  let t : Int := (s.tIn n * 2 ^ (k - 1) : Nat)
  let code := s.stageCode n k
  let nt := 4 * s.kernelK n code + 3
  let mid : Int := ((nt - 1) / 2 : Nat)
  let p := u / t
  let h := s.dcf n
  let v := if u < h.resetAt then 0 else v
  let old := lookupD (fun _ => []) h.hist k
  let l := (⟨p, v, tags⟩ : HWord) :: old.filter (fun w => decide (w.p > p - (nt : Int)) && decide (w.p ≠ p))
  let s := s.setDcf n { h with hist := updateD (fun _ => []) h.hist k l }
  if (p - mid) % 2 ≠ 0 then (none, s)
  else
    let sum := halfBandSum s n code l p
    let final := s.nStage n == k && !s.rsOn n
    let y := quant (21 + fb) final sum.1
    (some ((p - mid) * t, y.1, sum.2), noteSat n final y.2 s)

/-- Stages `k`, `k`+1, … up to *S*, `left` of them, on one word: what leaves the last of them. -/
def stages (n : Nat) : Nat → Nat → Nat → Int → Int → Nat → State → Option (Int × Int × Nat × Nat) × State
  | 0, _, fb, u, v, tags, s => (some (u, v, tags, fb), s)
  | left + 1, k, fb, u, v, tags, s =>
    match halfBandWord n k fb u v tags s with
    | (none, s) => (none, s)
    | (some (u', v', tags'), s) => stages n left (k + 1) 15 u' v' tags' s

/-- The name of resampler output with accumulator `a`, in 1/256 tick (R128). -/
def rsName (anchor : Int) (tr a : Nat) : Int := anchor * 256 + rne 8 ((a / 2 ^ 15 * tr : Nat) : Int)

/-- One resampler output from accumulator `a`: sum and tags over its 16 taps (R128). -/
def rsSum (s : State) (n : Nat) (l : List HWord) (a : Nat) : Int × Nat :=
  let p := a / 2 ^ 15 + 7 * 65536 + 65024
  let i : Int := (p / 65536 : Nat)
  let f := p % 65536
  let b := f / 1024
  let nu : Int := (f % 1024 : Nat)
  (List.range 16).foldl (fun (z : Int × Nat) (t : Nat) =>
    let h0 := s.protoH n (64 * t + b)
    let h1 := s.protoH n (64 * t + b + 1)
    let c := rne 10 (h0 * 1024 + nu * (h1 - h0))
    let w := histAt l (i - (t : Int))
    (z.1 + c * w.1, orTags z.2 w.2)) (0, 0)

/-- The position of the newest input an output with accumulator `a` needs (R128). -/
def rsNewest (a : Nat) : Int := ((a / 2 ^ 15 + 7 * 65536 + 65024) / 65536 : Nat)

/-- What leaves the chain: the name in 1/256 tick, code, tags and accumulator. -/
structure ChainOut where
  name : Int
  v    : Int
  tags : Nat
  acc  : Nat
  deriving DecidableEq, Repr

/-- The resampler's position moves on by *R* (R127). The accumulator is u32.31: where it wraps, anchor and history move on with it, so
that the names of R128 run on (DEDUCED, log entry 126). -/
def rsAdvance (s : State) (n : Nat) (h : DcfHid) : DcfHid :=
  let a := h.acc + s.ratio n
  if a < 2 ^ 63 then { h with acc := a }
  else
    { h with acc := a - 2 ^ 63, anchor := h.anchor + (2 ^ 32 * (s.tIn n * 2 ^ s.nStage n) : Nat),
             rhist := h.rhist.map (fun w => { w with p := w.p - 2 ^ 32 }) }

/-- Every resampler output whose newest input is at or before position `pos`; at most two per input, as *R* ≥ 1. -/
def rsOutputs (n fb : Nat) (pos : Int) : Nat → State → List ChainOut × State
  | 0, s => ([], s)
  | k + 1, s =>
    let h := s.dcf n
    if rsNewest h.acc > pos then ([], s)
    else
      let sum := rsSum s n h.rhist h.acc
      let y := quant (21 + fb) true sum.1
      let o : ChainOut := ⟨rsName h.anchor (s.tIn n * 2 ^ s.nStage n) h.acc, y.1, sum.2, h.acc⟩
      let h' := rsAdvance s n h
      let s := noteSat n true y.2 (s.setDcf n h')
      let r := rsOutputs n fb (if h'.acc < h.acc then pos - 2 ^ 32 else pos) k s
      (o :: r.1, r.2)

/-- The resampler takes the word `v` named `u` ticks (R127, R128). -/
def rsWord (n fb : Nat) (u v : Int) (tags : Nat) (s : State) : List ChainOut × State :=
  let tr : Int := (s.tIn n * 2 ^ s.nStage n : Nat)
  let h := s.dcf n
  let pos := (u - h.anchor) / tr
  let l := (⟨pos, v, tags⟩ : HWord) :: h.rhist.filter (fun w => decide (w.p > pos - 32) && decide (w.p ≠ pos))
  rsOutputs n fb pos 3 (s.setDcf n { h with rhist := l })

/-- One output word leaves the chain: SETTLE while the settling count runs (R133), then to the consumers. -/
def emitWord (n : Nat) (o : ChainOut) (s : State) : State :=
  let left := s.rn (Reg.DCF_SETTLE_LEFT n)
  let tags := if left = 0 then o.tags else orTags o.tags tagSETTLE
  let h := s.dcf n
  let s := (s.setDcf n { h with first := false }).wn (Reg.DCF_SETTLE_LEFT n) (left - 1)
  s.publish (srcDcf n) (.word { w := mkWord o.v tags, name := tsWrap o.name, acc := o.acc, rst := h.first })

/-- The blocks of a chain on one input word named `u` ticks (R114). Tags a chain never sets or passes are TRG and SOP
(R47, R118). With the DC blocker off the first stage sums s1.17 words exactly, with 38 fraction bits (DESIGN CHOICE, log 154). -/
def chainBlocks (n : Nat) (u x : Int) (tags : Nat) (s : State) : List ChainOut × State :=
  let tags := orTags (tags % 16 - tags % 2) (tags / 32 % 2 * 32)
  let r := if s.dcbOn n then dcbWord n u x s else (x, s)
  let fb := if s.dcbOn n then (if s.nBlocks n = 1 then 17 else 15) else 17
  let q := stages n (r.2.nStage n) 1 fb u r.1 tags r.2
  match q with
  | (none, s) => ([], s)
  | (some (u, v, tags, fb), s) => if s.rsOn n then rsWord n fb u v tags s else ([⟨u * 256, v, tags, 0⟩], s)

/-- A settling whose last word has been delivered is complete (R133, R138). -/
def settleDone (n : Nat) (s : State) : State :=
  if s.dcfState n = 2 ∧ s.rn (Reg.DCF_SETTLE_LEFT n) = 0 then settled n s else s

/-- The name `u`, in ticks, of the word that follows one named `last`: counted on where the tick count wraps (R10). -/
def nameAfter (last : Option Int) (u : Int) : Int :=
  match last with
  | none => u
  | some l => l + sext 64 (unsx 64 (u - l))

/-- A chain in WAITING, SETTLING or RUNNING takes a word of its source (R114, R132 to R138). -/
def chainTake (n : Nat) (q : QWord) (s : State) : State :=
  let u := nameAfter (s.dcf n).lastIn (q.name / 256)
  let tags := wTags q.w
  -- a settling that has been delivered completes before the next word is taken
  let s := settleDone n s
  let h := s.dcf n
  let cause := s.dcfState n == 1 || hasTag tags tagGAP || h.sync || h.armed || h.late || syncAtReached h u
  let s := if cause then syncReset n u (hasTag tags tagGAP) h.late s else s
  let s := s.setDcf n { s.dcf n with lastIn := some u }
  if s.nBlocks n = 0 then emitWord n ⟨q.name, wData q.w, tags, 0⟩ s
  else
    let r := chainBlocks n u (wData q.w) tags s
    r.1.foldl (fun s o => emitWord n o s) r.2

/-- A chain's source stream ends (R137, R138): every output whose inputs have arrived has left; the chain returns to
WAITING, a pending SYNC_AT is cancelled, and the end passes on to the chain's consumers (06 R150). -/
def chainSourceEnd (n : Nat) (s : State) : State :=
  if s.dcfState n = 2 ∨ s.dcfState n = 3 then
    let s := settleDone n s
    let s := s.setDcf n { s.dcf n with syncAt := none, late := false, sync := false, lastIn := none }
    let s := (s.put (Reg.DCF_STATUS n) F.DCF_STATUS_SYNC_PENDING 0).setDcfState n 1
    s.publish (srcDcf n) .endStream
  else s

/-- The chain takes the item at the head of its queue. -/
def chainStep (n : Nat) (s : State) : State :=
  if s.ackHeld (s.get (Reg.DCF_CTL n) F.DCF_CTL_SRC) (s.queue (qDcf n)) then s
  else
  match s.queue (qDcf n) with
  | [] => s
  | i :: t =>
    let s := s.setQueue (qDcf n) t
    match i with
    | .endStream => chainSourceEnd n s
    | .word q => if s.dcfState n = 0 then s else chainTake n q s

/-- DCB_BLOCK_END (R119): the block whose last word the chain has taken updates *d*; with none there is no effect. -/
def execDcbBlockEnd (n : Fin 32) (s : State) : Host.Outcome State Fault Refusal := .next (blockEnd n s)

/-- SETTLING_COMPLETE (R133): SETTLE_LEFT has reached 0; otherwise there is no effect. -/
def execSettlingComplete (n : Fin 32) (s : State) : Host.Outcome State Fault Refusal :=
  .next (settleDone n s)

/-- The chain ends its output at once and is STOPPED (R138). What waits for it is dropped. -/
def stopChain (n : Nat) (s : State) : State :=
  if s.dcfState n = 0 then s
  else
    let run := s.dcfState n == 2 || s.dcfState n == 3
    let s := settleDone n (blockEnd n s)
    let s := s.setDcf n { s.dcf n with syncAt := none, late := false, sync := false, armed := false, lastIn := none }
    let s := (s.put (Reg.DCF_STATUS n) F.DCF_STATUS_SYNC_PENDING 0).setDcfState n 0
    let s := s.setQueue (qDcf n) []
    if run then s.publish (srcDcf n) .endStream else s

/-- A trigger unit watches the chain directly (06 R140, R141). -/
def State.truWatches (s : State) (u n : Nat) : Bool :=
  decide (s.get (Reg.TRU_CTL u) F.TRU_CTL_TYPE ≤ 4) && decide (s.get (Reg.TRU_CTL u) F.TRU_CTL_SRC = srcDcf n)

/-- The members of a PATTERN or SEQUENCE unit; none of any other (06 R156, R157). -/
def State.truMembers (s : State) (u : Nat) : List Nat :=
  match s.get (Reg.TRU_CTL u) F.TRU_CTL_TYPE with
  | 5 => (List.range 32).filter (fun m => bitOf (s.rn (Reg.TRU_MEMBERS u)) m)
  | 6 => [s.get (Reg.TRU_SEQ u) F.TRU_SEQ_ARM, s.get (Reg.TRU_SEQ u) F.TRU_SEQ_FIRE]
  | _ => []

/-- A running group takes triggers from a unit whose source is the chain, directly or as a member (R138): a unit bound to it with
GROUP_EN = 1 (06 R162). -/
def State.chainTriggersRunning (s : State) (n : Nat) : Bool :=
  (List.range 32).any (fun u => s.on (Reg.TRU_CTL u) F.TRU_CTL_GROUP_EN &&
    s.unitRunning (Reg.TRU_STATUS u) && (s.truWatches u n || (s.truMembers u).any (fun m => s.truWatches m n)))

/-- The latency the chain would have with its CTL, STAGE or DCB_CTL replaced. -/
def State.latencyWith (s : State) (n a : Nat) (v : Word) : Nat := (s.applyFields a v).chainLatency n

/-- The checks of a write of DCF_CTL (R126, R138, R139). -/
def dcfCtlCheck (n : Nat) (v : Word) (s : State) : WStat :=
  let chg (f : Fld) : Bool := fldGet f v != s.get (Reg.DCF_CTL n) f
  firstOf [
    (fldGet F.DCF_CTL_RS_PROTO v == 3, .valueRefused),
    (decide (fldGet F.DCF_CTL_NSTAGE v > 10), .valueRefused),
    (s.unitRunning (Reg.DCF_STATUS n), .gated),
    (s.dcfState n != 0 && (chg F.DCF_CTL_RS_PROTO || chg F.DCF_CTL_SRC || chg F.DCF_CTL_NSTAGE || chg F.DCF_CTL_RS_EN), .gated),
    (s.chainTriggersRunning n && s.latencyWith n (Reg.DCF_CTL n) v != s.rn (Reg.DCF_LATENCY n), .gated)]

/-- An accepted write of DCF_CTL: settings, GDELAY and LATENCY, then the chain starts waiting or stops (R138). -/
def dcfCtlApply (n : Nat) (v : Word) (s : State) : State :=
  let s := refreshChain n (s.applyFields (Reg.DCF_CTL n) v)
  if s.on (Reg.DCF_CTL n) F.DCF_CTL_ENABLE then (if s.dcfState n = 0 then s.setDcfState n 1 else s)
  else stopChain n s

/-- A write of DCF_CTL. -/
def writeDcfCtl (n : Nat) (v : Word) (s : State) : WStat × State :=
  s.writeIf (Reg.DCF_CTL n) (dcfCtlCheck n v s) (dcfCtlApply n v)

/-- `v` with bit 0 set or clear: the value of a write of ENABLE. -/
def withEnable (v : Word) (e : Bool) : Word := fldSet ⟨0, 1⟩ v (b2n e)

/-- Command SYNC: a synchronising reset at the next input word; ignored unless SETTLING or RUNNING (R132, R137). -/
def dcfSync (n : Nat) (s : State) : State :=
  if s.dcfState n = 2 ∨ s.dcfState n = 3 then s.setDcf n { s.dcf n with sync := true } else s

/-- DCF_SYNC (R137). -/
def execDcfSync (n : Fin 32) (s : State) : Host.Outcome State Fault Refusal :=
  .next (s.hostReg (Reg.DCF_CMD n) (dcfSync n s))

/-- Command SYNC_AT (R137): pending, or late when its instant is at or before the last word taken; it replaces a pending
one, not the reset owed for a late one, and is ignored unless SETTLING or RUNNING. -/
def dcfSyncAt (n : Nat) (s : State) : State :=
  if s.dcfState n = 2 ∨ s.dcfState n = 3 then
    let t := s.rd64 (Reg.DCF_SYNC_TS_LO n)
    let late := match (s.dcf n).lastIn with
      | none => false
      | some u => decide (0 ≤ sext 64 (unsx 64 (u - (t : Int))))
    (s.setDcf n { s.dcf n with syncAt := if late then none else some t, late := (s.dcf n).late || late }).put (Reg.DCF_STATUS n) F.DCF_STATUS_SYNC_PENDING (b2n (!late))
  else s

/-- DCF_SYNC_AT (R137). -/
def execDcfSyncAt (n : Fin 32) (s : State) : Host.Outcome State Fault Refusal :=
  .next (s.hostReg (Reg.DCF_CMD n) (dcfSyncAt n s))

/-- SYNC_AT_REACHED (R137): the chain takes the word at which its pending SYNC_AT takes effect; no effect while that word
is not at the head of its queue. -/
def syncAtStep (n : Nat) (s : State) : State :=
  match s.queue (qDcf n) with
  | .word q :: _ => if (s.dcf n).late || syncAtReached (s.dcf n) (q.name / 256) then chainStep n s else s
  | _ => s

/-- The checks of the other DCF registers (R126, R127, R138, R139). -/
def dcfRegCheck (n a : Nat) (v : Word) (s : State) : WStat :=
  let stopped := s.dcfState n == 0
  if a = Reg.DCF_STAGE n then
    firstOf [(!stopped, .gated),
      (s.chainTriggersRunning n && s.latencyWith n a v != s.rn (Reg.DCF_LATENCY n), .gated)]
  else if a = Reg.DCF_RS_RATIO n then firstOf [(!bitOf v.toNat 31, .valueRefused)]
  else if a = Reg.DCF_DCB_CTL n then
    let chg (f : Fld) : Bool := fldGet f v != s.get a f
    firstOf [
      (decide (fldGet F.DCF_DCB_CTL_BLK v < 10) || decide (fldGet F.DCF_DCB_CTL_BLK v > 20), .valueRefused),
      (!stopped && (chg F.DCF_DCB_CTL_EN || chg F.DCF_DCB_CTL_A || chg F.DCF_DCB_CTL_BLK), .gated),
      (s.chainTriggersRunning n && s.latencyWith n a v != s.rn (Reg.DCF_LATENCY n), .gated)]
  else if a = Reg.DCF_CMD n then firstOf [(decide (fldGet F.DCF_CMD_OP v > 2), .valueRefused)]
  else if (Reg.DCF_UHB_C n 0 0 ≤ a ∧ a ≤ Reg.DCF_UHB_TAPS n 1) ∨ (Reg.DCF_URS_H n 0 ≤ a ∧ a ≤ Reg.DCF_URS_H n 511) then
    firstOf [(!stopped, .gated)]
  else .ok

/-- An accepted write of a DCF register other than DCF_CTL. Every accepted write of DCF_DCB_CTL forms GDELAY and LATENCY again, one that
leaves EN as it is too (R139; DESIGN CHOICE, log 156). -/
def dcfRegApply (n a : Nat) (v : Word) (s : State) : State :=
  if a = Reg.DCF_CMD n then
    (match fldGet F.DCF_CMD_OP v with
     | 1 => dcfSync n s
     | 2 => dcfSyncAt n s
     | _ => s)
  else if a = Reg.DCF_STAGE n ∨ a = Reg.DCF_DCB_CTL n then refreshChain n (s.applyFields a v)
  else s.applyFields a v

/-- A write of a register of DCF[n]. -/
def writeDcfReg (n a : Nat) (v : Word) (s : State) : WStat × State :=
  if a = Reg.DCF_CTL n then writeDcfCtl n v s else s.writeIf a (dcfRegCheck n a v s) (dcfRegApply n a v)

end Sys2Proof.Machine
end

