-- ==== Sys2Proof/Machine/MonBase.lean ====
section
/-! DEFINITION. The error log, the event counters and the availability accounts, as the rest of the device feeds them
(19_monitoring_and_test.md R473 to R477, R482, R483). -/
namespace Sys2Proof.Machine

/-- Append an entry to the error log (R482). -/
def State.addLog (s : State) (code source info data : Nat) : State :=
  let e : LogEntry := ⟨s.tick, s.rn Reg.CKS_EPOCH, s.rn Reg.MON_LOG_HEAD, code, source, info % 2 ^ 32, data % 2 ^ 64⟩
  let s := s.wn Reg.MON_LOG_HEAD (s.rn Reg.MON_LOG_HEAD + 1)
  if s.log.length < 1024 then { s with log := s.log ++ [e] }
  else
    let first := !s.logWrapped
    let s := { s with log := s.log.drop (s.log.length - 1023) ++ [e], logWrapped := true }
    s.setFlagIf first Reg.MON_FLAGS F.MON_FLAGS_LOG_WRAP

/-- A 64-bit count whose low half is at `a` goes up by `n`, modulo 2^64. -/
def State.bump64 (s : State) (a n : Nat) : State := (s.wr64 a ((s.rd64 a + n) % 2 ^ 64)).noteCount a n

/-- Add to the UP or the DOWN count of a port's account (R483). -/
def State.avUp (s : State) (q n : Nat) : State := s.bump64 (Reg.MON_AV_UP_LO q) n
def State.avDown (s : State) (q n : Nat) : State := s.bump64 (Reg.MON_AV_DOWN_LO q) n

/-- Frame `f` of fast port `q` counts as down, once (R483). A frame is found bad when it is handed over or, later, at the sluice; the
model keeps the latest 256 bad frames of a port. -/
def State.badFrame (s : State) (q f : Nat) : State :=
  let h := lookupD (fun _ => ({} : FchHid)) s.fchs q
  if h.badFrames.contains f then s
  else State.avDown { s with fchs := updateD (fun _ => ({} : FchHid)) s.fchs q { h with badFrames := (f :: h.badFrames).take 256 } } q 1

/-- Stimulus output `n` plays in frame `f`, which counts once (R483). -/
def State.stoUp (s : State) (n f : Nat) : State :=
  let h := lookupD (fun _ => ({} : StoHid)) s.stos n
  if h.upFrame = some f then s
  else State.avUp { s with stos := updateD (fun _ => ({} : StoHid)) s.stos n { h with upFrame := some f } } (112 + n) 1

/-- MODE of counter `c`: 0 OFF, 1 PULSE, 2 HIGH_TIME (R473). -/
def State.cntMode (s : State) (c : Nat) : Nat := s.get (Reg.MON_CNT_CFG c) F.MON_CNT_CFG_MODE
def State.cntSrc (s : State) (c : Nat) : Nat := s.get (Reg.MON_CNT_CFG c) F.MON_CNT_CFG_SRC

/-- A snapshot is pending with an instant *T*, that of its arming, at or before `ts` (R476). -/
def State.snapDue (s : State) (ts : Nat) : Bool :=
  s.get Reg.MON_SNAP_STAT F.MON_SNAP_STAT_STATE == 1 && !tickBefore ts s.mon.snapT

/-- Counter `c` is copied into its snapshot, unless that is done or the counter is OFF (R477). -/
def snapCopy (s : State) (c : Nat) : State :=
  if s.cntMode c = 0 ∨ s.on (Reg.MON_CNT_SNAP_HI c) F.MON_CNT_SNAP_HI_VALID then s
  else
    ((s.wr (Reg.MON_CNT_SNAP_LO c) (s.rd (Reg.MON_CNT_LIVE_LO c))).wn (Reg.MON_CNT_SNAP_HI c)
      (2 ^ 31 + s.get (Reg.MON_CNT_LIVE_HI c) F.MON_CNT_LIVE_HI_COUNT)).wr (Reg.MON_CNT_SNAP_SEQ c) (s.rd Reg.MON_SNAP_SEQ)

/-- Counter `c` counts an event timestamped `ts`: an event at or after *T* falls into the next snapshot (R474, R475, R477). -/
def countEvent (ts : Nat) (s : State) (c : Nat) : State :=
  let s := if s.snapDue ts then snapCopy s c else s
  let n := s.rn (Reg.MON_CNT_LIVE_LO c) + 2 ^ 32 * s.get (Reg.MON_CNT_LIVE_HI c) F.MON_CNT_LIVE_HI_COUNT + 1
  let s := (s.wn (Reg.MON_CNT_LIVE_LO c) (n % 2 ^ 32)).wn (Reg.MON_CNT_LIVE_HI c) (n / 2 ^ 32 % 2 ^ 16)
  let s := s.noteCount (Reg.MON_CNT_LIVE_LO c) 1
  if n < 2 ^ 48 then s
  else ((s.put (Reg.MON_CNT_CFG c) F.MON_CNT_CFG_WRAPPED 1).noteSet (Reg.MON_CNT_CFG c) F.MON_CNT_CFG_WRAPPED.lo).setFlag Reg.MON_FLAGS F.MON_FLAGS_CNT_WRAP

/-- The counters whose configuration differs from its reset word, which is MODE OFF. -/
def State.configured (s : State) : List Nat :=
  (s.regs.filter (fun p => decide (Reg.MON_CNT_CFG 0 ≤ p.1) && decide (p.1 < Reg.MON_CNT_CFG 640) &&
    decide ((p.1 - Reg.MON_CNT_CFG 0) % 0x20 = 0))).map (fun p => (p.1 - Reg.MON_CNT_CFG 0) / 0x20)

/-- The lowest WORST_MARGIN and the lowest reference margin of the health interval (R481). -/
def noteMargin (x : Nat) (s : State) : State :=
  { s with mon := { s.mon with lowMargin := some (min x (s.mon.lowMargin.getD x)) } }
def noteRefMargin (x : Int) (s : State) : State :=
  { s with mon := { s.mon with lowRef := some (min x (s.mon.lowRef.getD x)) } }

/-- CFG_WEAR follows the worst block of the settings log and of the field area, in 0.01 % of 10^8 writes, and WEAR_HIGH sets
as either reaches 80.00 % (17_configuration_images.md R427, R428, R445, R446). -/
def showWear (s : State) : State :=
  let f := min 0xFFFF (s.nv.fieldWrites.foldl (fun m p => max m ((p.2 + 1) / 2)) 0 / 10000)
  let l := min 0xFFFF ((s.nv.logBlocks + 65535) / 65536 / 10000)
  let up := (decide (s.get Reg.CFG_WEAR F.CFG_WEAR_FIELD < 8000) && decide (8000 ≤ f)) ||
    (decide (s.get Reg.CFG_WEAR F.CFG_WEAR_SETTINGS < 8000) && decide (8000 ≤ l))
  (s.wn Reg.CFG_WEAR (65536 * f + l)).setFlagIf up Reg.CFG_FLAGS F.CFG_FLAGS_WEAR_HIGH

/-- The line of a source reads high at the event controller. -/
def State.lineHigh (s : State) (src : Nat) : Bool := s.on (Reg.EVC_SRC_STAT src) F.EVC_SRC_STAT_LIVE

/-- Every PULSE counter of a source counts its set pulse at `ts` (R473, R475). -/
def countPulse (src ts : Nat) (s : State) : State :=
  (s.configured.filter (fun c => decide (s.cntMode c = 1) && decide (s.cntSrc c = src))).foldl (countEvent ts) s

/-- Every HIGH_TIME counter whose source is high counts frame boundary `ts` (R473). -/
def countHigh (ts : Nat) (s : State) : State :=
  (s.configured.filter (fun c => decide (s.cntMode c = 2) && s.lineHigh (s.cntSrc c))).foldl (countEvent ts) s

end Sys2Proof.Machine
end

