-- ==== Sys2Proof/Machine/Spur.lean ====
section
/-! DEFINITION. The residual-spur figures of 04_interleave_calibration.md R109, computed in integers: cosines, square roots and
arctangents to a hundred binary places, the level by comparing powers. -/
namespace Sys2Proof.Machine

/-- One, in the fixed point of this file: 2^100. -/
def fixOne : Int := 2 ^ 100

/-- π in that fixed point. -/
def fixPi : Int := 3982441812995697363688351113952

/-- Product and quotient in the fixed point. -/
def fixMul (a b : Int) : Int := a * b / fixOne
def fixDiv (a b : Int) : Int := a * fixOne / b

/-- The integer square root: bits `b` and below of it are still to be found, `r` holds those above. -/
def sqrtBits (n : Nat) : Nat → Nat → Nat
  | 0, r => r
  | b + 1, r => sqrtBits n b (if (r + 2 ^ b) * (r + 2 ^ b) ≤ n then r + 2 ^ b else r)

/-- The square root of a number that is not negative. -/
def fixSqrt (a : Int) : Int := Int.ofNat (sqrtBits (a * fixOne).toNat 130 0)

/-- The series `t − t·y/(i·(i+1)) + …` of a cosine (`i` = 1) or sine (`i` = 2), `y` the angle's square. -/
def trigSeries (y : Int) : Nat → Int → Int → Int
  | 0, _, _ => 0
  | k + 1, i, t => t + trigSeries y k (i + 2) (-(fixMul t y / (i * (i + 1))))

/-- Cosine and sine of an angle up to π/4. -/
def cosSmall (x : Int) : Int := trigSeries (fixMul x x) 20 1 fixOne
def sinSmall (x : Int) : Int := trigSeries (fixMul x x) 20 2 x

/-- cos(2π·m/128) for `m` below 128. -/
def cosPoint (m : Nat) : Int :=
  let half (i : Nat) : Int :=
    if i ≤ 16 then cosSmall (fixPi * i / 64) else sinSmall (fixPi * (32 - i : Nat) / 64)
  let i := if m ≤ 64 then m else 128 - m
  if i ≤ 32 then half i else -half (64 - i)

/-- The series of an arctangent, `y` the square of its argument. -/
def atanSeries (y : Int) : Nat → Int → Int → Int
  | 0, _, _ => 0
  | k + 1, i, p => p / i + atanSeries y k (i + 2) (-fixMul p y)

/-- arctan `x`: an argument above 1 by its reciprocal, then three halvings. -/
def fixAtan (x : Int) : Int :=
  let half (z : Int) : Int := fixDiv z (fixOne + fixSqrt (fixOne + fixMul z z))
  let pos (z : Int) : Int := let h := half (half (half z)); 8 * atanSeries (fixMul h h) 24 1 h
  let up (z : Int) : Int := if z ≤ fixOne then pos z else fixPi / 2 - pos (fixDiv fixOne z)
  if x < 0 then -up (-x) else up x

/-- *f*_c in GHz of a bandwidth code (03_fast_inputs.md R71). -/
def bwlGHz (b : Nat) : Int := match b with
  | 0 => 6
  | 1 => 3
  | _ => 1

/-- *g*_j and 2π·*f*_ref·*t*_j of a slice (R109), its errors in 1/512 trim step: 0.002 %, 2 fs and 0.25 % a step. -/
def sliceError (b : Nat) (e : Quad) : Int × Int :=
  let x0 := fixOne / bwlGHz b
  let xj := fixOne * 204800 / (bwlGHz b * (204800 + e.bw))
  let r (x : Int) : Int := fixSqrt (fixOne + fixMul x x)
  (fixOne * e.gain / 25600000 + fixDiv (r x0) (r xj) - fixOne,
   2 * fixPi * e.skew / 256000000 + fixAtan xj - fixAtan x0)

/-- |Σ_j *z*_j · e^(−2πi·*jk*/*N*)|² over *N* slices, `cs` the cosines of 128 points and `st` = 128/*N*. -/
def binPower (cs : List Int) (st : Nat) (z : List (Int × Int)) (k : Nat) : Nat :=
  let t := ((List.range z.length).zip z).foldl (fun (a : Int × Int) p =>
    let m := p.1 * k * st % 128
    let c := cs.getD m 0
    let s := cs.getD ((m + 96) % 128) 0
    (a.1 + p.2.1 * c + p.2.2 * s, a.2 + p.2.2 * c - p.2.1 * s)) (0, 0)
  (t.1 * t.1 + t.2 * t.2).toNat

/-- 10^((2v−1)/200) ≤ `num`/`den`: the level 10·log10 of that ratio is at least `v` − 1/2 in 0.1 dB. -/
def levelAtLeast (num den : Nat) (v : Int) : Bool :=
  let e := 2 * v - 1
  if 0 ≤ e then decide (10 ^ e.toNat * den ^ 200 ≤ num ^ 200) else decide (den ^ 200 ≤ num ^ 200 * 10 ^ (-e).toNat)

/-- The largest level from `v` up that is reached, by halving steps of 2^b. -/
def levelSearch (num den : Nat) : Nat → Int → Int
  | 0, v => v
  | b + 1, v => levelSearch num den b (if levelAtLeast num den (v + 2 ^ b) then v + 2 ^ b else v)

/-- 10·log10(`num`/`den`) in 0.1 dB, from −3,276.7 dB up. -/
def levelOf (num den : Nat) : Int := levelSearch num den 16 (-32767)

/-- The level of a power `num`/`den` known to one part in 2^40. Where both ends of that interval round alike that is the level; else
an opaque choice takes one of the two, and below −300 dB, where the arithmetic of this file tells nothing, an opaque value stands
(DESIGN CHOICE, log entry 11). -/
def levelNear (open_ : Int) (up : Bool) (num den : Nat) : Int :=
  if num * 2 ^ 100 < den then open_
  else
    let lo := levelOf (num * (2 ^ 40 - 1)) (den * 2 ^ 40)
    let hi := levelOf (num * (2 ^ 40 + 1)) (den * 2 ^ 40)
    if up then hi else lo

/-- The cosines of the 128 points. -/
def cosTable : List Int := (List.range 128).map cosPoint

/-- The operands of the opaque choices. -/
def quadTuple (e : Quad) : Int × Int × Int × Int := (e.ofs, e.gain, e.skew, e.bw)

/-- SPUR_GS in 0.1 dB (R109). Equal errors of every slice give no spur. A fractional bandwidth error of −1 has no *x*_j: the figure
is open. -/
def spurGs (b : Nat) (es : List Quad) : Int :=
  let n := es.length
  let k := es.map quadTuple
  if es.all (fun e => decide (e.gain = (es.headD {}).gain ∧ e.skew = (es.headD {}).skew ∧ e.bw = (es.headD {}).bw)) then -32767
  else if es.any (fun e => decide (e.bw = -204800)) then Config.spurOpen n b k
  else
    let z := es.map (sliceError b)
    let cs := cosTable
    let p := ((List.range (n - 1)).map (fun i => binPower cs (128 / n) z (i + 1))).foldl max 0
    levelNear (Config.spurOpen n b k) (Config.spurSel n b k) p (n * n * fixOne.toNat ^ 4)

/-- SPUR_OFS in 0.1 dB (R109): *o*_j is the offset error in LSB12, 1/32 LSB12 a step; *a*_k is 2 but for *k* = *N*/2. -/
def spurOfs (es : List Quad) : Int :=
  let n := es.length
  let k := es.map quadTuple
  if es.all (fun e => decide (e.ofs = (es.headD {}).ofs)) then -32767
  else
    let z := es.map (fun e => (e.ofs, 0))
    let cs := cosTable
    let p := ((List.range (n / 2)).map (fun i => (if i + 1 = n / 2 then 1 else 4) * binPower cs (128 / n) z (i + 1))).foldl max 0
    levelNear (Config.spurOpen n 4 k) (Config.spurSel n 4 k) p (n * n * (fixOne.toNat * 16384 * 2048) ^ 2)

end Sys2Proof.Machine
end

