-- ==== Sys2Proof/Machine/Calib.lean ====
section
/-! DEFINITION. Interleave calibration: steps, guarded steps, schedule, holds, commands, trims, spur figures
(04_interleave_calibration.md). Measured errors are operands, in units of 1/256 trim step (DESIGN CHOICE). -/
namespace Sys2Proof.Machine

/-- Length of a frame in ticks (01_architecture.md R26). -/
def frameTicks : Nat := 1024

/-- A tick count is a frame boundary. -/
def isFrame (t : Nat) : Bool := t % frameTicks == 0

/-- The agreement tolerance of R93 in 1/256 trim step: 0.5 LSB12, 0.005 %, 20 fs, 1 step. -/
def within (tol a b : Int) : Bool := decide (a - b ≤ tol) && decide (b - a ≤ tol)

/-- Two measurements agree (R95). -/
def agree (a b : Quad) : Bool :=
  within 4096 a.ofs b.ofs && within 640 a.gain b.gain && within 2560 a.skew b.skew && within 256 a.bw b.bw

/-- The mean of two errors in 1/256 step, doubled; the mean in whole steps rounded half to even (R95). -/
def sumQ (a b : Quad) : Quad := ⟨a.ofs + b.ofs, a.gain + b.gain, a.skew + b.skew, a.bw + b.bw⟩
def meanSteps (a b : Quad) : Quad :=
  let t := sumQ a b
  ⟨rne 9 t.ofs, rne 9 t.gain, rne 9 t.skew, rne 9 t.bw⟩

/-- `x` held between `lo` and `hi`. -/
def clampI (lo hi x : Int) : Int := if x < lo then lo else if x > hi then hi else x

/-- Trims held in the ranges of R93. -/
def clampQ (q : Quad) : Quad :=
  ⟨clampI (-512) 511 q.ofs, clampI (-512) 511 q.gain, clampI (-2048) 2047 q.skew, clampI 0 63 q.bw⟩

/-- Trims after a correction (R95). -/
def subQ (a b : Quad) : Quad := ⟨a.ofs - b.ofs, a.gain - b.gain, a.skew - b.skew, a.bw - b.bw⟩

/-- The registers of slice `j` of port `q`: slices 64 to 127 of a paired port appear in its partner's (R112). -/
def trimA (q j : Nat) : Nat :=
  if j < 64 then Reg.FCAL_P_TRIMA (q / 4) (q % 4) j else Reg.FCAL_P_TRIMA ((q + 1) / 4) ((q + 1) % 4) (j - 64)
def trimB (q j : Nat) : Nat := trimA q j + 4

/-- The trims that a pair of trim registers holds (R93). -/
def readTrims (s : State) (a : Nat) : Quad :=
  ⟨sext 10 (s.get a F.FCAL_P_TRIMA_OFFSET), sext 10 (s.get a F.FCAL_P_TRIMA_GAIN),
   sext 12 (s.get (a + 4) F.FCAL_P_TRIMB_SKEW), (s.get (a + 4) F.FCAL_P_TRIMB_BW : Nat)⟩

/-- Store trims into a pair of trim registers. -/
def writeTrims (a : Nat) (q : Quad) (s : State) : State :=
  (s.wn a (2 ^ 16 * unsx 10 q.gain + unsx 10 q.ofs)).wn (a + 4) (2 ^ 16 * unsx 12 q.skew + unsx 6 q.bw)

/-- The slices of a port: 64, or 128 in paired mode (R97). -/
def State.nSlices (s : State) (q : Nat) : Nat := if s.paired q then 128 else 64

/-- The factory trims of slice `j` of port `q`, of the partner for slices 64 and up (R108). -/
def factoryQ (q j : Nat) : Quad :=
  let t := if j < 64 then Config.factoryTrim q j else Config.factoryTrim (q + 1) (j - 64)
  clampQ ⟨t.1, t.2.1, t.2.2.1, t.2.2.2⟩

/-- The factory trims of spare `k` of tile `t` (R108). -/
def factorySpareQ (t k : Nat) : Quad :=
  let x := Config.factorySpare t k
  clampQ ⟨x.1, x.2.1, x.2.2.1, x.2.2.2⟩

/-- The newer valid copy of the field trim set of a port; none where the store holds none (17_configuration_images.md R428). -/
def State.fieldSet (s : State) (q : Nat) : List (Nat × Quad) := lookupD (fun _ => []) s.fieldTrims q

/-- The trims a port loads for slice `j`: its field set where it holds the slice, else the factory set (R88, R108). -/
def loadQ (s : State) (q j : Nat) : Quad :=
  match (s.fieldSet q).find? (fun p => p.1 == j) with
  | some p => p.2
  | none => factoryQ q j

/-- Load the slices of a port from its field or factory set (R88, 17 R428). -/
def loadTrims (q : Nat) (s : State) : State :=
  (List.range (s.nSlices q)).foldl (fun t j => writeTrims (trimA q j) (loadQ s q j) t) s

/-- The spares of a tile hold their factory trims from the first entry of one of its ports to RUNNING (R108). -/
def loadSpares (t : Nat) (s : State) : State :=
  if (s.calTile t).sparesLoaded then s
  else
    let s := s.setCalTile t { s.calTile t with sparesLoaded := true }
    (List.range 4).foldl (fun s k => writeTrims (Reg.FCAL_SP_TRIMA t k) (factorySpareQ t k) s) s

/-- Port registers of the tile block. -/
def calFlags (q : Nat) : Nat := Reg.FCAL_P_FLAGS (q / 4) (q % 4)
def calState (q : Nat) : Nat := Reg.FCAL_P_STATE (q / 4) (q % 4)

/-- A port that has no slices 64 to 127 steps through its own from 0 again (R97, R112; DESIGN CHOICE, log entry 122). -/
def fixSlice (q : Nat) (s : State) : State :=
  if s.get (calState q) F.FCAL_P_STATE_NEXT_SLICE < s.nSlices q then s
  else (s.put (calState q) F.FCAL_P_STATE_NEXT_SLICE 0).put (calState q) F.FCAL_P_STATE_ATTEMPT 0

/-- No figure (R109). -/
def noSpur (q : Nat) (s : State) : State := s.wn (Reg.FCAL_P_SPUR (q / 4) (q % 4)) 0x80008000

/-- CONVERGED clears and the figures read "no figure" (R109). -/
def unconverge (q : Nat) (s : State) : State :=
  noSpur q ((s.setCalPort q { s.calPort q with errs := [], agreed := [] }).put (calState q) F.FCAL_P_STATE_CONVERGED 0)

/-- The residual-spur figures of a converged port, held within −3,276.7 dB and the field, and SPUR_HIGH (R109, R110). -/
def spurUpdate (q : Nat) (s : State) : State :=
  if s.on (calState q) F.FCAL_P_STATE_CONVERGED = false then s
  else
    let n := s.nSlices q
    let es := (List.range n).map (fun j => lookupD (fun _ => ({} : Quad)) (s.calPort q).errs j)
    let gs := clampI (-32767) 32767 (spurGs (s.get (Reg.FCH_CTL q) F.FCH_CTL_BWL) es)
    let os := clampI (-32767) 32767 (spurOfs es)
    let s := s.wn (Reg.FCAL_P_SPUR (q / 4) (q % 4)) (2 ^ 16 * unsx 16 os + unsx 16 gs)
    s.setFlagIf (decide (gs > sext 16 (s.get (Reg.FCAL_SPUR_LIMIT (q / 4)) F.FCAL_SPUR_LIMIT_LIMIT))) (calFlags q)
      F.FCAL_P_FLAGS_SPUR_HIGH

/-- The spares of a tile that are serviceable (R101). -/
def State.spareOk (s : State) (t k : Nat) : Bool := bitOf (s.get (Reg.FCAL_STATUS t) F.FCAL_STATUS_SPARE_OK) k

/-- GUARD_ACTIVE follows GUARD and the spares (R102, R112). -/
def refreshGuard (t : Nat) (s : State) : State :=
  s.put (Reg.FCAL_STATUS t) F.FCAL_STATUS_GUARD_ACTIVE
    (b2n (decide (s.get (Reg.FCAL_CTL t) F.FCAL_CTL_GUARD < 4) && (List.range 4).any (s.spareOk t)))

/-- Port `q` has a step or command waiting. -/
def CalPort.waits (p : CalPort) : Bool := p.sched || p.cmd != 0

/-- FCAL_STATUS.PENDING follows the ports' waiting work. -/
def refreshPending (t : Nat) (s : State) : State :=
  s.put (Reg.FCAL_STATUS t) F.FCAL_STATUS_PENDING
    (ofBits ((List.range 4).map (fun i => (s.calPort (4 * t + i)).waits)))

/-- FCAL_STATUS follows the tile's running step (R112). -/
def showStep (t : Nat) (s : State) : State :=
  let s := match (s.calTile t).run with
    | none =>
      ((s.put (Reg.FCAL_STATUS t) F.FCAL_STATUS_ACTIVE 0).put (Reg.FCAL_STATUS t) F.FCAL_STATUS_PHASE 0).put
        (Reg.FCAL_STATUS t) F.FCAL_STATUS_ACTIVE_PORT 0
    | some r =>
      ((s.put (Reg.FCAL_STATUS t) F.FCAL_STATUS_ACTIVE 1).put (Reg.FCAL_STATUS t) F.FCAL_STATUS_PHASE r.phase).put
        (Reg.FCAL_STATUS t) F.FCAL_STATUS_ACTIVE_PORT r.port
  refreshPending t s

/-- Set the tile's running step. -/
def setRun (t : Nat) (r : Option CalStep) (s : State) : State :=
  showStep t (s.setCalTile t { s.calTile t with run := r })

/-- The port withholds its samples from the frame that begins now (R98). -/
def holdPort (q : Nat) (s : State) : State :=
  let h := s.fch q
  if h.hold ∧ h.holdTo = some s.tick then s.setFch q { h with holdTo := none }
  else s.setFch q { h with hold := true, holdFrom := s.tick, holdTo := none }

/-- The port delivers again with the frame that begins now; its first word carries GAP (R98, R107). -/
def releasePort (q : Nat) (s : State) : State :=
  s.setFch q { s.fch q with holdTo := some s.tick, gapFirst := true }

/-- The port is the guarded port of its tile, with a spare serviceable (R99, R102). -/
def State.guardActive (s : State) (q : Nat) : Bool :=
  decide (s.get (Reg.FCAL_CTL (q / 4)) F.FCAL_CTL_GUARD = q % 4) &&
    s.on (Reg.FCAL_STATUS (q / 4)) F.FCAL_STATUS_GUARD_ACTIVE

/-- DEFER holds a scheduled step of the port now (R105). Whether the port is guarded is read from GUARD at once for a step that waits
(DESIGN CHOICE, log 152). -/
def State.defers (s : State) (q : Nat) : Bool :=
  let g := s.gst (s.groupOf (Reg.FCH_STATUS q))
  !s.guardActive q &&
    match s.get (Reg.FCAL_CTL (q / 4)) F.FCAL_CTL_DEFER with
    | 1 => g == gFilling
    | 2 => g == gArming || g == gArmed || g == gFilling
    | _ => false

/-- The port's MODE is not NORMAL (03 R80). -/
def State.notNormal (s : State) (q : Nat) : Bool := s.get (Reg.FCH_CTL q) F.FCH_CTL_MODE != 0

/-- The step interval *I* of a tile in ticks (R103). -/
def State.calInterval (s : State) (t : Nat) : Nat := s.get (Reg.FCAL_INTERVAL t) F.FCAL_INTERVAL_MS * 163840000

/-- A step of the port can fall due: its SCHED_EN bit is 1 and it is RUNNING (R103). -/
def State.schedules (s : State) (q : Nat) : Bool :=
  bitOf (s.get (Reg.FCAL_CTL (q / 4)) F.FCAL_CTL_SCHED_EN) (q % 4) && s.fchState q == 2

/-- A scheduled step falls due at this tick (R103); a due instant adds nothing while one waits (R104). -/
def stepDue (q : Nat) (s : State) : State :=
  let iv := s.calInterval (q / 4)
  if s.schedules q = false ∨ s.tick % iv ≠ q % 4 * (iv / 4) ∨ (s.calPort q).sched ∨ (s.calPort q).lastDue = some s.tick then s
  else
    let p := { s.calPort q with sched := true, heldSince := if s.defers q then some s.tick else none, released := false, lastDue := some s.tick }
    refreshPending (q / 4) (s.setCalPort q p)

/-- STEP_DUE (R103). -/
def execStepDue (q : Fin 16) (s : State) : Host.Outcome State Fault Refusal := .next (stepDue q s)

/-- DEFER begins to hold a waiting step that it has not held before (R105). -/
def noteHold (s : State) (q : Nat) : State :=
  let p := s.calPort q
  if p.sched ∧ p.released = false ∧ p.heldSince.isNone ∧ s.defers q then s.setCalPort q { p with heldSince := some s.tick } else s

/-- The holds that begin with the present control cycle. -/
def noteHolds (s : State) : State := (s.calPorts.map (fun p => p.1)).foldl noteHold s

/-- A held step is released at a frame boundary at which nothing holds it (R105). -/
def stepRelease (q : Nat) (s : State) : State :=
  let p := s.calPort q
  if isFrame s.tick ∧ p.sched ∧ p.heldSince.isSome ∧ p.released = false ∧ s.defers q = false ∧ s.notNormal q = false then
    s.setCalPort q { p with released := true, heldSince := none }
  else s

/-- STEP_RELEASE (R105). -/
def execStepRelease (q : Fin 16) (s : State) : Host.Outcome State Fault Refusal := .next (stepRelease q s)

/-- A step held for DEFER_MAX seconds is released at once (R105). One second is 163,840,000,000 ticks. -/
def deferExpired (q : Nat) (s : State) : State :=
  let p := s.calPort q
  match p.heldSince with
  | none => s
  | some h =>
    if p.sched ∧ p.released = false ∧ s.notNormal q = false ∧
        tickDiff s.tick h ≥ ((s.get (Reg.FCAL_DEFER_MAX (q / 4)) F.FCAL_DEFER_MAX_S * 163840000000 : Nat) : Int) then
      (s.setCalPort q { p with released := true, heldSince := none }).setFlag (calFlags q) F.FCAL_P_FLAGS_DEFER_EXPIRED
    else s

/-- DEFER_EXPIRED (R105). -/
def execDeferExpired (q : Fin 16) (s : State) : Host.Outcome State Fault Refusal := .next (deferExpired q s)

/-- A scheduled step of the port waits and nothing holds it: it was released, or DEFER has not held it and does not now; the port's
MODE is NORMAL (R105, 03 R80). -/
def State.schedFree (s : State) (q : Nat) : Bool :=
  let p := s.calPort q
  p.sched && !s.notNormal q && (p.released || (p.heldSince.isNone && !s.defers q))

/-- The port has work that may start: a FULL that goes on, a scheduled step that nothing holds, or a command. -/
def State.ready (s : State) (q : Nat) : Bool :=
  let p := s.calPort q
  s.fchState q == 2 && (decide (p.fullLeft > 0) || s.schedFree q || p.cmd != 0)

/-- The port whose step starts next on a tile: a FULL in progress goes on without pause (R106), else the lowest port
index with waiting work (R104). -/
def State.nextPort (s : State) (t : Nat) : Option Nat :=
  match (List.range 4).find? (fun i => decide ((s.calPort (4 * t + i)).fullLeft > 0) && s.ready (4 * t + i)) with
  | some i => some i
  | none => (List.range 4).find? (fun i => s.ready (4 * t + i))

/-- The serviceable spare a guarded step uses, in the order of R101. -/
def State.pickSpare (s : State) (t : Nat) : Option Nat :=
  ((List.range 4).map (fun j => ((s.calTile t).nextSpare + j) % 4)).find? (s.spareOk t)

/-- The work the step takes away from the port's waiting list: a FULL's next step takes none; a scheduled step goes before
a command (DESIGN CHOICE). -/
def takeWork (s : State) (q : Nat) : CalPort :=
  let p := s.calPort q
  if p.fullLeft > 0 then p
  else if s.schedFree q then { p with sched := false, released := false, heldSince := none }
  else if p.cmd = 2 then { p with cmd := 0, fullLeft := s.nSlices q }
  else { p with cmd := 0 }

/-- A step of port index `i` starts on tile `t` at this frame boundary (R94, R99 to R102, R104). -/
def startStep (t i : Nat) (s : State) : State :=
  let q := 4 * t + i
  let slice := s.get (calState q) F.FCAL_P_STATE_NEXT_SLICE
  let s := s.setCalPort q (takeWork s q)
  let named := decide (s.get (Reg.FCAL_CTL t) F.FCAL_CTL_GUARD = i)
  match (if named then s.pickSpare t else none) with
  | some k =>
    let s := s.setCalTile t { s.calTile t with nextSpare := (k + 1) % 4 }
    setRun t (some { port := i, slice := slice, guarded := true, spare := k, start := s.tick, phase := 2 }) s
  | none =>
    let s := s.setFlagIf named (Reg.FCAL_FLAGS t) F.FCAL_FLAGS_GUARD_LOST
    setRun t (some { port := i, slice := slice, guarded := false, spare := 0, start := s.tick, phase := 1 }) (holdPort q s)

/-- A waiting step begins at a frame boundary at which the tile is free (R104, R105). -/
def stepStart (t : Nat) (s : State) : State :=
  if isFrame s.tick = false ∨ (s.calTile t).run.isSome then s
  else
    match s.nextPort t with
    | none => s
    | some i => startStep t i s

/-- STEP_START (R104). -/
def execStepStart (t : Fin 4) (s : State) : Host.Outcome State Fault Refusal := .next (stepStart t s)

/-- Write the field trim set of a port to the calibration store (R106, R108): to the older of its two copies, so that the copy written
before stands beside it (17_configuration_images.md R428; its place in the count of the port's writes is its sequence number). The set of a paired port has 128 entries under the even
port, the partner's own set is kept beside it, and a later write of the unpaired port has 64 (DESIGN CHOICE, log entry 123). -/
def storeTrims (q : Nat) (l : List (Nat × Quad)) (s : State) : State :=
  let old := updateD (fun _ => []) s.nv.fieldOld q (s.fieldSet q)
  let s := { s with fieldTrims := updateD (fun _ => []) s.fieldTrims q l }
  let w := updateD (fun _ => 0) s.nv.fieldWrites q (lookupD (fun _ => 0) s.nv.fieldWrites q + 1)
  showWear { s with nv := { s.nv with fieldWrites := w, fieldOld := old } }

/-- The slice is done with: the port moves on, a full cycle ends at the last slice with the write-back of R108, and a FULL
has one slice fewer to go (R96, R97, R106). A cycle is taken to end at the highest slice index, wherever a FULL began (DESIGN CHOICE,
log entry 124). -/
def moveOn (q : Nat) (s : State) : State :=
  let n := s.nSlices q
  let j := s.get (calState q) F.FCAL_P_STATE_NEXT_SLICE
  let s := (s.put (calState q) F.FCAL_P_STATE_ATTEMPT 0).put (calState q) F.FCAL_P_STATE_NEXT_SLICE ((j + 1) % n)
  let s := s.setCalPort q { s.calPort q with fullLeft := (s.calPort q).fullLeft - 1 }
  if j + 1 = n ∧ s.on (Reg.FCAL_CTL (q / 4)) F.FCAL_CTL_WRITEBACK then
    storeTrims q ((List.range n).map (fun j => (j, readTrims s (trimA q j)))) s
  else s

/-- A failed attempt on the port's current slice (R96): DISCNT and ATTEMPT rise; the fourth sets CAL_DISAGREE. Answers
whether the port is to move on. -/
def failAttempt (q : Nat) (s : State) : Bool × State :=
  let a := s.get (calState q) F.FCAL_P_STATE_ATTEMPT
  let s := s.bump (Reg.FCAL_P_DISCNT (q / 4) (q % 4)) 1
  if a ≥ 3 then (true, s.setFlag (calFlags q) F.FCAL_P_FLAGS_CAL_DISAGREE)
  else (false, s.put (calState q) F.FCAL_P_STATE_ATTEMPT (a + 1))

/-- Judge the two measurements of slice `j` of port `q` (R95, R96, R109): correct the trims or keep them. Answers whether
the port is to move on, and whether they agreed. -/
def judgeStep (q j : Nat) (e1 e2 : Quad) (s : State) : Bool × Bool × State :=
  if agree e1 e2 then
    let t := subQ (readTrims s (trimA q j)) (meanSteps e1 e2)
    let c := clampQ t
    let s := (writeTrims (trimA q j) c s).setFlagIf (decide (c ≠ t)) (calFlags q) F.FCAL_P_FLAGS_TRIM_LIMIT
    let p := s.calPort q
    let ag := if p.agreed.contains j then p.agreed else j :: p.agreed
    let s := s.setCalPort q { p with agreed := ag, errs := updateD (fun _ => ({} : Quad)) p.errs j (sumQ e1 e2) }
    let s := if ag.length ≥ s.nSlices q then s.put (calState q) F.FCAL_P_STATE_CONVERGED 1 else s
    (true, true, s)
  else
    let r := failAttempt q s
    (r.1, false, r.2)

/-- The end of an ordinary step: frame 1,536 (R94 to R98). -/
def stepEnd (t : Nat) (e1 e2 : Quad) (s : State) : State :=
  match (s.calTile t).run with
  | none => s
  | some r =>
    if r.phase ≠ 1 ∨ tickDiff s.tick r.start < 1536 * 1024 then s
    else
      let q := 4 * t + r.port
      let j := judgeStep q r.slice e1 e2 s
      let s := if j.1 then moveOn q j.2.2 else j.2.2
      let s := if j.2.1 then spurUpdate q s else s
      let s := s.bump (Reg.FCAL_P_STEPCNT t r.port) 1
      setRun t none (releasePort q s)

/-- STEP_END (R95). -/
def execStepEnd (t : Fin 4) (e1 e2 : Quad) (s : State) : Host.Outcome State Fault Refusal := .next (stepEnd t e1 e2 s)

/-- A spare leaves SPARE_OK; with none left the guarded port falls back to ordinary steps (R101, R102). -/
def loseSpare (t k : Nat) (s : State) : State :=
  let ok := s.get (Reg.FCAL_STATUS t) F.FCAL_STATUS_SPARE_OK
  let was := s.on (Reg.FCAL_STATUS t) F.FCAL_STATUS_GUARD_ACTIVE
  let s := s.put (Reg.FCAL_STATUS t) F.FCAL_STATUS_SPARE_OK (if bitOf ok k then ok - 2 ^ k else ok)
  let s := refreshGuard t (s.setFlag (Reg.FCAL_FLAGS t) F.FCAL_FLAGS_SPARE_FAULT)
  s.setFlagIf (was && !s.on (Reg.FCAL_STATUS t) F.FCAL_STATUS_GUARD_ACTIVE) (Reg.FCAL_FLAGS t) F.FCAL_FLAGS_GUARD_LOST

/-- Frame 1,536 of a guarded step (R100, R101): `e1`, `e2` are the spare's errors against the slice. -/
def spareSwap (t : Nat) (e1 e2 : Quad) (s : State) : State :=
  match (s.calTile t).run with
  | none => s
  | some r =>
    if r.phase ≠ 2 ∨ tickDiff s.tick r.start < 1536 * 1024 then s
    else
      let q := 4 * t + r.port
      let a := Reg.FCAL_SP_TRIMA t r.spare
      if agree e1 e2 then
        let x := subQ (readTrims s a) (meanSteps e1 e2)
        if clampQ x = x then
          let s := s.setCalTile t { s.calTile t with spareFails := eraseKey r.spare (s.calTile t).spareFails }
          setRun t (some { r with phase := 3 }) (writeTrims a x s)
        else setRun t none (loseSpare t r.spare s)
      else
        let n := lookupD (fun _ => 0) (s.calTile t).spareFails r.spare + 1
        let s := s.setCalTile t { s.calTile t with spareFails := updateD (fun _ => 0) (s.calTile t).spareFails r.spare n }
        let s := if n ≥ 2 then loseSpare t r.spare s else s
        let f := failAttempt q s
        setRun t none (if f.1 then moveOn q f.2 else f.2)

/-- SPARE_SWAP (R100). -/
def execSpareSwap (t : Fin 4) (e1 e2 : Quad) (s : State) : Host.Outcome State Fault Refusal := .next (spareSwap t e1 e2 s)

/-- Frame 3,072 of a guarded step: slice *j* has been stepped as in R94 and returns to the balls (R95, R96, R100). -/
def standInEnd (t : Nat) (e1 e2 : Quad) (s : State) : State :=
  match (s.calTile t).run with
  | none => s
  | some r =>
    if r.phase ≠ 3 ∨ tickDiff s.tick r.start < 3072 * 1024 then s
    else
      let j := judgeStep (4 * t + r.port) r.slice e1 e2 s
      setRun t (some { r with phase := 4, endAt := r.start + 3136 * 1024, moveOn := j.1, agreed := j.2.1 }) j.2.2

/-- STAND_IN_END (R100). -/
def execStandInEnd (t : Fin 4) (e1 e2 : Quad) (s : State) : Host.Outcome State Fault Refusal := .next (standInEnd t e1 e2 s)

/-- The slice resumes its place: frame 3,136, or 64 frames after an ABORT in STAND_IN (R97, R100, R107). -/
def sliceResume (t : Nat) (s : State) : State :=
  match (s.calTile t).run with
  | none => s
  | some r =>
    if r.phase ≠ 4 ∨ r.guarded = false ∨ tickDiff s.tick r.endAt < 0 then s
    else if r.aborted then setRun t none s
    else
      let q := 4 * t + r.port
      let s := if r.moveOn then moveOn q s else s
      let s := if r.agreed then spurUpdate q s else s
      setRun t none (s.bump (Reg.FCAL_P_GSTEPCNT t r.port) 1)

/-- SLICE_RESUME (R100). -/
def execSliceResume (t : Fin 4) (s : State) : Host.Outcome State Fault Refusal := .next (sliceResume t s)

/-- The refusals of STEP and FULL (R106): the port's state, and its MODE. -/
def stepRefusal (q : Nat) (s : State) : WStat :=
  firstOf [
    (s.fchState q != 2 || (s.calPort q).cmd != 0 || decide ((s.calPort q).fullLeft > 0), .stateRefused),
    (s.notNormal q, .valueRefused)]

/-- A command of code `c` waits on the port (R104, R106). -/
def queueCmd (q c : Nat) (s : State) : State :=
  refreshPending (q / 4) (s.setCalPort q { s.calPort q with cmd := c })

/-- Command STEP. -/
def fcalStep (q : Nat) (s : State) : WStat × State :=
  s.writeIf (Reg.FCAL_CMD (q / 4)) (stepRefusal q s) (queueCmd q 1)

/-- FCAL_STEP (R106). -/
def execFcalStep (q : Fin 16) (s : State) : Host.Outcome State Fault Refusal :=
  .next (s.hostReg (Reg.FCAL_CMD (q / 4)) ((fcalStep q s).2))

/-- Command FULL. -/
def fcalFull (q : Nat) (s : State) : WStat × State :=
  s.writeIf (Reg.FCAL_CMD (q / 4)) (stepRefusal q s) (queueCmd q 2)

/-- FCAL_FULL (R106). -/
def execFcalFull (q : Fin 16) (s : State) : Host.Outcome State Fault Refusal :=
  .next (s.hostReg (Reg.FCAL_CMD (q / 4)) ((fcalFull q s).2))

/-- Command RESTORE_FACTORY (R106, R109). On a port that is not RUNNING only the store changes (R106; DEDUCED, log 151). -/
def restoreFactory (q : Nat) (s : State) : State :=
  let s := storeTrims q ((List.range (s.nSlices q)).map (fun j => (j, factoryQ q j))) s
  if s.fchState q = 2 then unconverge q (s.setCalPort q { s.calPort q with restore := true }) else s

/-- RESTORE_FACTORY (R106). -/
def execRestoreFactory (q : Fin 16) (s : State) : Host.Outcome State Fault Refusal :=
  .next (s.hostReg (Reg.FCAL_CMD (q / 4)) (restoreFactory q s))

/-- The port's step on its tile runs. -/
def State.runningOn (s : State) (q : Nat) : Option CalStep :=
  match (s.calTile (q / 4)).run with
  | none => none
  | some r => if r.port = q % 4 then some r else none

/-- Waiting work and a FULL of the port are dropped (R107). -/
def dropWork (q : Nat) (s : State) : State :=
  refreshPending (q / 4) (s.setCalPort q { s.calPort q with
    sched := false, released := false, heldSince := none, cmd := 0, fullLeft := 0 })

/-- The port has anything to abandon. -/
def State.calBusy (s : State) (q : Nat) : Bool :=
  (s.runningOn q).isSome || (s.calPort q).waits || decide ((s.calPort q).fullLeft > 0)

/-- The 64th frame boundary after now (R107). -/
def boundary64 (s : State) : Nat := (s.tick / 1024 + 64) * 1024

/-- Command ABORT (R106, R107). Until the 64th frame boundary the tile stays taken by the step, in phase RETURN, and another ABORT is ignored
(DESIGN CHOICE, log 150). -/
def fcalAbort (q : Nat) (s : State) : State :=
  if s.calBusy q = false then s
  else
    let ab (s : State) : State := (dropWork q s).setFlag (calFlags q) F.FCAL_P_FLAGS_STEP_ABANDONED
    match s.runningOn q with
    | none => ab s
    | some r =>
      match r.phase with
      | 1 => setRun (q / 4) (some { r with phase := 4, aborted := true, endAt := boundary64 s }) (ab s)
      | 2 => setRun (q / 4) none (ab s)
      | 3 => setRun (q / 4) (some { r with phase := 4, aborted := true, endAt := boundary64 s }) (ab s)
      | _ => s

/-- FCAL_ABORT (R107). -/
def execFcalAbort (q : Fin 16) (s : State) : Host.Outcome State Fault Refusal :=
  .next (s.hostReg (Reg.FCAL_CMD (q / 4)) (fcalAbort q s))

/-- After the abort of an ordinary step the port delivers again, with GAP, from the 64th frame boundary (R107). -/
def abortResume (t : Nat) (s : State) : State :=
  match (s.calTile t).run with
  | none => s
  | some r =>
    if r.aborted = false ∨ r.guarded ∨ tickDiff s.tick r.endAt < 0 then s
    else setRun t none (releasePort (4 * t + r.port) s)

/-- ABORT_RESUME (R107). -/
def execAbortResume (t : Fin 4) (s : State) : Host.Outcome State Fault Refusal := .next (abortResume t s)

/-- A step is abandoned by the port's disable, loss of lock, STANDBY or device FAULT (R107). A step in RETURN leaves its
trims and lets the port move on; the spur figures do not follow it (DESIGN CHOICE, log 153). -/
def abandonStep (q : Nat) (s : State) : State :=
  if s.calBusy q = false then s
  else
    let s := match s.runningOn q with
      | none => s
      | some r =>
        let s := if r.phase = 4 ∧ r.aborted = false ∧ r.moveOn then moveOn q s else s
        setRun (q / 4) none s
    (dropWork q s).setFlag (calFlags q) F.FCAL_P_FLAGS_STEP_ABANDONED

/-- Device FAULT abandons the port's step (R107). Its domain stays powered and its stream goes on (01 R34), so an ordinary step gives the
input back, and a slice in STAND_IN its place, as after ABORT (DESIGN CHOICE, log entry 125). -/
def faultStep (q : Nat) (s : State) : State :=
  match s.runningOn q with
  | none => abandonStep q s
  | some r =>
    if r.aborted then
      if (s.calPort q).waits then (dropWork q s).setFlag (calFlags q) F.FCAL_P_FLAGS_STEP_ABANDONED else s
    else if r.phase = 1 ∨ r.phase = 3 then fcalAbort q s
    else abandonStep q s

/-- The checks of a write of an FCAL register (R99, R105, R106, R112). -/
def fcalCheck (t a : Nat) (v : Word) (s : State) : WStat :=
  if a = Reg.FCAL_CTL t then
    let g := fldGet F.FCAL_CTL_GUARD v
    firstOf [(fldGet F.FCAL_CTL_DEFER v == 3, .valueRefused), (decide (g > 4), .valueRefused),
      (decide (g % 2 = 1 ∧ g < 4) && s.paired (4 * t + g - 1), .valueRefused)]
  else if a = Reg.FCAL_INTERVAL t then
    firstOf [(decide (fldGet F.FCAL_INTERVAL_MS v < 100) || decide (fldGet F.FCAL_INTERVAL_MS v > 100000), .valueRefused)]
  else if a = Reg.FCAL_DEFER_MAX t then
    firstOf [(fldGet F.FCAL_DEFER_MAX_S v == 0 || decide (fldGet F.FCAL_DEFER_MAX_S v > 3600), .valueRefused)]
  else if a = Reg.FCAL_SPUR_LIMIT t then
    firstOf [(decide (sext 16 (fldGet F.FCAL_SPUR_LIMIT_LIMIT v) > 0), .valueRefused)]
  else if a = Reg.FCAL_CMD t then
    let q := 4 * t + fldGet F.FCAL_CMD_PORT v
    let op := fldGet F.FCAL_CMD_OP v
    firstOf [(decide (op > 4), .valueRefused), (op == 1 || op == 2, stepRefusal q s)]
  else .ok

/-- An accepted write of an FCAL register. -/
def fcalApply (t a : Nat) (v : Word) (s : State) : State :=
  if a = Reg.FCAL_CMD t then
    let q := 4 * t + fldGet F.FCAL_CMD_PORT v
    match fldGet F.FCAL_CMD_OP v with
    | 1 => queueCmd q 1 s
    | 2 => queueCmd q 2 s
    | 3 => restoreFactory q s
    | 4 => fcalAbort q s
    | _ => s
  else if a = Reg.FCAL_CTL t then refreshGuard t (s.applyFields a v)
  else s.applyFields a v

/-- A write of a register of FCAL[t]. -/
def writeFcal (t a : Nat) (v : Word) (s : State) : WStat × State := s.writeIf a (fcalCheck t a v s) (fcalApply t a v)

/-- The time to a port's next due instant in ms, rounded down; 0xFFFF_FFFF while none can fall due (R103, R112). -/
def State.nextDueMs (s : State) (q : Nat) : Nat :=
  if s.schedules q then
    let iv := s.calInterval (q / 4)
    (q % 4 * (iv / 4) + iv - s.tick % iv) % iv / 163840000
  else 0xFFFFFFFF

end Sys2Proof.Machine
end

