-- ==== Sys2Proof/Machine/Fabric.lean ====
section
/-! DEFINITION. The handshake fabric's margins: sentinels, capability, margin, the planner and its AVSBus writes
(02_handshake_fabric.md R53 to R68). -/
namespace Sys2Proof.Machine

/-- The length of a measurement window in ticks (R54). -/
def windowTicks : Nat := 2 ^ 20

/-- `x` entered into a list in rising order. -/
def insertNat (x : Nat) : List Nat → List Nat
  | [] => [x]
  | y :: t => if x ≤ y then x :: y :: t else y :: insertNat x t

/-- A list in rising order. -/
def sortNat : List Nat → List Nat
  | [] => []
  | x :: t => insertNat x (sortNat t)

/-- Twice the median of a list; of two middle values, their sum (DEDUCED: R56 names the median only). -/
def median2 (l : List Nat) : Nat :=
  let m := sortNat l
  if l.length % 2 = 1 then 2 * m.getD (l.length / 2) 0 else m.getD (l.length / 2 - 1) 0 + m.getD (l.length / 2) 0

/-- The offset that TST_SOFS adds to a sentinel's corrected reading; readings saturate at 1 and 0xFFFE (R56, 19 R486). -/
def sentOffset (s : State) (k c : Nat) : Nat :=
  let o := sext 16 (s.get (Reg.TST_SOFS (k / 32)) F.TST_SOFS_OFS)
  if o ≠ 0 ∧ (s.on (Reg.TST_SOFS (k / 32)) F.TST_SOFS_ALL ∨ s.get (Reg.TST_SOFS (k / 32)) F.TST_SOFS_SEL = k % 32) then
    (max 1 (min 0xFFFE ((c : Int) + o))).toNat
  else c

/-- Sentinel `k` is excluded (R56). -/
def State.excluded (s : State) (k : Nat) : Bool := bitOf (s.rn (Reg.FAB_SENT_EXCL (k / 32))) (k % 32)

/-- The reading of sentinel `k` in the latest window. -/
def State.sentCount (s : State) (k : Nat) : Nat := s.get (Reg.FAB_SENT k) F.FAB_SENT_COUNT

/-- A count that no ring can give: 0 or 0xFFFF (R56). -/
def badCount (c : Nat) : Bool := c == 0 || c == 0xFFFF

/-- The reading of sentinel `k` is STALE (R55). -/
def State.sentStale (s : State) (k : Nat) : Bool := s.on (Reg.FAB_SENT k) F.FAB_SENT_STALE

/-- The readings of a region other than that of `k` that the median is taken over (R56). Which readings are 'valid' there the spec
does not say: excluded sentinels and counts of 0 and 0xFFFF are left out (DEDUCED, log 13). -/
def State.otherReadings (s : State) (k : Nat) : List Nat :=
  ((List.range 32).filter (fun j => k / 32 * 32 + j != k && !s.excluded (k / 32 * 32 + j) && !s.sentStale (k / 32 * 32 + j) &&
    !badCount (s.sentCount (k / 32 * 32 + j)))).map (fun j => s.sentCount (k / 32 * 32 + j))

/-- The reading of sentinel `k` is implausible (R56): 0 or 0xFFFF, or more than 25 % from the median of the others. -/
def State.implausible (s : State) (k : Nat) : Bool :=
  let c := s.sentCount k
  let o := s.otherReadings k
  badCount c || (o.length != 0 && decide (4 * ((2 * c : Int) - (median2 o : Int)).natAbs > median2 o))

/-- A handshake step of TST_HSD in the ring of sentinel `k`, in ps, between 14 and 26: no rule says which (19_monitoring_and_test.md R486;
a free value). -/
def State.hsdStep (s : State) (k : Nat) : Nat := 14 + s.freeVal (486 + 1024 * k) % 13

/-- What the ring of sentinel `k`, which reads `c` rate units without it, reads under TST_HSD with SENT = 1: a period of 6,400,000 / c ps
grows by STEPS steps (R51, R53; 19_monitoring_and_test.md R486). The readings of a window are taken to come without the injection (DESIGN
CHOICE, log 146). -/
def State.sentSlowed (s : State) (k c : Nat) : Nat :=
  if s.on Reg.TST_HSD F.TST_HSD_EN && s.on Reg.TST_HSD F.TST_HSD_SENT && decide (s.get Reg.TST_HSD F.TST_HSD_REGION = k / 32) then
    6400000 * c / (6400000 + c * (s.get Reg.TST_HSD F.TST_HSD_STEPS * s.hsdStep k))
  else c

/-- TST_HSD can hold a stage of region `r` below the 8,192 rate units of a capture lane: a stage has a period of at most 625 ps without it,
a capture lane's word one of 781.25 ps, and a step adds at most 26 ps (R49, R52; 19_monitoring_and_test.md R486). -/
def State.hsdSlow (s : State) (r : Nat) : Bool :=
  s.on Reg.TST_HSD F.TST_HSD_EN && decide (s.get Reg.TST_HSD F.TST_HSD_REGION = r) &&
    decide (781 < 625 + 26 * s.get Reg.TST_HSD F.TST_HSD_STEPS)

/-- Write the readings of one window into FAB_SENTs (R54, R55). -/
def writeReadings (s : State) (seq : Nat) (stale : Bool) : Nat → List Nat → State
  | _, [] => s
  | k, c :: t =>
    writeReadings (s.wn (Reg.FAB_SENT k)
      (2 ^ 31 + 2 ^ 30 * b2n stale + 2 ^ 16 * (seq % 256) + sentOffset s k (s.sentSlowed k c) % 2 ^ 16)) seq stale (k + 1) t

/-- Judge sentinel `k` after a window: its run of implausible windows, and its exclusion at the fourth (R56). A STALE window counts in
the run where its count is 0 or 0xFFFF and ends the run otherwise, as any window without an implausible reading does (DEDUCED, log
111). Sentinels are judged in index order: one that this window excludes is out of the median of those after it (DESIGN CHOICE, log 148). -/
def judgeSentinel (s : State) (k : Nat) : State :=
  if s.excluded k then s
  else if s.implausible k then
    let run := lookupD (fun _ => 0) s.fab.implRun k + 1
    if run ≥ 4 then
      ({ s with fab := { s.fab with implRun := eraseKey k s.fab.implRun } }.wn (Reg.FAB_SENT_EXCL (k / 32))
        (s.rn (Reg.FAB_SENT_EXCL (k / 32)) + 2 ^ (k % 32))).setFlag Reg.FAB_FLAGS F.FAB_FLAGS_SENTINEL_FAULT
    else { s with fab := { s.fab with implRun := updateD (fun _ => 0) s.fab.implRun k run } }
  else { s with fab := { s.fab with implRun := eraseKey k s.fab.implRun } }

/-- The number of excluded sentinels of region `r`. -/
def State.nExcluded (s : State) (r : Nat) : Nat := ((List.range 32).filter (fun j => s.excluded (32 * r + j))).length

/-- 8 or more excluded sentinels in some region: LOSS_HOLD reads 1, and SENTINEL_LOSS sets as that becomes true for a
region (R56, R66). `was` lists the regions for which it held before. -/
def lossHold (s : State) (was : List Nat) : State :=
  let now := (List.range 8).filter (fun r => decide (s.nExcluded r ≥ 8))
  let s := if now.isEmpty then s else s.put Reg.FAB_STATUS F.FAB_STATUS_LOSS_HOLD 1
  let s := now.foldl (fun s r => s.put (Reg.FAB_RCAP r) F.FAB_RCAP_VALID 0) s
  (now.filter (fun r => !was.contains r)).foldl (fun s r =>
    (s.setFlag Reg.FAB_FLAGS F.FAB_FLAGS_SENTINEL_LOSS).addLog 0x21
      ((flagSource Reg.FAB_FLAGS F.FAB_FLAGS_SENTINEL_LOSS.lo).getD 0) r (s.rn (Reg.FAB_SENT_EXCL r))) s

/-- The plan of region `r` in rate units (R51). -/
def State.rplan (s : State) (r : Nat) : Nat := s.get (Reg.FAB_RPLAN r) F.FAB_RPLAN_PLAN

/-- *E* of R58 from a margin, a VMAX and the present target. -/
def estimate (s : State) (r m vmax : Nat) : Nat :=
  let k := Config.kr r
  let d := k.2 + 1
  min 0xFFFF (((m : Int) * ((d : Int) + (k.1 : Int) * ((vmax : Int) - (s.get Reg.FAB_VDDC F.FAB_VDDC_TARGET : Int)))) / (d : Int)).toNat

/-- *M* of R57. -/
def marginOf (c p : Nat) : Nat := min 0xFFFF (c * 4096 / p)

/-- The sentinels of region `r` that count towards its capability: neither excluded nor implausible (R57). -/
def State.usable (s : State) (r : Nat) : List Nat :=
  ((List.range 32).map (fun j => 32 * r + j)).filter (fun k => !s.excluded k && !s.implausible k)

/-- The lowest reading of a list of sentinels, with the lowest sentinel that gives it. -/
def worstOf (s : State) : List Nat → Option (Nat × Nat)
  | [] => none
  | k :: t =>
    match worstOf s t with
    | none => some (s.sentCount k, k)
    | some (c, j) => if s.sentCount k ≤ c then some (s.sentCount k, k) else some (c, j)

/-- FAB_RCAP of region `r` from the window just ended (R56, R57); formed for a region with plan 0 as for any other, which R57 leaves
open (DESIGN CHOICE, log 112). -/
def formCap (s : State) (r : Nat) : State :=
  match worstOf s (s.usable r) with
  | none => s.wn (Reg.FAB_RCAP r) 0
  | some (c, k) => s.wn (Reg.FAB_RCAP r) (2 ^ 31 * b2n (decide (s.nExcluded r < 8)) + 2 ^ 16 * (k % 32) + c)

/-- FAB_RMARGIN of region `r` from its capability and plan (R57, R58). -/
def formMargin (s : State) (r : Nat) : State :=
  if s.rplan r = 0 then s.wn (Reg.FAB_RMARGIN r) 0xFFFFFFFF
  else
    let c := s.get (Reg.FAB_RCAP r) F.FAB_RCAP_CAP
    let m := marginOf c (s.rplan r)
    s.wn (Reg.FAB_RMARGIN r) (2 ^ 16 * estimate s r m (s.get Reg.FAB_VLIMIT F.FAB_VLIMIT_VMAX) + m)

/-- Fold an operation over 0 … n−1. -/
def forRange (n : Nat) (f : State → Nat → State) (s : State) : State := (List.range n).foldl f s

/-- The margins of all regions that have had a complete window (R57); before the first, they stay at their reset values. A planned
region whose windows so far were all STALE has no capability figure and reads 0 (DEDUCED, log 113). -/
def formMargins (s : State) : State :=
  if s.rn Reg.FAB_WINDOW = 0 then s else forRange 8 formMargin s

/-- The margin of region `r`. -/
def State.margin (s : State) (r : Nat) : Nat := s.get (Reg.FAB_RMARGIN r) F.FAB_RMARGIN_MARGIN

/-- The regions with a nonzero plan. -/
def State.planned (s : State) : List Nat := (List.range 8).filter (fun r => s.rplan r != 0)

/-- AT_VMAX, AT_VMIN and QUALIFIED as the registers stand (R68). -/
def refreshFabStatus (s : State) : State :=
  let t := s.get Reg.FAB_VDDC F.FAB_VDDC_TARGET
  ((s.put Reg.FAB_STATUS F.FAB_STATUS_AT_VMAX (b2n (t == s.get Reg.FAB_VLIMIT F.FAB_VLIMIT_VMAX))).put
    Reg.FAB_STATUS F.FAB_STATUS_AT_VMIN (b2n (t == s.get Reg.FAB_VLIMIT F.FAB_VLIMIT_VMIN))).put
    Reg.FAB_STATUS F.FAB_STATUS_QUALIFIED
      (b2n (s.planned.all (fun r => decide (s.get Reg.FAB_THRESH_A F.FAB_THRESH_A_TARGET ≤ s.margin r))))

/-- HEADROOM_LOW, BELOW_PLAN and MARGIN_EXHAUSTED set as their conditions become true (R66). -/
def judgeFabFlags (s : State) : State :=
  let head := s.planned.any (fun r => decide (s.get (Reg.FAB_RMARGIN r) F.FAB_RMARGIN_EST_VMAX <
    s.get Reg.FAB_THRESH_B F.FAB_THRESH_B_HEADROOM))
  let below := (List.range 8).any (fun r => decide (s.margin r < 0x1000))
  let exh := s.get Reg.FAB_VDDC F.FAB_VDDC_TARGET == s.get Reg.FAB_VLIMIT F.FAB_VLIMIT_VMAX &&
    !s.on Reg.FAB_STATUS F.FAB_STATUS_SETTLING &&
    (List.range 8).any (fun r => decide (s.margin r < s.get Reg.FAB_THRESH_A F.FAB_THRESH_A_EXHAUST))
  let f := s.fab
  let s := s.setFlagIf (head && !f.condHeadroom) Reg.FAB_FLAGS F.FAB_FLAGS_HEADROOM_LOW
  let s := s.setFlagIf (below && !f.condBelow) Reg.FAB_FLAGS F.FAB_FLAGS_BELOW_PLAN
  let s := if exh && !f.condExhausted then
      let w := (List.range 8).find? (fun r => decide (s.margin r < s.get Reg.FAB_THRESH_A F.FAB_THRESH_A_EXHAUST))
      (s.setFlag Reg.FAB_FLAGS F.FAB_FLAGS_MARGIN_EXHAUSTED).addLog 0x20
        ((flagSource Reg.FAB_FLAGS F.FAB_FLAGS_MARGIN_EXHAUSTED.lo).getD 0) (w.getD 0 + 2 ^ 16 * s.margin (w.getD 0))
        (s.rn Reg.FAB_VDDC)
    else s
  { s with fab := { s.fab with condHeadroom := head, condBelow := below, condExhausted := exh } }

/-- Margins, status and flags follow a change of plan, target, limits or thresholds. -/
def State.fabRefresh (s : State) : State := judgeFabFlags (refreshFabStatus (formMargins s))

/-- A fast port is POWERING or RUNNING (03_fast_inputs.md R92). -/
def State.portUp (s : State) (n : Nat) : Bool :=
  s.get (Reg.FCH_STATUS n) F.FCH_STATUS_STATE == 1 || s.get (Reg.FCH_STATUS n) F.FCH_STATUS_STATE == 2

/-- The plan in force of region `r`: the configuration's, the larger one while the region is being loaded (R51, R63), and
8,192 while a port of tile `r` is POWERING or RUNNING (03_fast_inputs.md R90). -/
def State.planNow (s : State) (r : Nat) : Nat :=
  max (max (lookupD (fun _ => 0) s.fab.imagePlan r) (lookupD (fun _ => 0) s.fab.loadPlan r))
    (if r < 4 ∧ (List.range 4).any (fun i => s.portUp (4 * r + i)) then 8192 else 0)

/-- A lane (number, rate, source and destination region) has a stage in region `r` (R50, R51). -/
def laneIn (r : Nat) (l : Nat × Nat × Nat × Nat) : Bool :=
  l.2.2.1 == r || l.2.2.2 == r || (r == 4 && l.2.2.1 != l.2.2.2)

/-- Lanes with a stage in region `r`: those of the configuration, and the capture lanes of the ports of tile `r` that are POWERING
or RUNNING, each once (R49, R51; 03_fast_inputs.md R76, R90). Capture lane *j* of port *n* is lane 8*n* + *j* (DEDUCED, log 80). -/
def State.lanesNow (s : State) (r : Nat) : Nat :=
  let listed := (s.cfg.lanes.filter (laneIn r)).map (fun l => l.1)
  let capture := if r < 4 then ((List.range 4).filter (fun i => s.portUp (4 * r + i))).flatMap (fun i =>
      (List.range (if s.on (Reg.FCH_CTL (4 * r + i)) F.FCH_CTL_PAIRED then 16 else 8)).map (fun j => 8 * (4 * r + i) + j)) else []
  min 1024 (listed ++ capture).eraseDups.length

/-- The plans, margins and flags of the regions follow the configuration, a load and the ports. -/
def State.refreshPlans (s : State) : State :=
  let t := forRange 8 (fun u r =>
    (u.put (Reg.FAB_RPLAN r) F.FAB_RPLAN_PLAN (s.planNow r)).put (Reg.FAB_RPLAN r) F.FAB_RPLAN_LANES (s.lanesNow r)) s
  if t.regs = s.regs then s else t.fabRefresh

/-- Send an AVSBus VOUT write of `mv` (R60): SETTLING begins, or goes on. -/
def avsWrite (s : State) (mv : Nat) : State :=
  { (s.put Reg.FAB_STATUS F.FAB_STATUS_SETTLING 1) with
    fab := { s.fab with
      inFlight := true, avsSent := mv, retryDue := false,
      settleFrom := if s.on Reg.FAB_STATUS F.FAB_STATUS_SETTLING then s.fab.settleFrom else s.tick,
      settleAt := s.tick + s.get Reg.FAB_PLAN_CTL F.FAB_PLAN_CTL_SETTLE * windowTicks } }

/-- Move the target to `mv`: a first attempt of a new AVSBus write (R60, R61). -/
def moveTarget (s : State) (mv : Nat) : State :=
  let s := avsWrite (s.put Reg.FAB_VDDC F.FAB_VDDC_TARGET mv) mv
  State.fabRefresh { s with fab := { s.fab with tries := 0 } }

/-- The fabric's domain is powered and its measurements run (R54, R65, 18 R455). -/
def State.fabMeasures (s : State) : Bool := s.domOn domFab && s.dev != devStandby

/-- VDDC of `meas` mV lies within its operating range (18 R454). -/
def vddcOk (meas : Nat) : Bool := decide (630 ≤ meas) && decide (meas ≤ 870)

/-- A new reading of VDDC: whether it lies within its range (18 R454, R472), and since when it deviates by more than 25 mV from the
acknowledged target. -/
def noteVddc (meas : Nat) (s : State) : State :=
  let s := s.put Reg.PWR_VDDC F.PWR_VDDC_MEAS meas
  let s := State.put { s with pwr := { s.pwr with vddcOut := !vddcOk meas } } Reg.PWR_RAIL_STAT ⟨0, 1⟩ (b2n (vddcOk meas))
  let far := (decide (meas + 25 < s.fab.lastAck) || decide (s.fab.lastAck + 25 < meas)) && !s.on Reg.FAB_STATUS F.FAB_STATUS_SETTLING
  if far then { s with pwr := { s.pwr with devSince := some (s.pwr.devSince.getD s.rt) } }
  else { s with pwr := { s.pwr with devSince := none, devTold := false } }

/-- Every capability figure comes from an earlier window than the latest (R57, R68). -/
def capsOld (s : State) : State := forRange 8 (fun s r => s.put (Reg.FAB_RCAP r) F.FAB_RCAP_VALID 0) s

/-- A measurement window is complete: FAB_WINDOW counts it, whether the fabric measured in it or not (R54, R68). -/
def countWindow (s : State) : State :=
  let s := s.wn Reg.FAB_WINDOW (s.rn Reg.FAB_WINDOW + 1)
  { s with fab := { s.fab with lastEnd := some s.tick, acted := false, staleMark := false, staleWins := s.fab.staleWins - 1 } }

/-- The window that ends now overlaps a VDDC step or its settling, or follows a return from STANDBY too closely (R55, R65). -/
def State.windowStale (s : State) : Bool :=
  s.fab.staleMark || (s.on Reg.FAB_STATUS F.FAB_STATUS_SETTLING && s.fab.settleFrom != s.tick) || decide (0 < s.fab.staleWins)

/-- A window ends in which the fabric was off: it counts, VALID of every sentinel says that a window has completed, and no capability
figure is the latest window's any more (R65, R68). -/
def idleWindow (s : State) : State :=
  capsOld (forRange 256 (fun s k => s.put (Reg.FAB_SENT k) F.FAB_SENT_VALID 1) (countWindow s))

/-- A window ends now: the tick count is a multiple of 2^20 at which none has ended yet (R54). -/
def State.windowEnds (s : State) : Bool := decide (s.tick % windowTicks = 0) && s.fab.lastEnd != some s.tick

/-- MEASUREMENT_WINDOW_END with the 256 corrected counts and the measured VDDC of the window (R54 to R58, R66, 18 R454).
Windows end at the tick counts that are multiples of 2^20; at any other time there is no effect, and while the fabric's domain
is off the window is counted and nothing is read (R65). SEQ is the number of windows completed before it, so the first reads 0
(DEDUCED, log 114). -/
def measurementWindowEnd (readings : List Nat) (meas : Nat) (s : State) : State :=
  if s.windowEnds = false then s
  else if s.fabMeasures = false then idleWindow s
  else
    let stale := s.windowStale
    let was := (List.range 8).filter (fun r => decide (s.nExcluded r ≥ 8))
    let s := writeReadings s (s.rn Reg.FAB_WINDOW) stale 0 (readings.take 256)
    let s := lossHold (forRange 256 judgeSentinel (noteVddc meas (countWindow s))) was
    if stale then (capsOld s).fabRefresh else (forRange 8 formCap s).fabRefresh

/-- The lowest margin over the planned regions, and the lowest region that has it (R60, R68). -/
def worstMargin (s : State) : List Nat → Nat × Nat
  | [] => (0xFFFF, 0)
  | r :: t =>
    let w := worstMargin s t
    if s.margin r ≤ w.1 then (s.margin r, r) else w

/-- The planner's choice of the next target, before the limits, and its new run of periods above DOWN (R60). -/
def plannerChoice (s : State) (worst : Nat) : Nat × Nat :=
  let v := s.get Reg.FAB_VDDC F.FAB_VDDC_TARGET
  let step := s.get Reg.FAB_PLAN_CTL F.FAB_PLAN_CTL_STEP
  let run := s.fab.downRun
  if s.on Reg.FAB_CTL F.FAB_CTL_FORCE_VMAX ∨ s.on Reg.FAB_STATUS F.FAB_STATUS_LOSS_HOLD then
    (s.get Reg.FAB_VLIMIT F.FAB_VLIMIT_VMAX, run)
  else if s.on Reg.FAB_CTL F.FAB_CTL_HOLD then (v, run)
  else if worst < s.get Reg.FAB_THRESH_A F.FAB_THRESH_A_TARGET then (v + step, 0)
  else if worst ≥ s.get Reg.FAB_THRESH_B F.FAB_THRESH_B_DOWN then
    if run + 1 ≥ s.get Reg.FAB_PLAN_CTL F.FAB_PLAN_CTL_DOWN_PERIODS then (v - step, 0) else (v, run + 1)
  else (v, 0)

/-- A target held within the limits (R60: limits win over HOLD). -/
def clampTarget (s : State) (v : Nat) : Nat :=
  max (s.get Reg.FAB_VLIMIT F.FAB_VLIMIT_VMIN) (min (s.get Reg.FAB_VLIMIT F.FAB_VLIMIT_VMAX) v)

/-- The planner acts at the end of window w with w mod PERIOD = 0, windows counted from 0 since reset (R60; the count
from reset is DEDUCED, log 14), while PLAN_EN = 1, the fabric is powered and no window after a return from STANDBY has still to
read STALE (R65); once for each window. -/
def State.plannerDue (s : State) : Bool :=
  s.fabMeasures && !s.fab.acted && s.fab.lastEnd == some s.tick && s.fab.staleWins == 0 && s.on Reg.FAB_CTL F.FAB_CTL_PLAN_EN && decide (0 < s.rn Reg.FAB_WINDOW) &&
    decide ((s.rn Reg.FAB_WINDOW - 1) % s.get Reg.FAB_PLAN_CTL F.FAB_PLAN_CTL_PERIOD = 0)

/-- The planner's action (R60, R66). MARGIN_LOW sets as its condition becomes true: where it held at the action before, a flag that
the host has cleared stays clear (DEDUCED, log 115). -/
def plannerAction (s : State) : State :=
  if s.plannerDue = false ∨ s.on Reg.FAB_STATUS F.FAB_STATUS_SETTLING then s
  else
    let s := { s with fab := { s.fab with acted := true } }
    let w := worstMargin s s.planned
    let s := (s.put Reg.FAB_STATUS F.FAB_STATUS_WORST_MARGIN w.1).put Reg.FAB_STATUS F.FAB_STATUS_WORST_REGION w.2
    let s := noteMargin w.1 s
    let low := decide (w.1 < s.get Reg.FAB_THRESH_A F.FAB_THRESH_A_TARGET)
    let s := s.setFlagIf (low && !s.fab.condLow) Reg.FAB_FLAGS F.FAB_FLAGS_MARGIN_LOW
    let c := plannerChoice s w.1
    let v := clampTarget s c.1
    let s := { s with fab := { s.fab with condLow := low, downRun := c.2 } }
    if v = s.get Reg.FAB_VDDC F.FAB_VDDC_TARGET then s.fabRefresh else moveTarget s v

/-- PLANNER_ACTION (R60). -/
def execPlannerAction (s : State) : Host.Outcome State Fault Refusal := .next (plannerAction s)

/-- An AVSBus write is answered (R62). The one window to the next try counts from the report of the failure, which R62 does not say
(DEDUCED, log 116). -/
def avsWriteAck (ok : Bool) (s : State) : State :=
  if s.fab.inFlight = false then s
  else if ok then
    let t := s.get Reg.FAB_VDDC F.FAB_VDDC_TARGET
    let s := { s with fab := { s.fab with inFlight := false, tries := 0, lastAck := t } }
    (s.put Reg.FAB_VDDC F.FAB_VDDC_MAX_SEEN (max t (s.get Reg.FAB_VDDC F.FAB_VDDC_MAX_SEEN))).fabRefresh
  else
    let s := s.bumpFld Reg.FAB_AVS_ERRCNT F.FAB_AVS_ERRCNT_COUNT 1
    if s.fab.tries ≥ 3 then
      let s := (s.setFlag Reg.FAB_FLAGS F.FAB_FLAGS_AVS_FAULT).addLog 0x22
        ((flagSource Reg.FAB_FLAGS F.FAB_FLAGS_AVS_FAULT.lo).getD 0) (s.rn Reg.FAB_AVS_ERRCNT)
        (s.get Reg.FAB_VDDC F.FAB_VDDC_TARGET)
      let s := { s with fab := { s.fab with inFlight := false, tries := 0 } }
      (s.put Reg.FAB_VDDC F.FAB_VDDC_TARGET s.fab.lastAck).fabRefresh
    else
      { s with fab := { s.fab with inFlight := false, retryDue := true, retryAt := s.tick + windowTicks } }

/-- AVS_WRITE_ACK (R62). -/
def execAvsWriteAck (ok : Bool) (s : State) : Host.Outcome State Fault Refusal := .next (avsWriteAck ok s)

/-- One window after a failure the write is sent again (R62). -/
def avsRetry (s : State) : State :=
  if s.fab.retryDue = false ∨ tickDiff s.tick s.fab.retryAt < 0 then s
  else
    let s := avsWrite s (s.get Reg.FAB_VDDC F.FAB_VDDC_TARGET)
    { s with fab := { s.fab with tries := s.fab.tries + 1 } }

/-- AVS_RETRY (R62). -/
def execAvsRetry (s : State) : Host.Outcome State Fault Refusal := .next (avsRetry s)

/-- A target outside the limits moves to the nearer limit while the planner is disabled (R61). -/
def intoLimits (s : State) : State :=
  let v := clampTarget s (s.get Reg.FAB_VDDC F.FAB_VDDC_TARGET)
  if v = s.get Reg.FAB_VDDC F.FAB_VDDC_TARGET then s else moveTarget s v

/-- SETTLE windows after the last attempt SETTLING clears; a move into new limits that waited for it is then made
(R55, R60, R61, R62). A window in which the settling ended, or at whose end it did, reads STALE. -/
def settlingEnd (s : State) : State :=
  if s.on Reg.FAB_STATUS F.FAB_STATUS_SETTLING = false ∨ s.fab.inFlight ∨ s.fab.retryDue ∨
      tickDiff s.tick s.fab.settleAt < 0 then s
  else
    let s := s.put Reg.FAB_STATUS F.FAB_STATUS_SETTLING 0
    let s := { s with fab := { s.fab with staleMark := s.fab.staleMark || decide (s.tick % windowTicks ≠ 0) || s.fab.lastEnd != some s.tick } }
    let mv := s.fab.limitMove
    let s := { s with fab := { s.fab with limitMove := false } }
    if mv ∧ s.on Reg.FAB_CTL F.FAB_CTL_PLAN_EN = false then (intoLimits s).fabRefresh else s.fabRefresh

/-- SETTLING_END (R60). -/
def execSettlingEnd (s : State) : Host.Outcome State Fault Refusal := .next (settlingEnd s)

/-- A value of FAB_VLIMIT that is refused whole (R68). -/
def vlimitRefused (v : Word) : Bool :=
  let lo := fldGet F.FAB_VLIMIT_VMIN v
  let hi := fldGet F.FAB_VLIMIT_VMAX v
  decide (lo < 650) || decide (hi > 850) || decide (lo > hi)

/-- A write of FAB_VLIMIT (R61): while the planner is disabled a target outside the new limits moves into them in one
step, after a step that is still settling. -/
def writeVlimit (v : Word) (s : State) : WStat × State :=
  s.writeIf Reg.FAB_VLIMIT (firstOf [(vlimitRefused v, .valueRefused)]) (fun s =>
    let s := s.applyFields Reg.FAB_VLIMIT v
    if s.on Reg.FAB_CTL F.FAB_CTL_PLAN_EN then s.fabRefresh
    else if s.on Reg.FAB_STATUS F.FAB_STATUS_SETTLING then
      State.fabRefresh { s with fab := { s.fab with limitMove := true } }
    else (intoLimits s).fabRefresh)

/-- FAB_VLIMIT_WRITE (R61). -/
def execFabVlimitWrite (v : Word) (s : State) : Host.Outcome State Fault Refusal := .next (writeVlimit v s).2

/-- Values of the FAB registers that are refused (R68). -/
def fabValueRefused (s : State) (a : Nat) (v : Word) : Bool :=
  if a = Reg.FAB_VLIMIT then vlimitRefused v
  else if a = Reg.FAB_PLAN_CTL then
    fldGet F.FAB_PLAN_CTL_DOWN_PERIODS v == 0 || fldGet F.FAB_PLAN_CTL_STEP v == 0 ||
      decide (fldGet F.FAB_PLAN_CTL_STEP v > 20) ||
      decide (fldGet F.FAB_PLAN_CTL_PERIOD v < fldGet F.FAB_PLAN_CTL_SETTLE v + 2)
  else if a = Reg.FAB_THRESH_A then
    decide (fldGet F.FAB_THRESH_A_EXHAUST v < 0x1000) ||
      decide (fldGet F.FAB_THRESH_A_EXHAUST v ≥ fldGet F.FAB_THRESH_A_TARGET v) ||
      decide (fldGet F.FAB_THRESH_A_TARGET v < 0x119A) ||
      decide (fldGet F.FAB_THRESH_A_TARGET v ≥ s.get Reg.FAB_THRESH_B F.FAB_THRESH_B_DOWN)
  else if a = Reg.FAB_THRESH_B then
    decide (fldGet F.FAB_THRESH_B_HEADROOM v < s.get Reg.FAB_THRESH_A F.FAB_THRESH_A_EXHAUST) ||
      decide (fldGet F.FAB_THRESH_B_DOWN v ≤ s.get Reg.FAB_THRESH_A F.FAB_THRESH_A_TARGET)
  else false

/-- A write of a FAB register other than FAB_VLIMIT (R19, R68). -/
def writeFabReg (a : Nat) (v : Word) (s : State) : WStat × State :=
  s.writeIf a (firstOf [(fabValueRefused s a v, .valueRefused)]) (fun s => (s.applyFields a v).fabRefresh)

end Sys2Proof.Machine
end

