-- ==== Sys2Proof/Machine/Mem.lean ====
section
/-! DEFINITION. Acquisition memory as the rest of the device reads and writes it (11_acquisition_memory.md R285, R289 to R292,
R300): bytes, channels, poison, the effects of a request on its channel. -/
namespace Sys2Proof.Machine

/-- The record of channel `m` behind its registers. -/
def State.mch (s : State) (m : Nat) : MchHid := lookupD (fun _ => {}) s.mchs m
def State.setMch (s : State) (m : Nat) (x : MchHid) : State := { s with mchs := updateD (fun _ => {}) s.mchs m x }

/-- Phases of R281. -/
def phOff : Nat := 0
def phReady : Nat := 8
def phSr : Nat := 9
def phRetrain : Nat := 10
def phFault : Nat := 11

/-- PHASE of a channel. -/
def State.phase (s : State) (m : Nat) : Nat := s.get (Reg.MCH_STATUS m) F.MCH_STATUS_PHASE
def State.setPhase (s : State) (m x : Nat) : State := s.put (Reg.MCH_STATUS m) F.MCH_STATUS_PHASE x

/-- Channels in use as MCH_CFG publishes them, and the installed capacity in bytes (R278, R282). -/
def State.nChan (s : State) : Nat := s.get (Reg.MCH_CFG 0) F.MCH_CFG_NCHAN
def State.capacity (s : State) : Nat := s.get (Reg.MCH_CFG 0) F.MCH_CFG_CAP_GIB * 2 ^ 30

/-- A channel is in use (R277). -/
def State.chUsed (s : State) (m : Nat) : Bool := s.on (Reg.MCH_STATUS m) F.MCH_STATUS_USED

/-- Acquisition memory is READY (R282). -/
def State.memReady (s : State) : Bool :=
  decide (0 < s.nChan) && (List.range 8).all (fun m => !s.chUsed m || (s.mch m).wasReady)

/-- Channel and channel byte offset of an address (R285). -/
def State.chanOf (s : State) (a : Nat) : Nat := a / 256 % max 1 s.nChan
def State.offOf (s : State) (a : Nat) : Nat := a / (256 * max 1 s.nChan) * 256 + a % 256

/-- The address at a channel byte offset. -/
def State.addrAt (s : State) (m o : Nat) : Nat := o / 256 * (256 * max 1 s.nChan) + m * 256 + o % 256

/-- What an unlisted address reads as: 0 where the channel's contents are zero; no known byte where they are undefined. -/
def State.memDefault (s : State) (a : Nat) : Option Byte :=
  if lookupD (fun _ => 0) s.mem.fill (s.chanOf a) = 0 then some 0#8 else none

/-- The byte that memory holds at an address. -/
def State.memByte (s : State) (a : Nat) : Byte :=
  match s.mem.cells.find? (fun c => c.1 == a) with
  | some c => c.2
  | none =>
    match s.memDefault a with
    | some b => b
    | none => Config.freeByte (lookupD (fun _ => 0) s.mem.fill (s.chanOf a)) (s.chanOf a) (s.offOf a)

/-- The cells with `b` stored at `a`; a byte that an unlisted address reads as is not listed. -/
def cellsPut (d : Option Byte) (a : Nat) (b : Byte) (l : List Host.Cell) : List Host.Cell :=
  if d = some b then eraseKey a l else insertKey a b (eraseKey a l)

/-- Store a byte. -/
def State.memPut (s : State) (a : Nat) (b : Byte) : State :=
  { s with mem := { s.mem with cells := cellsPut (s.memDefault a) a b s.mem.cells } }

/-- The canonical form of memory: addresses strictly rising, no entry equal to what its address reads as unlisted. -/
def Memory.wf (s : State) : Bool :=
  keysRising s.mem.cells && s.mem.cells.all (fun c => decide (s.memDefault c.1 ≠ some c.2))

/-- Store bytes from `a` up. -/
def State.memPuts (s : State) (a : Nat) : List Byte → State
  | [] => s
  | b :: t => State.memPuts (s.memPut a b) (a + 1) t

/-- `n` bytes from `a` up, as memory holds them. -/
def State.memBytes (s : State) (a n : Nat) : List Byte := (List.range n).map (fun i => s.memByte (a + i))

/-- A write request covers an address. -/
def WrReq.covers (w : WrReq) (a : Nat) : Bool := decide (w.addr ≤ a) && decide (a < w.addr + w.data.length)

/-- Two byte ranges meet in a 64-byte line (R289). -/
def linesMeet (a n b m : Nat) : Bool :=
  decide (0 < n) && decide (0 < m) && decide (a / 64 ≤ (b + m - 1) / 64) && decide (b / 64 ≤ (a + n - 1) / 64)

/-- Writes of a list that match a range, and those that do not. -/
def WrReq.meets (w : WrReq) (a n : Nat) : Bool := linesMeet w.addr w.data.length a n

/-- The group and slot whose data area or dike table holds an address (07 R172; R291). -/
def State.groupBase (s : State) (lo hi : Nat) : Nat := s.rn lo + 2 ^ 32 * s.rn hi
def State.dikeBase (s : State) (g : Nat) : Nat := s.groupBase (Reg.POL_G_DIKE_BASE_LO g) (Reg.POL_G_DIKE_BASE_HI g)
def State.dataBase (s : State) (g : Nat) : Nat := s.groupBase (Reg.POL_G_DATA_BASE_LO g) (Reg.POL_G_DATA_BASE_HI g)
def State.slotSize (s : State) (g : Nat) : Nat := s.groupBase (Reg.POL_G_SLOT_LO g) (Reg.POL_G_SLOT_HI g)
def State.nPold (s : State) (g : Nat) : Nat := s.get (Reg.POL_G_NPOLD g) F.POL_G_NPOLD_N + 1

def State.slotAt (s : State) (a g : Nat) : Option Nat :=
  if s.gDefined g = false ∨ s.slotSize g = 0 then none
  else if s.dikeBase g ≤ a ∧ a < s.dikeBase g + 64 * s.nPold g then some ((a - s.dikeBase g) / 64)
  else if s.dataBase g ≤ a ∧ a < s.dataBase g + s.slotSize g * s.nPold g then some ((a - s.dataBase g) / s.slotSize g)
  else none

/-- The first group, with its slot, whose areas hold the address. -/
def State.slotOf (s : State) (a : Nat) : Option (Nat × Nat) :=
  match (List.range 16).find? (fun g => (s.slotAt a g).isSome) with
  | none => none
  | some g => some (g, (s.slotAt a g).getD 0)

/-- A line of channel `m` was found uncorrectable (R291, R292, R293). -/
def ueReport (m line : Nat) (scrub : Bool) (s : State) : State :=
  let a := line * 64
  let info := 2 ^ 30 * b2n scrub + match s.slotOf a with
    | none => 0
    | some (g, k) => 2 ^ 31 + 2 ^ 24 * g + k % 2 ^ 24
  let s := (s.bump (Reg.MCH_UE_CNT m) 1).setFlag (Reg.MCH_FLAGS m) F.MCH_FLAGS_UE
  let s := (s.wr64 (Reg.MCH_UE_ADDR_LO m) a).wn (Reg.MCH_UE_INFO m) info
  s.addLog 0x10 ((flagSource (Reg.MCH_FLAGS m) F.MCH_FLAGS_UE.lo).getD 0) info (a + 2 ^ 41 * m)

/-- A line of channel `m` was corrected (R290). -/
def ceReport (m line : Nat) (s : State) : State :=
  ((s.bump (Reg.MCH_CE_CNT m) 1).setFlag (Reg.MCH_FLAGS m) F.MCH_FLAGS_CE).wr64 (Reg.MCH_CE_ADDR_LO m) (line * 64)

/-- The line at an address is poisoned. -/
def State.isPoison (s : State) (line : Nat) : Bool := s.mem.poison.contains line

/-- Mark or unmark a line. -/
def State.setPoison (s : State) (line : Nat) (p : Bool) : State :=
  let l := s.mem.poison
  let l := if p then (if l.contains line then l else line :: l) else l.filter (fun x => x != line)
  { s with mem := { s.mem with poison := l } }

/-- A segment of one write that lies in one line reaches the DRAM (R291, R292, R300). -/
def putSegment (a : Nat) (d : List Byte) (s : State) : State :=
  let m := s.chanOf a
  if s.phase m = phFault then s.bump (Reg.MCH_DROPCNT m) 1
  else if d.length = 64 then (s.memPuts a d).setPoison (a / 64) false
  else if s.isPoison (a / 64) then ueReport m (a / 64) false (s.memPuts a d)
  else s.memPuts a d

/-- The bytes of a write cut at line boundaries; `fuel` bounds the number of lines. -/
def putLines : Nat → Nat → List Byte → State → State
  | 0, _, _, s => s
  | _ + 1, _, [], s => s
  | f + 1, a, d, s =>
    let n := 64 - a % 64
    putLines f (a + n) (d.drop n) (putSegment a (d.take n) s)

/-- A write reaches the DRAM. -/
def commitWrite (w : WrReq) (s : State) : State := putLines (w.data.length / 64 + 2) w.addr w.data s

/-- A channel in idle or commanded self-refresh leaves it for a request; an entry not yet completed is cancelled (R298, R299).
-/
def noteRequest (m : Nat) (s : State) : State :=
  let h := s.mch m
  let s := s.setMch m { h with lastReq := s.rt, srEntry := 0 }
  let s := if h.srEntry ≠ 0 then (s.bump (Reg.MCH_SR_ABORT m) 1).setFlag (Reg.MCH_FLAGS m) F.MCH_FLAGS_SR_ABORT else s
  if s.phase m = phSr ∧ (h.srCause = 1 ∨ h.srCause = 2) then
    (s.setMch m { s.mch m with srCause := 0 }).setPhase m phReady
  else s

/-- The channels that a range touches. -/
def State.chansOf (s : State) (a n : Nat) : List Nat :=
  if n = 0 then []
  else (List.range 8).filter (fun m =>
    (List.range (min 8 ((a + n - 1) / 256 - a / 256 + 1))).any (fun i => s.chanOf (a + 256 * i) == m))

/-- A request for a range reaches its channels. -/
def noteRange (a n : Nat) (s : State) : State := (s.chansOf a n).foldl (fun s m => noteRequest m s) s

/-- A channel of the range sleeps for STANDBY or holdover, and a request waits for that to end (R299). -/
def State.rangeSleeps (s : State) (a n : Nat) : Bool :=
  (s.chansOf a n).any (fun m => s.phase m == phSr && ((s.mch m).srCause == 3 || (s.mch m).srCause == 4))

/-- Occupancy of the spillway in bytes, and in KiB rounded up (07_polders_and_accumulation.md R188, R196). -/
def State.spillBytes (s : State) : Nat := s.mem.spill.foldl (fun x w => x + w.data.length) 0
def State.spillKib (s : State) : Nat := (s.spillBytes + 1023) / 1024

/-- POL_STATUS.SPILL follows the occupancy. -/
def showSpill (s : State) : State := s.put Reg.POL_STATUS F.POL_STATUS_SPILL s.spillKib

/-- A write reaches the DRAM; a dike write that meets a channel in FAULT has failed (07_polders_and_accumulation.md R187). -/
def landWrite (w : WrReq) (s : State) : State :=
  let bad := (s.chansOf w.addr w.data.length).any (fun m => s.phase m == phFault)
  let s := commitWrite w s
  match w.dike with
  | none => s
  | some g => (s.setFlagIf bad Reg.POL_FLAGS F.POL_FLAGS_DIKE_FAIL).setFlagIf bad (Reg.POL_G_FLAGS g) F.POL_G_FLAGS_DIKE_FAIL

/-- The writes that wait in the channels' queues and the spillway, in the order of their issue (R289). -/
def State.waiting (s : State) : List WrReq :=
  (((List.range 8).map (fun m => (s.mch m).wq)).flatten ++ s.mem.spill).mergeSort (fun x y => decide (x.seq ≤ y.seq))

/-- Of waiting writes, the latest first: those that meet one of the ranges, or an earlier-found one that was issued after them, so that
every line keeps the order of issue (R289); those found, the earliest first. -/
def mustLand : List (Nat × Nat) → List WrReq → List WrReq
  | _, [] => []
  | rs, w :: t =>
    if rs.any (fun r => w.meets r.1 r.2) then mustLand ((w.addr, w.data.length) :: rs) t ++ [w] else mustLand rs t

/-- The waiting writes issued before number `n` that have to reach the DRAM before a request for a range does (R289). -/
def State.before (s : State) (n a len : Nat) : List WrReq :=
  mustLand [(a, len)] (s.waiting.filter (fun w => decide (w.seq < n))).reverse

/-- Waiting writes leave their queues and the spillway and reach the DRAM, in the order given. -/
def landAll (ws : List WrReq) (s : State) : State :=
  if ws.isEmpty then s
  else
    let stays (w : WrReq) : Bool := !ws.contains w
    let s := (List.range 8).foldl (fun s m => s.setMch m { s.mch m with wq := (s.mch m).wq.filter stays }) s
    let s := showSpill { s with mem := { s.mem with spill := s.mem.spill.filter stays } }
    ws.foldl (fun s w => landWrite w s) s

/-- The waiting writes that meet a range reach the DRAM, with the writes issued before them to the same lines, in the order of their
issue (R289). -/
def settleRange (a n : Nat) (s : State) : State := landAll (mustLand [(a, n)] s.waiting.reverse) s

/-- The channels on which a read has to wait for a write: those of the lines that both touch (R289). -/
def State.rawChans (s : State) (a n : Nat) : List Nat :=
  (List.range 8).filter (fun m => s.waiting.any (fun w =>
    w.meets a n && (
      let lo := max (a / 64) (w.addr / 64)
      let hi := min ((a + n - 1) / 64) ((w.addr + w.data.length - 1) / 64)
      (s.chansOf (64 * lo) (64 * (hi + 1 - lo))).contains m)))

/-- RAW_WAIT counts a read that waits, on each channel on which it does (R289). -/
def countRaw (a n : Nat) (s : State) : State := (s.rawChans a n).foldl (fun s m => s.bump (Reg.MCH_RAW_WAIT m) 1) s

/-- A write takes its place in the order of issue. -/
def numberWrite (w : WrReq) (s : State) : WrReq × State :=
  ({ w with seq := s.mem.issued }, { s with mem := { s.mem with issued := s.mem.issued + 1 } })

/-- A write that one of the device's units issues: it follows every matching write issued before it, and waits in its channel's queue
while a channel of it sleeps for STANDBY or holdover (R289, R299). -/
def memWrite (a : Nat) (d : List Byte) (s : State) : State :=
  let s := noteRange a d.length s
  if s.rangeSleeps a d.length then
    let m := s.chanOf a
    let p := numberWrite { addr := a, data := d } s
    p.2.setMch m { p.2.mch m with wq := (p.2.mch m).wq ++ [p.1] }
  else commitWrite { addr := a, data := d } (settleRange a d.length s)

/-- The read of a segment that lies in one line: bytes and poison mark (R291, R300). -/
def getSegment (a n : Nat) (s : State) : List Byte × Bool × State :=
  let m := s.chanOf a
  if s.phase m = phFault then (List.replicate n 0#8, true, s)
  else if s.isPoison (a / 64) then (s.memBytes a n, true, ueReport m (a / 64) false s)
  else (s.memBytes a n, false, s)

/-- A read cut at line boundaries. -/
def getLines : Nat → Nat → Nat → State → List Byte × Bool × State
  | 0, _, _, s => ([], false, s)
  | f + 1, a, n, s =>
    if n = 0 then ([], false, s)
    else
      let k := min n (64 - a % 64)
      let r := getSegment a k s
      let q := getLines f (a + k) (n - k) r.2.2
      (r.1 ++ q.1, r.2.1 || q.2.1, q.2.2)

/-- The byte a later read will return, without the effects of a read: pending writes first, the latest winning. -/
def State.peek (s : State) (a : Nat) : Byte :=
  match (s.waiting.filter (fun w => w.covers a)).getLast? with
  | some w => w.data.getD (a - w.addr) 0#8
  | none => s.memByte a

/-- A read that one of the device's units issues (R289): it waits for matching writes and returns their data. A unit of the device that
has to have data of a channel asleep for STANDBY or holdover works on with what it will be given (R299). -/
def memRead (a n : Nat) (s : State) : List Byte × Bool × State :=
  if s.rangeSleeps a n then
    ((List.range n).map (fun i => s.peek (a + i)), (List.range (n / 64 + 2)).any (fun i => decide (64 * (a / 64 + i) < a + n) && s.isPoison (a / 64 + i)), s)
  else getLines (n / 64 + 2) a n (settleRange a n (countRaw a n (noteRange a n s)))

/-- `n` bytes that a later read will return, as a little-endian number. -/
def State.peekNat (s : State) (a n : Nat) : Nat := ofLe ((List.range n).map (fun i => s.peek (a + i)))

/-- STATE of the dike of slot `k` of group `g`: 0 EMPTY, 1 OPEN, 2 SEALED (07 R187). -/
def State.dikeState (s : State) (g k : Nat) : Nat := (s.peek (s.dikeBase g + 64 * k)).toNat

/-- A range meets a slot or dike that holds an OPEN or SEALED dike of a group with PROTECT = 1 (07 R182). -/
def State.dikeProtected (s : State) (a n : Nat) : Bool :=
  decide (0 < n) && (List.range 16).any (fun g =>
    s.gDefined g && decide (0 < s.slotSize g) && s.on (Reg.POL_G_CTL g) F.POL_G_CTL_PROTECT &&
    (List.range (s.nPold g)).any (fun k =>
      decide (s.dikeState g k = 1 ∨ s.dikeState g k = 2) &&
      ((decide (a < s.dikeBase g + 64 * k + 64) && decide (s.dikeBase g + 64 * k < a + n)) ||
       (decide (a < s.dataBase g + s.slotSize g * (k + 1)) && decide (s.dataBase g + s.slotSize g * k < a + n)))))

/-- CRC-32 of the Ethernet frame check sequence over a byte string (07 R185). -/
def crc32Bit (c : Nat) : Nat := if c % 2 = 1 then Nat.xor (c / 2) 0xEDB88320 else c / 2
def crc32Byte (c : Nat) (b : Byte) : Nat :=
  let x := Nat.xor c b.toNat
  crc32Bit (crc32Bit (crc32Bit (crc32Bit (crc32Bit (crc32Bit (crc32Bit (crc32Bit x)))))))
def crc32 (l : List Byte) : Nat := Nat.xor (l.foldl crc32Byte 0xFFFFFFFF) 0xFFFFFFFF

/-- The test bytes of R185. -/
def ascii123456789 : List Byte := [0x31#8, 0x32#8, 0x33#8, 0x34#8, 0x35#8, 0x36#8, 0x37#8, 0x38#8, 0x39#8]

end Sys2Proof.Machine
end

