-- ==== Sys2Proof/Machine/TptBase.lean ====
section
/-! DEFINITION. Timing ports: trains, edges, FIFO, edge log (09_stimulus_and_timing_ports.md R229 to R231, R244 to R251). -/
namespace Sys2Proof.Machine

def State.tpt (s : State) (p : Nat) : TptHid := lookupD (fun _ => {}) s.tpts p
def State.setTpt (s : State) (p : Nat) (x : TptHid) : State := { s with tpts := updateD (fun _ => {}) s.tpts p x }

/-- *L* of R229 in 1/256 tick: 6,717 + 113/256 ticks. -/
def placeLag : Int := 6717 * 256 + 113

/-- `x` × 2^−k rounded half to even. -/
def rneP (k : Nat) (x : Int) : Int :=
  let q := x / 2 ^ k
  let r := x % 2 ^ k
  if r * 2 > 2 ^ k then q + 1 else if r * 2 = 2 ^ k then (if q % 2 = 0 then q else q + 1) else q

/-- *t*_place of a trigger timestamped `ts` in 1/256 tick, modulo 2^64 (R229, R10). -/
def placeOf (ts : Int) : Nat := unsx 64 (rneP 8 (ts + placeLag))

/-- The least time before an action at which the device must learn of it (R231). -/
def learnTicks : Nat := 1475

/-- MODE in force at a port: 0 OFF, 1 INPUT, 2 OUTPUT (R244); OFF while the device is UNCONFIGURED (R248). STATE: 0 OFF, 1 IDLE, 2 TRAIN (R253). -/
def State.tptMode (s : State) (p : Nat) : Nat := if s.unconf then 0 else s.get (Reg.TPT_CTL p) F.TPT_CTL_MODE
def State.tptState (s : State) (p : Nat) : Nat := s.get (Reg.TPT_STATUS p) F.TPT_STATUS_STATE
def State.setTptState (s : State) (p x : Nat) : State := s.put (Reg.TPT_STATUS p) F.TPT_STATUS_STATE x
def State.setTptLevel (s : State) (p : Nat) (b : Bool) : State := s.put (Reg.TPT_STATUS p) F.TPT_STATUS_LEVEL (b2n b)

/-- The later and the earlier of two instants (R10). -/
def tickMin (a b : Nat) : Nat := if tickBefore b a then b else a

/-- The idle level of an output and the level during a pulse (R246). -/
def State.tptIdle (s : State) (p : Nat) : Bool := s.on (Reg.TPT_CTL p) F.TPT_CTL_IDLE

/-- Edges at `e0 + i·period` for `i` below `count` (0: without end) that lie before `lim`. -/
def edgesBefore (e0 period count lim : Nat) : Nat :=
  let d := (tickDiff lim e0).toNat
  let n := if d = 0 then 0 else if period = 0 then (if count = 0 then 1 else count) else (d + period - 1) / period
  if count = 0 then n else min n count

/-- A train is accepted (R246, R247): edges of older trains at or after its first edge are cancelled, and it moves later
where its first edges come too soon after delivery (R231). A STOP that was accepted after the trigger's instant cuts it (R247). -/
def placeTrain (p place : Nat) (s : State) : State :=
  let w := s.rn (Reg.TPT_WIDTH p)
  let per := s.rn (Reg.TPT_PERIOD p)
  let c := s.get (Reg.TPT_COUNT p) F.TPT_COUNT_COUNT
  let e0 := (place + s.rn (Reg.TPT_DELAY p)) % 2 ^ 64
  let lim := (s.tick + learnTicks) % 2 ^ 64
  let late := edgesBefore e0 per c lim + edgesBefore ((e0 + w) % 2 ^ 64) per c lim
  let e := if late = 0 then e0 else lim
  let h := s.tpt p
  let cut : Option Nat := match h.stopAt with
    | none => none
    | some d => if tickBefore place d then some d else none
  if (match cut with
    | none => false
    | some d => !tickBefore e d) then s
  else
  let s := s.setTpt p { h with trains := h.trains.filter (fun t => tickBefore t.e0 e || t.active || t.held) ++
    [{ e0 := e, width := w, period := per, count := c, cut := cut }] }
  let s := s.setTptState p 2
  if late = 0 then s
  else ((s.bump (Reg.TPT_LATECNT p) late).setFlag (Reg.TPT_FLAGS p) F.TPT_FLAGS_LATE_EDGE).avDown (128 + p) late

/-- The STOPs whose instants meet `old` are forgotten: no trigger before them is still to come (R247, R10). -/
def forgetStops (old : Nat → Bool) (s : State) : State :=
  s.tpts.foldl (fun s q => if (s.tpt q.1).stopAt.any old then s.setTpt q.1 { s.tpt q.1 with stopAt := none } else s) s

/-- A trigger or command fires the port (R246, R247); a port that is not an OUTPUT ignores it. -/
def fireTrain (p place : Nat) (s : State) : State :=
  if s.tptMode p ≠ 2 then s
  else if s.tptState p = 2 ∧ s.on (Reg.TPT_CTL p) F.TPT_CTL_RETRIG = false then
    (s.bump (Reg.TPT_DROPCNT p) 1).setFlag (Reg.TPT_FLAGS p) F.TPT_FLAGS_RETRIG_DROP
  else placeTrain p place s

/-- The instant of a train's next edge; none when it has no more. -/
def Train.nextEdge (t : Train) : Option Nat :=
  let e := (t.e0 + t.i * t.period) % 2 ^ 64
  if t.active then
    match t.cut with
    | some c => some (tickMin c ((e + t.width) % 2 ^ 64))
    | none => some ((e + t.width) % 2 ^ 64)
  else if t.count ≠ 0 ∧ t.i ≥ t.count then none
  else
    match t.cut with
    | some c => if tickBefore e c then some e else (if t.held then some c else none)
    | none => some e

/-- The FIFO registers show the oldest edge (R250, R253). -/
def refreshFifo (p : Nat) (s : State) : State :=
  match (s.tpt p).fifo with
  | [] => (s.wr64 (Reg.TPT_FIFO_TS_LO p) 0).wn (Reg.TPT_FIFO_INFO p) 0
  | e :: _ => (s.wr64 (Reg.TPT_FIFO_TS_LO p) e.ts).wn (Reg.TPT_FIFO_INFO p) (2 ^ 31 + 2 ^ 30 * b2n e.rise + e.frame)

/-- An edge enters the FIFO, or is lost (R250). -/
def fifoPush (p : Nat) (e : FifoEdge) (s : State) : State :=
  let h := s.tpt p
  if h.fifo.length < 64 then refreshFifo p (s.setTpt p { h with fifo := h.fifo ++ [e] })
  else
    let s := (s.bump (Reg.TPT_LOSTCNT p) 1).setFlag (Reg.TPT_FLAGS p) F.TPT_FLAGS_FIFO_OVF
    if s.on (Reg.TPT_CTL p) F.TPT_CTL_LOG_EN then s else s.avDown (128 + p) 1

/-- Reading TPT_FIFO_INFO removes the oldest edge (R250). -/
def fifoPop (p : Nat) (s : State) : State :=
  refreshFifo p (s.setTpt p { s.tpt p with fifo := (s.tpt p).fifo.drop 1 })

/-- The 16 bytes of an edge-log entry (R251). -/
def logBytes (ts : Nat) (rise frm out gap : Bool) (num : Nat) : List Byte :=
  leBytes 8 ts ++ leBytes 1 (b2n rise + 2 * b2n frm + 4 * b2n out + 8 * b2n gap) ++ leBytes 3 num ++ leBytes 4 0

/-- Reserved flow 8152 + p writes an edge into the ring, or discards it when the ring is full, or in
STANDBY, where the memory has no power (R251; 08 R225 policy STOP; 18 R463). -/
def logEdge (p ts : Nat) (rise frm out : Bool) (num : Nat) (s : State) : State :=
  if s.on (Reg.TPT_CTL p) F.TPT_CTL_LOG_EN = false then s
  else
    let n := s.get (Reg.TPT_LOG_ENTRIES p) ⟨0, 28⟩
    let wrp := s.rn (Reg.TPT_LOG_WR p)
    let used := (wrp + 2 ^ 32 - s.rn (Reg.TPT_LOG_RD p)) % 2 ^ 32
    if used ≥ n ∨ s.dev = devStandby then
      ((s.bump (Reg.TPT_LOSTCNT p) 1).setFlag (Reg.TPT_FLAGS p) F.TPT_FLAGS_LOG_LOST).avDown (128 + p) 1
    else
      let a := s.rn (Reg.TPT_LOG_BASE_LO p) + 2 ^ 32 * s.rn (Reg.TPT_LOG_BASE_HI p) + 16 * (wrp % n)
      let s := memWrite a (logBytes ts rise frm out (s.tpt p).gapBefore num) s
      (s.setTpt p { s.tpt p with gapBefore := false }).wn (Reg.TPT_LOG_WR p) (wrp + 1)

/-- A frame edge takes the next frame number (R249). -/
def takeFrame (p : Nat) (s : State) : Nat × State :=
  let n := s.get (Reg.TPT_FRAME_NEXT p) ⟨0, 24⟩
  (n, s.wn (Reg.TPT_FRAME_NEXT p) ((n + 1) % 2 ^ 24))

/-- What a placed or stamped edge was: its instant, direction after INV, and frame number where it is a frame edge. -/
structure EdgeOut where
  port  : Nat
  ts    : Nat
  rise  : Bool
  frame : Option Nat
  deriving DecidableEq, Repr

/-- A train without further edges gives way to the next one; the port is IDLE after the last (R246, R247). -/
def endTrains (p : Nat) (s : State) : State :=
  let h := s.tpt p
  match h.trains with
  | [] => if s.tptState p = 2 then s.setTptState p 1 else s
  | t :: rest =>
    if t.nextEdge.isSome then s
    else
      let s := s.setTpt p { h with trains := rest }
      if rest.isEmpty then s.setTptState p 1 else s

/-- The present train is over at the next train's first edge, where that comes before its own next edge: once that instant has
come, an active pulse is carried over (R247). -/
def shiftTrains (p : Nat) (s : State) : State :=
  let h := s.tpt p
  match h.trains with
  | t :: u :: rest =>
    let due := !tickBefore s.tick u.e0 && match t.nextEdge with
      | none => true
      | some e => !tickBefore e u.e0
    if due then s.setTpt p { h with trains := { u with held := t.active || t.held } :: rest } else s
  | _ => s

/-- The next edge of the port's train is placed when its instant has come (R246, R249): the edge it was, and the state. -/
def trainEdge (p : Nat) (s : State) : Option EdgeOut × State :=
  let s := shiftTrains p s
  let h := s.tpt p
  match h.trains with
  | [] => (none, s)
  | t :: rest =>
    match t.nextEdge with
    | none => (none, endTrains p s)
    | some e =>
      if tickBefore s.tick e then (none, s)
      else
        let returns := t.active || (t.held && t.cut == some e)
        let silent := !returns && t.held
        let t' := if returns then { t with active := false, held := false, i := t.i + 1 } else { t with active := true, held := false }
        let s := s.setTpt p { h with trains := t' :: rest }
        let s := s.setTptLevel p (if returns then s.tptIdle p else !s.tptIdle p)
        let s := if silent then s else (s.bump (Reg.TPT_EDGECNT p) 1).avUp (128 + p) 1
        let frm := !returns && s.on (Reg.TPT_CTL p) F.TPT_CTL_FRAME
        if frm then
          let f := takeFrame p s
          (some ⟨p, e, true, some f.1⟩, endTrains p (logEdge p e true true true f.1 f.2))
        else (some ⟨p, e, !returns, none⟩, endTrains p s)

/-- STOP at the port cancels every edge at or after acceptance plus *L* (R247). -/
def stopTrains (p : Nat) (s : State) : State :=
  let c := placeOf (s.now256 : Nat)
  let cutOf (t : Train) : Train := { t with cut := some (match t.cut with
    | some d => tickMin c d
    | none => c) }
  let s := s.setTpt p { s.tpt p with
    stopAt := some c, trains := ((s.tpt p).trains.filter (fun t => tickBefore t.e0 c || t.held || t.active)).map cutOf }
  endTrains p s

/-- Outputs go to their idle level and trains are abandoned (R248). -/
def abandonTrains (p : Nat) (s : State) : State :=
  let s := s.setTpt p { s.tpt p with trains := [] }
  if s.tptMode p = 2 then (s.setTptLevel p (s.tptIdle p)).setTptState p 1 else s

/-- The sample synthesiser is locked and its outputs run, so that inputs stamp (R248; 10 R265). -/
def State.timebaseRuns (s : State) : Bool :=
  s.clk.lossD.isNone && !s.on Reg.CKS_STATUS F.CKS_STATUS_FROZEN && s.on Reg.CKS_STATUS F.CKS_STATUS_LOCKED

/-- An edge from outside at the ball of a port at `ts` ticks, rising or falling there (R245, R248 to R251): what it was after
inversion, where it was stamped (none outside the port in STANDBY), and the state. A port that is OFF shows the ball's level. -/
def inputEdge (p ts : Nat) (riseBall : Bool) (s : State) : Option EdgeOut × State :=
  if s.tptMode p = 2 then (none, s)
  else
    let h := s.tpt p
    let near := match h.lastBall with
      | none => false
      | some l => decide (tickDiff ts l < 64)
    let rise := riseBall != s.on (Reg.TPT_CTL p) F.TPT_CTL_INV
    let s := (s.setTpt p { h with lastBall := some ts, ball := riseBall }).setTptLevel p riseBall
    if s.tptMode p ≠ 1 then (none, s)
    else if s.timebaseRuns = false then
      (none, if s.dev = devStandby then s.setFlag (Reg.TPT_FLAGS p) F.TPT_FLAGS_EDGE else s)
    else if near then
      (none, ((s.setFlag (Reg.TPT_FLAGS p) F.TPT_FLAGS_GLITCH).avUp (128 + p) 1).avDown (128 + p) 1)
    else
      let s := ((s.bump (Reg.TPT_EDGECNT p) 1).avUp (128 + p) 1).setFlag (Reg.TPT_FLAGS p) F.TPT_FLAGS_EDGE
      let frm := s.on (Reg.TPT_CTL p) F.TPT_CTL_FRAME && rise
      let f := if frm then takeFrame p s else (0, s)
      let s := logEdge p ts rise frm false f.1 (fifoPush p ⟨ts, rise, f.1⟩ f.2)
      (if s.dev = devStandby then none else some ⟨p, ts, rise, if frm then some f.1 else none⟩, s)

end Sys2Proof.Machine
end

