-- ==== Sys2Proof/Machine/FastIn.lean ====
section
/-! DEFINITION. Fast input ports: enable and stop, frames, over range, capture buffers, counts (03_fast_inputs.md;
01_architecture.md R29). -/
namespace Sys2Proof.Machine

/-- The checks of a write of FCH_CTL: values (R71, R76, R80), the running group (R90), then the states of R77 and R90. The order
among them is the model's: 15 R399 gives none (DESIGN CHOICE, log entry 121). -/
def fchCtlCheck (n : Nat) (v : Word) (s : State) : WStat :=
  let chg (f : Fld) : Bool := fldGet f v != s.get (Reg.FCH_CTL n) f
  let odd := n % 2 == 1
  firstOf [
    (fldGet F.FCH_CTL_MODE v == 3, .valueRefused),
    (fldGet F.FCH_CTL_BWL v == 3, .valueRefused),
    (odd && fldGet F.FCH_CTL_PAIRED v == 1, .valueRefused),
    (odd && fldGet F.FCH_CTL_ENABLE v == 1 && s.paired (n - 1), .valueRefused),
    (s.unitRunning (Reg.FCH_STATUS n), .gated),
    (!odd && fldGet F.FCH_CTL_PAIRED v == 1 && chg F.FCH_CTL_PAIRED && s.fchState (n + 1) != 0, .stateRefused),
    (s.fchState n != 0 && (chg F.FCH_CTL_PAIRED || chg F.FCH_CTL_BWL || chg F.FCH_CTL_MODE), .stateRefused)]

/-- The odd port of a pair reads PARTNER while the even port's PAIRED is 1 (R77). -/
def showPartner (n : Nat) (s : State) : State :=
  if n % 2 = 1 then s
  else if s.paired n then s.setFchState (n + 1) 3
  else if s.fchState (n + 1) = 3 then s.setFchState (n + 1) 0
  else s

/-- The frame boundary that follows a tick count (R10, R72). -/
def nextBoundary (t : Nat) : Nat := (t / frameTicks + 1) * frameTicks % 2 ^ 64

/-- A port in OFF with ENABLE = 1 is powered: it starts (R88, R91). It stays OFF in UNCONFIGURED (01 R32), while STANDBY is
entered, and until its tile's domain is ON, when 18 R457 starts it (DEDUCED, log entry 119). -/
def portStart (n : Nat) (s : State) : State :=
  if s.on (Reg.FCH_CTL n) F.FCH_CTL_ENABLE ∧ s.fchState n = 0 ∧ s.unconf = false ∧ s.domOn (n / 4) ∧ s.pwr.entering.isNone then
    (s.setFchState n 1).refreshPlans
  else s

/-- Lanes 8 to 15 exist on a paired port only: their counts read 0 otherwise (R92). -/
def dropPairLanes (n : Nat) (s : State) : State :=
  if s.paired n then s else (List.range 4).foldl (fun s k => s.wn (Reg.FCH_LANELOST n (4 + k)) 0) s

/-- A disable is accepted: a RUNNING port ends at the next frame boundary, a POWERING port is OFF at once (R89); a
calibration step on it is abandoned (04 R107). -/
def beginStop (n : Nat) (s : State) : State :=
  match s.fchState n with
  | 1 => (s.setFchState n 0).refreshPlans
  | 2 =>
    let s := abandonStep n s
    let h := s.fch n
    if h.stopping then s else s.setFch n { h with stopping := true, stopAt := nextBoundary s.tick }
  | _ => s

/-- An accepted write of FCH_CTL (R88, R89); a port no longer paired steps through its own 64 slices again (04 R97). -/
def fchCtlApply (n : Nat) (v : Word) (s : State) : State :=
  let s := fixSlice n (dropPairLanes n (showPartner n (s.applyFields (Reg.FCH_CTL n) v)))
  if s.on (Reg.FCH_CTL n) F.FCH_CTL_ENABLE then portStart n s else beginStop n s

/-- A write of FCH_CTL. -/
def writeFchCtl (n : Nat) (v : Word) (s : State) : WStat × State :=
  s.writeIf (Reg.FCH_CTL n) (fchCtlCheck n v s) (fchCtlApply n v)

/-- The pattern code is taken over at a frame boundary (R92). -/
def latchPattern (n : Nat) (s : State) : State :=
  s.setFch n { s.fch n with pattern := s.get (Reg.FCH_PATTERN n) F.FCH_PATTERN_CODE }

/-- A POWERING port is ready at this frame boundary: RUNNING, its first frame begins now (R88). -/
def portReady (n : Nat) (s : State) : State :=
  if s.fchState n ≠ 1 ∨ isFrame s.tick = false ∨ s.on Reg.CKS_STATUS F.CKS_STATUS_FROZEN then s
  else
    let s := (s.setFchState n 2).wr64 (Reg.FCH_START_TS_LO n) s.tick
    let s := s.setFch n { nextFrame := s.tick, adjOld := (s.fch n).adjOld, adjFrom := (s.fch n).adjFrom }
    (latchPattern n (unconverge n (loadTrims n (loadSpares (n / 4) s)))).refreshPlans

/-- PORT_READY (R88). -/
def execPortReady (n : Fin 16) (s : State) : Host.Outcome State Fault Refusal := .next (portReady n s)

/-- The stream of a stopping port ends once its last frame is handed over (R89); a port that has been enabled again starts anew
(DEDUCED, log entry 16). -/
def portStop (n : Nat) (s : State) : State :=
  let h := s.fch n
  if s.fchState n ≠ 2 ∨ h.stopping = false ∨ tickBefore s.tick h.stopAt ∨ tickBefore h.nextFrame h.stopAt then s
  else
    let s := (s.setFchState n 0).wr64 (Reg.FCH_STOP_TS_LO n) h.stopAt
    portStart n ((s.setFch n { adjOld := (s.fch n).adjOld, adjFrom := (s.fch n).adjFrom }).publish n .endStream).refreshPlans

/-- The lane of sample `i` of a frame (R73, R76). -/
def laneOf (paired : Bool) (i : Nat) : Nat := if paired then (if i % 2 = 0 then i / 2 % 8 else 8 + i / 2 % 8) else i % 8

/-- A word is discarded at the capture buffer of a lane (01 R29; R92): counts, flag, and GAP on the lane's next word. -/
def discardWord (n lane f : Nat) (s : State) : State :=
  let a := Reg.FCH_LANELOST n (lane / 2)
  let fl := if lane % 2 = 0 then F.FCH_LANELOST_EVEN else F.FCH_LANELOST_ODD
  let s := (s.bump (Reg.FCH_LOSTCNT n) 1).bumpFld a fl 1
  let h := s.fch n
  let s := s.setFch n { h with gapLanes := if h.gapLanes.contains lane then h.gapLanes else lane :: h.gapLanes }
  (s.setFlag (Reg.FCH_FLAGS n) F.FCH_FLAGS_LOST).badFrame n f

/-- The capture buffer of a lane is full: it holds 64 words (01 R29). -/
def State.laneFull (s : State) (n lane : Nat) : Bool := decide (64 ≤ s.laneLoad n lane)

/-- The fabric may fail to take a word of a lane of port `n` in time: its words wait, or TST_HSD slows the tile's region, or the region's
margin lies below 0x1000 (01 R29; 02 R67; 19 R486). -/
def State.mayDiscard (s : State) (n lane : Nat) : Bool :=
  s.laneFull n lane || s.hsdSlow (n / 4) ||
    (s.on (Reg.FAB_RCAP (n / 4)) F.FAB_RCAP_VALID && decide (s.get (Reg.FAB_RMARGIN (n / 4)) F.FAB_RMARGIN_MARGIN < 0x1000))

/-- CAPTURE_DISCARD (01 R29): a word of the lane finds its buffer full, where that may be; otherwise, and on a lane or port without a
stream, no effect. -/
def execCaptureDiscard (n lane : Fin 16) (s : State) : Host.Outcome State Fault Refusal :=
  .next (if s.fchState n = 2 ∧ s.mayDiscard n lane ∧ (lane.val < 8 ∨ s.paired n) then
    discardWord n lane (s.tick / frameTicks * frameTicks) s else s)

/-- The code of a sample at `t` ticks and whether it is over range (R78 to R80). -/
def sampleCode (n t : Nat) (x : Sample) (s : State) : Int × Bool :=
  match s.get (Reg.FCH_CTL n) F.FCH_CTL_MODE with
  | 1 => (64 * (((t / s.period n % 4096 : Nat) : Int) - 2048), false)
  | 2 => (64 * sext 12 (s.fch n).pattern, false)
  | _ => if x.rail.val = 1 then (131071, true) else if x.rail.val = 2 then (-131072, true) else (64 * x.code.toInt, false)

/-- An over-range sample counts and sets the flag of its sign (R81). -/
def noteOver (n : Nat) (w : Int) (s : State) : State :=
  let s := s.bump (Reg.FCH_OVRCNT n) 1
  if w < 0 then s.setFlag (Reg.FCH_FLAGS n) F.FCH_FLAGS_OVR_NEG else s.setFlag (Reg.FCH_FLAGS n) F.FCH_FLAGS_OVR_POS

/-- A word named `t` lies between a declared loss of lock and its freeze (10 R265). -/
def State.fltAt (s : State) (t : Nat) : Bool :=
  s.clk.lossFlt && match s.clk.lossD with
    | none => false
    | some d => !tickBefore t d

/-- Sample `i` of the frame that began at `f` is handed to the fabric on its lane, or discarded there (R72, R76, R78). -/
def handSample (n f i : Nat) (x : Sample) (s : State) : State :=
  let t := f + s.period n * i
  let c := sampleCode n t x s
  let s := if c.2 then noteOver n c.1 s else s
  let lane := laneOf (s.paired n) i
  if s.laneFull n lane then discardWord n lane f s
  else
    let h := s.fch n
    let gap := h.gapFirst || h.gapLanes.contains lane
    let flt := s.fltAt t
    let s := if flt then s.badFrame n f else s
    let s := s.setFch n { h with gapFirst := false, gapLanes := h.gapLanes.filter (fun l => l != lane), badFrames := (s.fch n).badFrames }
    let tags := (if c.2 then tagOVR else 0) + (if gap then tagGAP else 0) + (if flt then tagFLT else 0)
    s.publish n (.word { w := mkWord c.1 tags, name := (t * 256 : Nat), lane := lane })

/-- Samples `i` and up of a frame. -/
def handSamples (n f : Nat) : Nat → List Sample → State → State
  | _, [], s => s
  | i, x :: t, s => handSamples n f (i + 1) t (handSample n f i x s)

/-- The conversions of a frame: those given, and free values for samples the command does not give. -/
def frameSamples (s : State) (n : Nat) (given : List Sample) : List Sample :=
  (List.range (if s.paired n then 128 else 64)).map (fun i =>
    given.getD i ⟨BitVec.ofNat 12 (Config.freeNat s.free i), 0⟩)

/-- A running calibration step withholds the frame that began at `f` (04 R98). -/
def State.withheld (s : State) (n f : Nat) : Bool :=
  let h := s.fch n
  h.hold && !tickBefore f h.holdFrom && match h.holdTo with
    | none => true
    | some t => tickBefore f t

/-- Trims restored by RESTORE_FACTORY are loaded at a frame boundary (04 R106). -/
def restoreTrims (n : Nat) (s : State) : State :=
  if (s.calPort n).restore then loadTrims n (s.setCalPort n { s.calPort n with restore := false }) else s

/-- A frame of port `n` that its stream includes ends at frame boundary `b` (R72, R89). -/
def State.frameEnds (s : State) (n b : Nat) : Bool :=
  let h := s.fch n
  s.fchState n == 2 && (h.nextFrame + frameTicks) % 2 ^ 64 == b && !(h.stopping && !tickBefore h.nextFrame h.stopAt)

/-- An instant lies a quarter of the count's range before frame boundary `b`: nothing that it divides is left (R10). -/
def longAgo (b : Nat) (x : Int) : Bool := decide (2 ^ 62 ≤ tickDiff b (unsx 64 (x / 256)))

/-- What a hand-over replaced, and the holdoffs, dead times and conditions of trigger units that have long ended, are forgotten before a
difference of instants could change its sign (R10; 06_triggers.md R158, R159; 17_configuration_images.md R440). -/
def forgetCuts (b : Nat) (s : State) : State :=
  let s := s.fchs.foldl (fun s p => if p.2.adjFrom.any (longAgo b) then s.setFch p.1 { s.fch p.1 with adjFrom := none } else s) s
  let old (x : Option Int) : Option Int := if x.any (longAgo b) then none else x
  let s := s.trus.foldl (fun s p =>
    let h := p.2
    if [h.holdTo, h.lastPass, h.coin, h.tA].any (fun x => x.any (longAgo b)) then
      let h := { h with holdTo := old h.holdTo, lastPass := old h.lastPass, coin := old h.coin, tA := old h.tA }
      { s with trus := updateD (fun _ => {}) s.trus p.1 h }
    else s) s
  let s := s.trus.foldl (fun s p =>
    if p.2.frameCut.any (fun c => longAgo b c.1) then { s with trus := updateD (fun _ => {}) s.trus p.1 { lookupD (fun _ => ({} : TruHid)) s.trus p.1 with frameCut := none } } else s) s
  s.wacs.foldl (fun s p => if p.2.offCut.any (fun c => longAgo b c.1) then { s with wacs := updateD (fun _ => {}) s.wacs p.1 { p.2 with offCut := none } } else s) s

/-- Port `n` at frame boundary `b`: it hands over the frame that ends there, if one of its frames does (R72, R73). Over-range samples
of a frame that a calibration step withholds neither count nor set flags (R81; DESIGN CHOICE, log entry 120). -/
def portFrame (b : Nat) (conv : List (Nat × List Sample)) (s : State) (n : Nat) : State :=
  if s.frameEnds n b = false then latchPattern n (restoreTrims n s)
  else
    let f := (s.fch n).nextFrame
    let given := match conv.find? (fun p => p.1 == n) with
      | some p => p.2
      | none => []
    let s := s.avUp n 1
    let smp := frameSamples s n given
    let s := if s.withheld n f then s.badFrame n f else handSamples n f 0 smp s
    let h := s.fch n
    let done := match h.holdTo with
      | some t => !tickBefore f t
      | none => false
    let s := s.setFch n { h with nextFrame := b, hold := h.hold && !done, holdTo := if done then none else h.holdTo }
    latchPattern n (restoreTrims n s)

/-- FRAME_BOUNDARY (R72; 19 R473, R483): the next frame boundary at or before the present tick passes; with none passed
there is no effect. -/
def frameBoundary (conv : List (Nat × List Sample)) (s : State) : State :=
  let b := (s.lastFrame + frameTicks) % 2 ^ 64
  if tickBefore s.tick b then s
  else
    let s := { s with lastFrame := b }
    let s := ((List.range 16).foldl (portFrame b conv) (countHigh b (forgetStops (fun d => longAgo b ((d * 256 : Nat) : Int)) (forgetCuts b s)))).useFree
    (List.range 16).foldl (fun s n => if s.get (Reg.STO_STATUS n) F.STO_STATUS_STATE = 3 then s.stoUp n (b / frameTicks) else s) s

/-- FRAME_BOUNDARY (R72). -/
def execFrameBoundary (conv : List (Nat × List Sample)) (s : State) : Host.Outcome State Fault Refusal :=
  .next (frameBoundary conv s)

/-- OVR_HARD (R82): a hard comparator of a powered port trips. -/
def execOvrHard (n : Fin 16) (s : State) : Host.Outcome State Fault Refusal :=
  .next (if s.portUp n then s.setFlag (Reg.FCH_FLAGS n) F.FCH_FLAGS_OVR_HARD else s)

/-- Clear FCH_LOSTCNT and every lane count (R92). -/
def clearLost (n : Nat) (s : State) : State :=
  s.clearCounts (Reg.FCH_LOSTCNT n :: (List.range 8).map (Reg.FCH_LANELOST n))

/-- FCH_CLR_LOST (R92). -/
def execFchClrLost (n : Fin 16) (s : State) : Host.Outcome State Fault Refusal :=
  .next (s.hostReg (Reg.FCH_CNTCLR n) (clearLost n s))

/-- Clear FCH_OVRCNT (R92). -/
def clearOvr (n : Nat) (s : State) : State := s.clearCounts [Reg.FCH_OVRCNT n]

/-- FCH_CLR_OVR (R92). -/
def execFchClrOvr (n : Fin 16) (s : State) : Host.Outcome State Fault Refusal :=
  .next (s.hostReg (Reg.FCH_CNTCLR n) (clearOvr n s))

/-- A write of a register of FCH[n] (R90, R92). -/
def writeFch (n a : Nat) (v : Word) (s : State) : WStat × State :=
  if a = Reg.FCH_CTL n then writeFchCtl n v s
  else if a = Reg.FCH_TS_ADJ n then
    s.writeIf a (firstOf [(s.unitRunning (Reg.FCH_STATUS n), .gated)])
      (fun s => (s.setFch n { s.fch n with adjFrom := none }).applyFields a v)
  else if a = Reg.FCH_CNTCLR n then
    s.writeIf a .ok (fun s =>
      let s := if fldGet F.FCH_CNTCLR_CLR_LOST v = 1 then clearLost n s else s
      if fldGet F.FCH_CNTCLR_CLR_OVR v = 1 then clearOvr n s else s)
  else s.writeIf a .ok (fun s => s.applyFields a v)

end Sys2Proof.Machine
end

