-- ==== Sys2Proof/Machine/ChainBase.lean ====
section
/-! DEFINITION. What other units hand to the chain: trigger messages (16_eweone_chain.md R402, R407, R414, R415), and the
queueing of message cells (R403, R405). -/
namespace Sys2Proof.Machine

/-- CRC-16 over the bytes of a cell (R402): polynomial 0x1021, initial value 0xFFFF, no final inversion. -/
def crc16Bit (c : Nat) : Nat := if c ≥ 0x8000 then Nat.xor (c * 2 % 65536) 0x1021 else c * 2
def crc16Byte (c : Nat) (b : Byte) : Nat :=
  crc16Bit (crc16Bit (crc16Bit (crc16Bit (crc16Bit (crc16Bit (crc16Bit (crc16Bit (Nat.xor c (b.toNat * 256)))))))))
def crc16 (l : List Byte) : Nat := l.foldl crc16Byte 0xFFFF

/-- Bytes 1 to 15 of a cell: its content and the CRC-16, low byte first (R402). -/
def cellBytes (content : List Byte) : List Byte := content ++ leBytes 2 (crc16 content)

/-! The 8b/10b code with running disparity (R402; the code tables are those of IEEE 802.3 Clause 36, which the spec names and does not
print: PRESUMED, log 145). -/

/-- The 5b/6b and 3b/4b codes at negative running disparity, first bit first. -/
def code6 : List Nat :=
  [0b100111, 0b011101, 0b101101, 0b110001, 0b110101, 0b101001, 0b011001, 0b111000] ++
  [0b111001, 0b100101, 0b010101, 0b110100, 0b001101, 0b101100, 0b011100, 0b010111] ++
  [0b011011, 0b100011, 0b010011, 0b110010, 0b001011, 0b101010, 0b011010, 0b111010] ++
  [0b110011, 0b100110, 0b010110, 0b110110, 0b001110, 0b101110, 0b011110, 0b101011]
def code4 : List Nat := [0b1011, 0b1001, 0b0101, 0b1100, 0b1101, 0b1010, 0b0110, 0b1110]
/-- The 3b/4b codes of K28.*y* behind 001111. -/
def codeK4 : List Nat := [0b0100, 0b1001, 0b0101, 0b0011, 0b0010, 0b1010, 0b0110, 0b1000]

/-- Ones among `w` bits. -/
def onesOf (w x : Nat) : Nat := (List.range w).countP (fun i => bitOf x i)

/-- A code of `w` bits, given for negative disparity, at the present one: whether that is positive after it, and the code. `turns`: a
balanced code that has two forms. -/
def atDisparity (w : Nat) (turns plus : Bool) (x : Nat) : Bool × Nat :=
  let even := decide (2 * onesOf w x = w)
  (if even then plus else !plus, if plus && (turns || !even) then 2 ^ w - 1 - x else x)

/-- A data byte's symbol at a running disparity, and the disparity after it. -/
def codeData (plus : Bool) (b : Nat) : Bool × Nat :=
  let x := b % 32
  let y := b / 32
  let p := atDisparity 6 (x == 7) plus (code6.getD x 0)
  let alt := y == 7 && (if p.1 then [11, 13, 14].contains x else [17, 18, 20].contains x)
  let q := atDisparity 4 (y == 3) p.1 (if alt then 0b0111 else code4.getD y 0)
  (q.1, 16 * p.2 + q.2)

/-- The symbol of a K28 character. -/
def codeK28 (plus : Bool) (k : Nat) : Bool × Nat :=
  let f := codeK4.getD (k / 32) 0
  let sym := 16 * 0b001111 + f
  (if onesOf 10 sym = 5 then plus else !plus, if plus then 1023 - sym else sym)

/-- The symbols of a cell: its K character, then its bytes. -/
def codeCell (plus : Bool) (k : Nat) (bytes : List Byte) : Bool × List Nat :=
  let p := codeK28 plus k
  bytes.foldl (fun r b =>
    let q := codeData r.1 b.toNat
    (q.1, r.2 ++ [q.2])) (p.1, [p.2])

/-- A field of `b` bits extended to the 64-bit value congruent to it and nearest to tick count `now` (R407), tick counts being
modular 2^64 (00_scope.md R10). -/
def extendTicks (b v now : Nat) : Nat :=
  let m := 2 ^ b
  let up := (v + m - now % m) % m
  (if up < m / 2 then now + up else now + (2 ^ 64 - m) + up) % 2 ^ 64

/-- A port of the chain: 0 upstream, 1 downstream. -/
def State.port (s : State) (i : Nat) : ChnPort := if i = 0 then s.chn.up else s.chn.down
def State.setPort (s : State) (i : Nat) (p : ChnPort) : State :=
  if i = 0 then { s with chn := { s.chn with up := p } } else { s with chn := { s.chn with down := p } }

/-- The link of a port is up (R404). -/
def State.linkUp (s : State) (i : Nat) : Bool :=
  if i = 0 then s.on Reg.CHN_STATUS F.CHN_STATUS_UP_LINK else s.on Reg.CHN_STATUS F.CHN_STATUS_DOWN_LINK

/-- A trigger cell enters a port's queue of 16, or is dropped (R414). -/
def queueTrig (i : Nat) (c : List Byte) (s : State) : State :=
  if s.linkUp i = false then s
  else
    let p := s.port i
    if p.trigQ.length < 16 then s.setPort i { p with trigQ := p.trigQ ++ [c] }
    else (s.bump Reg.CHN_TRIGDROP 1).setFlag Reg.CHN_FLAGS F.CHN_FLAGS_TRIG_DROP

/-- A message cell, without its LSEQ, waits for transmission on a port (R403, R405); `own`: an EVENT of this device. -/
def queueMsg (own : Bool) (i : Nat) (typ src : Nat) (payload : List Byte) (s : State) : State :=
  if s.linkUp i = false then s
  else
    let p := s.port i
    let pad := (payload ++ List.replicate 10 0#8).take 10
    s.setPort i { p with msgQ := p.msgQ ++ [⟨leBytes 1 typ ++ leBytes 1 src ++ leBytes 1 0 ++ pad, own⟩] }

/-- The chain address. -/
def State.chnAddr (s : State) : Nat := s.get Reg.CHN_STATUS F.CHN_STATUS_ADDR

/-- A chain trigger waits for its release, in order of release, then of arrival (R415). -/
def insertTrig (t : ChnTrig) : List ChnTrig → List ChnTrig
  | [] => [t]
  | u :: r => if tickBefore t.release u.release then t :: u :: r else u :: insertTrig t r

def awaitTrig (t : ChnTrig) (s : State) : State := { s with chn := { s.chn with await := insertTrig t s.chn.await } }

/-- A delivered trigger with CHAIN_OUT leaves on both ports (R414), and with LOOPBACK is taken by the device's own CHAIN units
as well (R415; TRIGRX counts messages taken, R425). `ts` in 1/256 tick. -/
def chainSend (line latency : Nat) (ts : Int) (s : State) : State :=
  let t := unsx 72 ts
  let ofs := (latency + s.rn Reg.CHN_RELEASE) % 2 ^ 32
  let c := leBytes 1 (line % 16) ++ leBytes 1 s.chnAddr ++ leBytes 1 s.chn.tseq ++ leBytes 5 (t / 256) ++
    leBytes 1 t ++ leBytes 4 ofs
  let s := { s with chn := { s.chn with tseq := (s.chn.tseq + 1) % 256 } }
  let s := queueTrig 1 c (queueTrig 0 c (s.bump Reg.CHN_TRIGTX 1))
  if s.on Reg.CHN_CTL F.CHN_CTL_LOOPBACK then
    awaitTrig ⟨line, (t / 256 + ofs) % 2 ^ 64, t % 2 ^ 72⟩ (s.bump Reg.CHN_TRIGRX 1) else s

end Sys2Proof.Machine
end

