-- ==== Sys2Proof/Machine/StoBase.lean ====
section
/-! DEFINITION. Stimulus outputs: acceptance of triggers, plays, the word path from the prime buffer to the DAC code, safe
output (09_stimulus_and_timing_ports.md R229 to R243). -/
namespace Sys2Proof.Machine

def State.sto (s : State) (n : Nat) : StoHid := lookupD (fun _ => {}) s.stos n
def State.setSto (s : State) (n : Nat) (x : StoHid) : State := { s with stos := updateD (fun _ => {}) s.stos n x }

/-- STATE of an output: 0 OFF, 1 PRIMING, 2 ARMED, 3 PLAYING (R238, R252). -/
def State.stoState (s : State) (n : Nat) : Nat := s.get (Reg.STO_STATUS n) F.STO_STATUS_STATE
def State.setStoState (s : State) (n x : Nat) : State := s.put (Reg.STO_STATUS n) F.STO_STATUS_STATE x

def State.stoLen (s : State) (n : Nat) : Nat := s.rn (Reg.STO_LENGTH n)
def State.stoGen (s : State) (n : Nat) : Bool := s.get (Reg.STO_CTL n) F.STO_CTL_SRC == 1

/-- *k* of R233; a generator bypasses the interpolator. -/
def State.stoK (s : State) (n : Nat) : Nat := if s.stoGen n then 0 else s.get (Reg.STO_CTL n) F.STO_CTL_LOG2_I

/-- *T*_src and *T*_tail in ticks (R233, R239). -/
def State.tSrc (s : State) (n : Nat) : Nat := 64 * 2 ^ s.stoK n
def State.tTail (s : State) (n : Nat) : Nat := 1024 + 1472 * (2 ^ s.stoK n - 1)

/-- The output re-arms at once after a play (R238). -/
def State.rearms (s : State) (n : Nat) : Bool :=
  s.stoGen n || (decide (1 ≤ s.stoLen n) && decide (s.stoLen n ≤ 4096))

/-- Words the prime buffer must hold before the output arms (R238). -/
def State.primeNeed (s : State) (n : Nat) : Nat := if s.stoLen n = 0 then 4096 else min (s.stoLen n) 4096

/-- A trigger or command with placement `place` and cause `cause` reaches the output (R238, R240). Plays accepted before and placed
at or after `place` are abandoned whole. -/
def stoAccept (n place cause : Nat) (s : State) : State :=
  let drop (f : Fld) : State := (s.bump (Reg.STO_DROPCNT n) 1).setFlag (Reg.STO_FLAGS n) f
  let acc (s : State) : State :=
    let s := s.setSto n { s.sto n with next := (s.sto n).next.filter (fun q => tickBefore q.place place) ++ [⟨place, cause⟩] }
    let s := (s.bump (Reg.STO_TRIGCNT n) 1).wr64 (Reg.STO_LAST_TS_LO n) place
    ((s.wn (Reg.STO_LAST_INFO n) (2 ^ 8 * ((64 - place % 64) % 64) + cause)).setStoState n 3).stoUp n (s.tick / 1024)
  match s.stoState n with
  | 0 => drop F.STO_FLAGS_NOT_READY
  | 1 => drop F.STO_FLAGS_NOT_READY
  | 2 => acc s
  | _ =>
    if s.on (Reg.STO_CTL n) F.STO_CTL_RETRIG && s.rearms n then (acc s).setFlag (Reg.STO_FLAGS n) F.STO_FLAGS_RESTARTED
    else drop F.STO_FLAGS_RETRIG_DROP

/-- A delivered trigger reaches a stimulus output (R229, R231, R240). -/
def stoTrigger (n : Nat) (ts : Int) (unit : Nat) (s : State) : State :=
  let p := placeOf ts
  let st := s.stoState n
  if tickDiff p s.tick < (learnTicks : Int) ∧ (st = 2 ∨ (st = 3 ∧ s.on (Reg.STO_CTL n) F.STO_CTL_RETRIG ∧ s.rearms n)) then
    (stoAccept n ((s.tick + learnTicks) % 2 ^ 64) unit s).setFlag (Reg.STO_FLAGS n) F.STO_FLAGS_LATE
  else stoAccept n p unit s

/-! ### The word path (R232 to R237) -/

/-- The instants from which on words of play `p` are abandoned or take IDLE: a stop, and the next accepted play (R240, R241). A stop
that has taken effect belongs to the play at the output, or to the word that an ended one holds. -/
def StoHid.limits (h : StoHid) (p : Play) : List Nat :=
  (if h.cur = some p ∨ (h.cur = none ∧ h.ended = some p) then (match h.stopped with
    | some st => [st]
    | none => h.stopAt.toList) else h.stopAt.toList) ++
  (h.next.filter (fun q => tickBefore p.place q.place)).map (fun q => q.place)

/-- Word `i` of the waveform of play `p` with its tags (R232, R239 to R242; 02 R47): a replaced word is IDLE and carries FLT. After the
end of a play every word is the one that HOLD keeps, up to a stop, or IDLE. -/
def stoFWord (s : State) (n : Nat) (p : Play) (i : Int) : FWord :=
  let h := s.sto n
  let len := s.stoLen n
  let raw (j : Nat) : FWord :=
    if s.stoGen n then mkWord (h.gen.getD (j - h.gbase) h.idle) 0
    else if h.missing.contains j then mkWord h.idle tagFLT
    else mkWord (if j < h.base then h.idle else h.prime.getD (j - h.base) h.idle) 0
  if (h.limits p).any (fun st => decide (0 ≤ tickDiff p.place st + i * (s.tSrc n : Int))) then mkWord h.idle 0
  else if h.cur ≠ some p ∧ h.ended = some p then mkWord (h.hold.getD h.idle) 0
  else if i < 0 then mkWord h.idle 0
  else
    let j := i.toNat
    let last := if len ≠ 0 then len else if h.flowEnd then h.got else j + 1
    if j < last then raw j
    else if s.on (Reg.STO_CTL n) F.STO_CTL_END ∧ last ≠ 0 then raw (last - 1) else mkWord h.idle 0

/-- The code of word `i`, in s1.17. -/
def stoWord (s : State) (n : Nat) (p : Play) (i : Int) : Int := wData (stoFWord s n p i)

/-- HB47 tap `i` of 0 to 46, doubled, in 2^−21 (R125 response 1, R233). -/
def interpTap (i : Nat) : Int :=
  let d := if i ≤ 23 then 23 - i else i - 23
  if d = 0 then 2 ^ 21 else if d % 2 = 1 then 2 * sext 22 (unsx 22 (Config.romHb 1 ((d - 1) / 2))) else 0

/-- `cnt` outputs from index `lo` on of interpolator stage `k`, `last` telling the last stage (R233): s2.15 between stages,
s1.17 saturated after the last. Stage 0 is the waveform. -/
def interpWin (w : Int → Int) : Nat → Bool → Int → Nat → List Int
  | 0, _, lo, cnt => (List.range cnt).map (fun (j : Nat) => w (lo + (j : Int)))
  | k + 1, last, lo, cnt =>
    let base := (lo - 24) / 2
    let src := interpWin w k false base (cnt / 2 + 27)
    let fb := if k = 0 then 17 else 15
    (List.range cnt).map (fun (j : Nat) =>
      let c := lo + (j : Int)
      let sum := (List.range 47).foldl (fun (a : Int) (i : Nat) =>
        let u := c + 23 - (i : Int)
        if u % 2 = 0 then a + interpTap i * src.getD ((u / 2 - base).toNat) 0 else a) 0
      if last then satS 18 (rne (21 + fb - 17) sum) else sext 17 (unsx 17 (rne (21 + fb - 15) sum)))

/-- Interpolator outputs `lo` … `lo` + 15 of play `p`; outputs before 0 are IDLE (R234). -/
def interpOut (s : State) (n : Nat) (p : Play) (lo : Int) : List Int :=
  let l := interpWin (stoWord s n p) (s.stoK n) true lo 16
  (List.range 16).map (fun (j : Nat) => if lo + (j : Int) < 0 then (s.sto n).idle else l.getD j 0)

/-- The placement stage at DAC instant `tau` (R128, R234). -/
def placement (s : State) (n : Nat) (p : Play) (tau : Nat) : Int :=
  let u : Int := tickDiff tau p.place * 1024 + 7 * 65536 + 65024
  let i := u / 65536
  let f := (u % 65536).toNat
  let b := f / 1024
  let nu : Int := (f % 1024 : Nat)
  let r := if s.on (Reg.STO_CTL n) F.STO_CTL_PROTO then 7 else 6
  let ph (k : Nat) : Int := if k ≥ 1024 then 0 else sext 22 (unsx 22 (Config.romRs r (if k < 512 then k else 1023 - k)))
  let x := interpOut s n p (i - 15)
  let sum := (List.range 16).foldl (fun (z : Int) (t : Nat) =>
    let h0 := ph (64 * t + b)
    let h1 := ph (64 * t + b + 1)
    z + rne 10 (h0 * 1024 + nu * (h1 - h0)) * x.getD (15 - t) 0) 0
  satS 18 (rne 21 sum)

/-- The tags of `cnt` outputs from index `lo` on of interpolator stage `k`: the OR of the tags of the words that contribute to each, those
whose coefficient is not 0 (02_handshake_fabric.md R47). -/
def interpTags (w : Int → Nat) : Nat → Int → Nat → List Nat
  | 0, lo, cnt => (List.range cnt).map (fun (j : Nat) => w (lo + (j : Int)))
  | k + 1, lo, cnt =>
    let base := (lo - 24) / 2
    let src := interpTags w k base (cnt / 2 + 27)
    (List.range cnt).map (fun (j : Nat) =>
      let c := lo + (j : Int)
      (List.range 47).foldl (fun (a i : Nat) =>
        let u := c + 23 - (i : Int)
        if u % 2 = 0 ∧ interpTap i ≠ 0 then orTags a (src.getD ((u / 2 - base).toNat) 0) else a) 0)

/-- The tags of the placement stage's sample at DAC instant `tau` (02_handshake_fabric.md R47): FLT where a replaced word contributes. -/
def placementTags (s : State) (n : Nat) (p : Play) (tau : Nat) : Nat :=
  if (s.sto n).missing = [] then 0
  else
    let u : Int := tickDiff tau p.place * 1024 + 7 * 65536 + 65024
    let lo := u / 65536 - 15
    let l := interpTags (fun i => wTags (stoFWord s n p i)) (s.stoK n) lo 16
    (List.range 16).foldl (fun (a j : Nat) => if lo + (j : Int) < 0 then a else orTags a (l.getD j 0)) 0

/-- Scaling: *y* × GAIN + OFFSET, rounded and saturated, and whether it saturated (R233). -/
def scaleWord (h : StoHid) (y : Int) : Int × Bool :=
  let v := rne 14 (y * h.gain + h.ofs * 2 ^ 14)
  (satS 18 v, decide (satS 18 v ≠ v))

/-- Noise-shaped rounding of a sample to the 14-bit code (R235). Errors are kept in 2^−17. -/
def shapeWord (mode : Nat) (h : StoHid) (v : Int) : StoHid :=
  let u := match mode with
    | 0 => v
    | 1 => v - h.e1
    | _ => v - 2 * h.e1 + h.e2
  let q := rne 4 u
  { h with dac := satS 14 q, e1 := q * 16 - u, e2 := h.e1 }

/-- Terms *k* to *k* + `n` − 1 of the series of the sine of `x`, in 2^−96; `t` is term *k* (R237). -/
def sinTerms (x : Int) : Nat → Nat → Int → Int
  | 0, _, _ => 0
  | n + 1, k, t => t + sinTerms x n (k + 1) (-(t * x / 2 ^ 96 * x / 2 ^ 96) / ((2 * k + 2 : Nat) * (2 * k + 3 : Nat) : Int))

/-- 2π in 2^−96. -/
def twoPi96 : Int := 497805226624462170461043889244

/-- sin(2π φ) in 2^−96, φ in 2^−32 cycle below a quarter of a cycle or equal to it. -/
def sinQuarter (ph : Nat) : Int :=
  let x := twoPi96 * (ph : Int) / 2 ^ 32
  sinTerms x 24 0 x

/-- sin(2π φ) in 2^−96, φ in 2^−32 cycle. -/
def sin96 (ph : Nat) : Int :=
  let q := ph / 2 ^ 30 % 4
  let r := ph % 2 ^ 30
  let v := if r = 0 then (if q % 2 = 0 then 0 else 2 ^ 96) else sinQuarter (if q % 2 = 0 then r else 2 ^ 30 - r)
  if q < 2 then v else -v

/-- AMP × sin(2π φ) to within ±1 code (R237): one of the codes in that range, which one the spec leaves open. -/
def sineWord (amp : Int) (ph : Nat) : Int :=
  let x := amp * sin96 ph
  let sel := Config.sineSel amp ph
  if x % 2 ^ 96 = 0 then satS 18 (x / 2 ^ 96 + ((sel % 3 : Nat) : Int) - 1) else satS 18 (x / 2 ^ 96 + ((sel % 2 : Nat) : Int))

/-- The next generator word and the generator's state after it (R237). -/
def genStep (s : State) (n : Nat) (h : StoHid) : Int × StoHid :=
  let amp := sext 18 (s.rn (Reg.STO_GEN_AMP n))
  let freq := s.rn (Reg.STO_GEN_FREQ n)
  let rate := s.rn (Reg.STO_GEN_RATE n)
  let j := h.gbase + h.gen.length
  match s.get (Reg.STO_GEN_CTL n) F.STO_GEN_CTL_TYPE with
  | 0 => (amp, h)
  | 1 => (sineWord amp h.ph, { h with ph := (h.ph + freq) % 2 ^ 32 })
  | 2 => (sineWord amp h.ph, { h with ph := (h.ph + h.fr) % 2 ^ 32, fr := (h.fr + rate) % 2 ^ 32 })
  | 3 => (if j % max 1 freq < s.rn (Reg.STO_GEN_PHASE n) then amp else sext 18 rate, h)
  | _ =>
    let b := h.lfsr / 2 ^ 30 % 2
    let nb := (h.lfsr / 2 ^ 30 % 2 + h.lfsr / 2 ^ 27 % 2) % 2
    (if b = 1 then amp else -amp, { h with lfsr := (h.lfsr * 2 + nb) % 2 ^ 31 })

/-- `k` more generator words; the window keeps the latest 64. -/
def genFill (s : State) (n : Nat) : Nat → StoHid → StoHid
  | 0, h => h
  | k + 1, h =>
    let r := genStep s n h
    let h : StoHid := { r.2 with gen := r.2.gen ++ [r.1] }
    genFill s n k (if h.gen.length > 64 then { h with gen := h.gen.drop 1, gbase := h.gbase + 1 } else h)

/-- The generator starts at *t*_place (R237). -/
def genStart (s : State) (n place : Nat) (h : StoHid) : StoHid :=
  { h with genFor := some place, gen := [], gbase := 0, lfsr := 0x7FFFFFFF, ph := s.rn (Reg.STO_GEN_PHASE n), fr := s.rn (Reg.STO_GEN_FREQ n) }

/-- The play that forms the sample at DAC instant `tau` (R229, R234, R240, R241): the latest accepted one whose placement instant has
come; else the one at the output; else the word that an ended one holds until the next play (R239); else, from its first word in the
placement stage on, the next one. -/
def StoHid.playAt (h : StoHid) (tau : Nat) : Option Play :=
  let live := h.next.filter (fun p => match h.stopAt with
    | some st => tickBefore p.place st
    | none => true)
  match (live.filter (fun p => !tickBefore tau p.place)).getLast? with
  | some p => some p
  | none =>
    match h.cur, h.hold.isSome && h.stopped.all (tickBefore tau) with
    | some p, _ => some p
    | none, true => h.ended
    | none, false =>
      match live.find? (fun p => decide (tickDiff p.place tau ≤ 512)) with
      | some p => some p
      | none => h.ended

/-- The generator words that DAC instant `tau` of play `p` needs. -/
def genUpTo (n tau : Nat) (p : Play) (s : State) : State :=
  if s.stoGen n = false ∨ (s.sto n).ended = some p then s
  else
    let h := s.sto n
    let h := if h.genFor = some p.place then h else genStart s n p.place h
    let need := ((tickDiff tau p.place + 640) / 64 + 1).toNat
    s.setSto n (genFill s n (need - (h.gbase + h.gen.length)) h)

/-- One DAC instant of an enabled output (R233 to R236): placement, scaling, rounding; without a play the placement stage passes
IDLE. An output that is forced to mid-scale keeps code 0. -/
def dacSample (n tau : Nat) (s : State) : State :=
  let h := s.sto n
  if s.stoState n = 0 || h.forced then s
  else
    let p := h.playAt tau
    let s := match p with
      | some p => genUpTo n tau p s
      | none => s
    let y := match p with
      | some p => placement s n p tau
      | none => h.idle
    let v := scaleWord (s.sto n) y
    let s := if v.2 then (s.bump (Reg.STO_SATCNT n) 1).setFlag (Reg.STO_FLAGS n) F.STO_FLAGS_SAT else s
    let tags := match p with
      | some p => placementTags s n p tau
      | none => 0
    s.setSto n { shapeWord (s.get (Reg.STO_CTL n) F.STO_CTL_NS) (s.sto n) v.1 with tags := tags }

/-- GAIN, OFFSET and IDLE are taken over at a frame boundary (R252). -/
def latchScale (n : Nat) (s : State) : State :=
  s.setSto n { s.sto n with gain := sext 16 (s.rn (Reg.STO_GAIN n)), ofs := sext 18 (s.rn (Reg.STO_OFFSET n)),
                            idle := sext 18 (s.rn (Reg.STO_IDLE n)) }

/-! ### Ends and safe output -/

/-- A frame in which the output did not play as it should counts as down, once (19 R483). -/
def stoBad (n : Nat) (s : State) : State :=
  let f := s.tick / 1024
  if (s.sto n).badFrame = some f then s
  else (s.setSto n { s.sto n with badFrame := some f }).avDown (112 + n) 1

/-- What an output forgets when its play is abandoned: plays, stop, prime buffer, held word; the DAC shows code 0 (R236). -/
def stoClear (h : StoHid) : StoHid :=
  { h with prime := [], base := 0, got := 0, flowEnd := false, cur := none, next := [], stopAt := none, stopped := none,
           missing := [], hold := none, ended := none, genFor := none, forced := true, dac := 0, tags := 0 }

/-- A forced move to mid-scale, ending in STATE `st` (R238, R243): device FAULT, loss of lock, STANDBY, domain power-down. -/
def stoSafe (n st : Nat) (s : State) : State :=
  if s.stoState n = 0 then s
  else
    let s := if s.stoState n = 3 then stoBad n s else s
    ((s.setSto n (stoClear (s.sto n))).setFlag (Reg.STO_FLAGS n) F.STO_FLAGS_SAFE).setStoState n st

/-- A commanded move to mid-scale: ENABLE = 0, image unload or activation (R243). -/
def stoOff (n : Nat) (s : State) : State := ((s.setSto n (stoClear (s.sto n))).setStoState n 0).closeEnd (0x100 + n)

/-- The play's end instant (R239, R241); none while it cannot be told. -/
def State.playEndAt (s : State) (n : Nat) (p : Play) : Option Nat :=
  let h := s.sto n
  let len := s.stoLen n
  match h.stopped with
  | some st => some ((st + s.tTail n) % 2 ^ 64)
  | none =>
    if len ≠ 0 then some ((p.place + len * s.tSrc n + s.tTail n) % 2 ^ 64)
    else if s.stoGen n = false ∧ h.flowEnd then some ((p.place + (h.got - 1) * s.tSrc n + s.tTail n) % 2 ^ 64)
    else none

/-- The first waveform word that is due, not delivered and not yet replaced (R242). -/
def State.dueMissing (s : State) (n : Nat) : Option Nat :=
  let h := s.sto n
  match h.cur with
  | none => none
  | some p =>
    let j := h.missing.foldl (fun m i => max m (i + 1)) h.got
    let len := s.stoLen n
    let open' := if len = 0 then !h.flowEnd else decide (j < len)
    let at_ : Int := (j * s.tSrc n : Nat)
    if s.stoGen n = false ∧ open' ∧ at_ ≤ tickDiff s.tick p.place ∧ (h.limits p).all (fun st => decide (tickDiff p.place st + at_ < 0))
    then some j else none

/-- Words of the present play whose instants have passed. -/
def State.playedWords (s : State) (n : Nat) : Nat :=
  match (s.sto n).cur with
  | some p => (tickDiff s.tick p.place).toNat / s.tSrc n
  | none => 0

/-- Words a stimulus flow may still deliver into the prime buffer (R238). -/
def State.stoRoom (s : State) (n : Nat) : Nat :=
  let h := s.sto n
  let len := s.stoLen n
  if s.stoState n = 0 ∨ s.stoGen n then 0
  else if 1 ≤ len ∧ len ≤ 4096 then len - h.got
  else
    let used := s.playedWords n
    (if len = 0 then 2 ^ 32 else len) - h.got |> min (4096 + used - h.got)

/-- A flow delivers words, 16-bit s1.15, extended to s1.17 (R232). Words of a long waveform that the play has passed leave
the prime buffer; the model keeps 128 of them, which the filters still read. -/
def stoDeliver (n : Nat) (ws : List Nat) (s : State) : State :=
  let h := s.sto n
  let used := s.playedWords n
  let gone := if s.rearms n then 0 else used - 128 - h.base
  let h := { h with prime := h.prime.drop gone, base := h.base + gone }
  s.setSto n { h with prime := h.prime ++ ws.map (fun w => sext 16 w * 4), got := h.got + ws.length }

end Sys2Proof.Machine
end

