-- ==== Sys2Proof/Machine/Trigger.lean ====
section
/-! DEFINITION. Trigger units (06_triggers.md): detectors, PATTERN and SEQUENCE, dead time, holdoff, delivery. Instants and
timestamps are in 1/256 tick. -/
namespace Sys2Proof.Machine

def State.tru (s : State) (u : Nat) : TruHid := lookupD (fun _ => {}) s.trus u
def State.setTru (s : State) (u : Nat) (x : TruHid) : State := { s with trus := updateD (fun _ => {}) s.trus u x }

def State.truOn (s : State) (u : Nat) : Bool := s.on (Reg.TRU_CTL u) F.TRU_CTL_ENABLE
def State.truType (s : State) (u : Nat) : Nat := s.get (Reg.TRU_CTL u) F.TRU_CTL_TYPE
def State.truSrc (s : State) (u : Nat) : Nat := s.get (Reg.TRU_CTL u) F.TRU_CTL_SRC
def State.truPol (s : State) (u : Nat) : Nat := s.get (Reg.TRU_CTL u) F.TRU_CTL_POL
def State.levelA (s : State) (u : Nat) : Int := sext 18 (s.rn (Reg.TRU_LEVEL_A u))
def State.levelB (s : State) (u : Nat) : Int := sext 18 (s.rn (Reg.TRU_LEVEL_B u))
def State.tmin (s : State) (u : Nat) : Int := (s.rn (Reg.TRU_TMIN u) * 256 : Nat)
def State.tmax (s : State) (u : Nat) : Int := (s.rn (Reg.TRU_TMAX u) * 256 : Nat)

/-- Types 0 to 4 watch a sample stream; 5 PATTERN and 6 SEQUENCE watch other units (R140). -/
def isStreamType (t : Nat) : Bool := decide (t ≤ 4)
def isMemberType (t : Nat) : Bool := decide (t ≤ 4) || decide (7 ≤ t ∧ t ≤ 9)

/-! ### Latency (R161) -/

/-- LATENCY of a unit that is neither PATTERN nor SEQUENCE. A unit that became one of these while another names it as a member adds
nothing there, and its conditions do not reach that unit (R154; DESIGN CHOICE, log entry 128). -/
def State.ownLatency (s : State) (u : Nat) : Nat :=
  match s.truType u with
  | 5 => 0
  | 6 => 0
  | 7 => 1024
  | 8 => 512
  | 9 => 1024
  | _ => 512 + (if s.truSrc u < 0x10 then 2048 else s.rn (Reg.DCF_LATENCY ((s.truSrc u - 0x10) % 32)))

/-- LATENCY of unit `u`. -/
def State.latencyOf (s : State) (u : Nat) : Nat :=
  if s.truType u = 5 ∨ s.truType u = 6 then
    (s.truMembers u).foldl (fun x m => max x (s.ownLatency m)) 0 + 256
  else s.ownLatency u

/-- TRU_LATENCY follows the settings in force, for the units listed. -/
def refreshLatency (l : List Nat) (s : State) : State := l.foldl (fun t u => t.wn (Reg.TRU_LATENCY u) (s.latencyOf u)) s

/-- The units whose LATENCY depends on unit `u`: itself, and the PATTERN and SEQUENCE units with it as a member. -/
def State.latencyUsers (s : State) (u : Nat) : List Nat :=
  u :: (List.range 32).filter (fun k => k != u && (s.truMembers k).contains u)

/-- The units whose LATENCY depends on filter chain `n`. -/
def State.chainUsers (s : State) (n : Nat) : List Nat :=
  ((List.range 32).filter (fun u => isStreamType (s.truType u) && decide (s.truSrc u = srcDcf n))).flatMap s.latencyUsers

/-! ### State shown (R155, R167) -/

/-- A holdoff is in force at `now` in 1/256 tick (R159). -/
def TruHid.holds (h : TruHid) (now : Int) : Bool :=
  (match h.holdTo with
    | none => false
    | some t => tsBefore now t) || decide (0 < h.holdN)

/-- TRU_STATUS.STATE and LEVEL: 0 OFF, 1 WAITING, 2 READY, 3 HOLDOFF. -/
def showTru (u : Nat) (s : State) : State :=
  let h := s.tru u
  let st := if s.truOn u = false then 0
    else if h.holds (s.now256 : Nat) then 3
    else if isStreamType (s.truType u) ∧ h.seen = false then 1 else 2
  let lv := s.truOn u && h.level && (decide (s.truType u ≤ 1) || decide (s.truType u = 7))
  (s.put (Reg.TRU_STATUS u) F.TRU_STATUS_STATE st).put (Reg.TRU_STATUS u) F.TRU_STATUS_LEVEL (b2n lv)

/-! ### Delivery (R159 to R164) -/

/-- Enter a trigger into a group's list by timestamp, then unit index (R162). -/
def insertByTime (t : Trig) : List Trig → List Trig
  | [] => [t]
  | x :: r => if tsBefore t.ts x.ts ∨ (t.ts = x.ts ∧ t.unit < x.unit) then t :: x :: r else x :: insertByTime t r

/-- Triggers delivered to a group and not yet taken. -/
def State.trigs (s : State) (g : Nat) : List Trig := lookupD (fun _ => []) s.trigQ g
def State.setTrigs (s : State) (g : Nat) (l : List Trig) : State := { s with trigQ := updateD (fun _ => []) s.trigQ g l }

/-- An output route fires now: its GATE bit is 0, the unit has no group, or the group is ARMED or FILLING (R164). -/
def State.routeOpen (s : State) (u a : Nat) : Bool :=
  let g := s.groupOf (Reg.TRU_STATUS u)
  !s.on a F.TRU_OUT_TP_GATE || decide (16 ≤ g) || s.gst g == gArmed || s.gst g == gFilling

/-- Fire the timing ports and stimulus outputs routed from a unit (R164). -/
def fireOutputs (u : Nat) (t : Trig) (s : State) : State :=
  let tp := s.get (Reg.TRU_OUT_TP u) F.TRU_OUT_TP_MASK
  let so := s.get (Reg.TRU_OUT_STO u) F.TRU_OUT_STO_MASK
  let otp := s.routeOpen u (Reg.TRU_OUT_TP u)
  let oso := s.routeOpen u (Reg.TRU_OUT_STO u)
  let s := if otp then ((List.range 16).filter (bitOf tp)).foldl (fun s p => fireTrain p (placeOf t.ts) s) s else s
  if oso then ((List.range 16).filter (bitOf so)).foldl (fun s n => stoTrigger n t.ts u s) s else s

/-- The holdoff that a delivered trigger starts (R159). -/
def startHoldoff (u : Nat) (ts : Int) (s : State) : State :=
  let mode := s.get (Reg.TRU_CTL u) F.TRU_CTL_HOLD_MODE
  let t := s.rn (Reg.TRU_HOLD_T u)
  let n := s.rn (Reg.TRU_HOLD_N u)
  s.setTru u { s.tru u with
    holdTo := if mode = 1 ∨ mode = 3 then some (tsWrap (ts + (t * 256 : Nat))) else none,
    holdN := if mode ≥ 2 then n else 0 }

/-- A trigger of unit `u` is delivered (R159, R161, R162, R164); while the timebase is lost it is discarded (R163). -/
def deliver (u : Nat) (t : Trig) (s : State) : State :=
  if s.timebaseRuns = false then
    (s.bump (Reg.TRU_NACCCNT u) 1).setFlag (Reg.TRU_FLAGS u) F.TRU_FLAGS_NOT_ACCEPTED
  else
    let x := unsx 72 t.ts
    let s := ((s.bump (Reg.TRU_TRIGCNT u) 1).setFlag (Reg.TRU_FLAGS u) F.TRU_FLAGS_FIRED).wr64 (Reg.TRU_LAST_TS_LO u) (x / 256)
    let s := s.wn (Reg.TRU_LAST_INFO u) (2 ^ 10 * b2n t.forced + 2 ^ 9 * b2n t.ovr + 2 ^ 8 * b2n t.chain + x % 256)
    let s := showTru u (startHoldoff u t.ts s)
    let s := fireOutputs u t s
    let s := if s.on (Reg.TRU_CTL u) F.TRU_CTL_CHAIN_OUT then
        chainSend (s.get (Reg.TRU_CTL u) F.TRU_CTL_CHAIN_LINE) (s.rn (Reg.TRU_LATENCY u)) t.ts s else s
    let g := s.groupOf (Reg.TRU_STATUS u)
    if g < 16 ∧ s.on (Reg.TRU_CTL u) F.TRU_CTL_GROUP_EN then s.setTrigs g (insertByTime t (s.trigs g)) else s

/-- A condition that passed the dead time meets the holdoff (R159). -/
def meetHoldoff (u : Nat) (t : Trig) (s : State) : State :=
  let h := s.tru u
  if h.holds t.ts then
    let s := s.setTru u { h with holdN := h.holdN - 1 }
    showTru u ((s.bump (Reg.TRU_HOLDCNT u) 1).setFlag (Reg.TRU_FLAGS u) F.TRU_FLAGS_HOLD_DROP)
  else deliver u t s

/-! ### PATTERN and SEQUENCE (R154 to R157) -/

/-- Enter a change by instant; at equal instants, levels before conditions, a SEQUENCE's arming member first. -/
def insertEvt (first : Nat) (e : MemEvt) : List MemEvt → List MemEvt
  | [] => [e]
  | x :: r => if tsBefore e.ts x.ts ∨ (e.ts = x.ts ∧ e.m = first ∧ x.m ≠ first) then e :: x :: r else x :: insertEvt first e r

/-- A unit's level state is a plain one; the other member types have a coincidence level as each PATTERN unit sees it (R155). -/
def plainLevel (t : Nat) : Bool := decide (t ≤ 1) || decide (t = 7)

/-- Hand a change of member `m` to the PATTERN and SEQUENCE units that have it as a member. Level changes reach PATTERN
units; a condition reaches SEQUENCE units, and PATTERN units for the types whose level is a coincidence, which lasts for the TMAX
in force now (R155, R166). -/
def tellUsers (m kind : Nat) (ts : Int) (s : State) : State :=
  let lv := plainLevel (s.truType m)
  (List.range 32).foldl (fun s u =>
    let t := s.truType u
    let fits := isMemberType (s.truType m) && s.truOn u && (s.truMembers u).contains m &&
      ((t == 5 && (kind != 2 || !lv)) || (t == 6 && kind == 2))
    if fits then
      let h := s.tru u
      let till := tsWrap (ts + s.tmax u)
      let ev := insertEvt (s.get (Reg.TRU_SEQ u) F.TRU_SEQ_ARM) ⟨ts, m, kind, till⟩ h.evts
      let ev := if t = 5 ∧ kind = 2 then insertEvt 32 ⟨till, m, 3, 0⟩ ev else ev
      s.setTru u { h with evts := ev }
    else s) s

/-- The pattern's value over its members' states (R156). -/
def State.patValue (s : State) (u : Nat) (lv : List (Nat × Bool)) : Bool :=
  let inv := s.rn (Reg.TRU_INVERT u)
  let one (m : Nat) : Bool := lookupD (fun _ => false) lv m != bitOf inv m
  if s.truPol u = 0 then (s.truMembers u).all one else (s.truMembers u).any one

/-- The end of the coincidence level that PATTERN unit `u` sees of member `m` now, if it has one (R155). -/
def State.coinEnd (s : State) (u m : Nat) : Option Int :=
  if plainLevel (s.truType m) ∨ isMemberType (s.truType m) = false ∨ s.truOn m = false then none
  else
    match (s.tru m).coin with
    | none => none
    | some c => if tsBefore (s.now256 : Nat) (tsWrap (c + s.tmax u)) then some (tsWrap (c + s.tmax u)) else none

/-- The level state of member `m` that PATTERN unit `u` sees now; a member that is not enabled contributes 0 (R154, R155). -/
def State.memberLevel (s : State) (u m : Nat) : Bool :=
  s.truOn m && ((plainLevel (s.truType m) && (s.tru m).level) || (s.coinEnd u m).isSome)

/-- A PATTERN unit evaluates afresh from the members' present level states, without a condition (R156). -/
def restartPattern (u : Nat) (s : State) : State :=
  if s.truType u ≠ 5 then s
  else
    let ms := s.truMembers u
    let lv := ms.foldl (fun (l : List (Nat × Bool)) (m : Nat) => updateD (fun _ => false) l m (s.memberLevel u m)) []
    let ends := ms.filterMap (fun m => (s.coinEnd u m).map (fun e => (m, e)))
    let ev := ends.foldl (fun l p => insertEvt 32 ⟨p.2, p.1, 3, 0⟩ l) []
    s.setTru u { s.tru u with seenM := lv, pat := s.patValue u lv, ends := ends, evts := ev }

/-- A SEQUENCE unit starts afresh, at a hand-over (17 R440) and at a write of its TRU_SEQ (DESIGN CHOICE, log entry 127). -/
def restartSequence (u : Nat) (s : State) : State :=
  if s.truType u ≠ 6 then s else s.setTru u { s.tru u with tA := none, cnt := 0, evts := [] }

/-- Apply one change to a PATTERN unit's view of its members. A coincidence level ends with the last of its ends. -/
def viewEvt (h : TruHid) (e : MemEvt) : TruHid :=
  let set (b : Bool) : List (Nat × Bool) := updateD (fun _ => false) h.seenM e.m b
  let old := lookupD (fun _ => (0 : Int)) h.ends e.m
  match e.kind with
  | 0 => { h with seenM := set false }
  | 1 => { h with seenM := set true }
  | 2 =>
    let till := if lookupD (fun _ => false) h.seenM e.m && tsBefore e.till old then old else e.till
    { h with seenM := set true, ends := updateD (fun _ => (0 : Int)) h.ends e.m till }
  | _ => if tsBefore e.ts old then h else { h with seenM := set false }

/-- A SEQUENCE unit takes a condition (R157): whether its own condition occurs. -/
def seqEvt (s : State) (u : Nat) (h : TruHid) (e : MemEvt) : Bool × TruHid :=
  if e.m = s.get (Reg.TRU_SEQ u) F.TRU_SEQ_ARM then (false, { h with tA := some e.ts, cnt := 0 })
  else if e.m ≠ s.get (Reg.TRU_SEQ u) F.TRU_SEQ_FIRE then (false, h)
  else
    match h.tA with
    | none => (false, h)
    | some a =>
      if s.tmin u ≤ tsDiff e.ts a ∧ tsDiff e.ts a ≤ s.tmax u then
        if h.cnt + 1 ≥ s.get (Reg.TRU_SEQ u) F.TRU_SEQ_NTH then (true, { h with tA := none, cnt := 0 })
        else (false, { h with cnt := h.cnt + 1 })
      else (false, h)

/-- A condition of a unit, which sets OVR_XING when it carries the mark (R149), meets its dead time (R158), then its holdoff; users
of the unit learn of it in between (R154). -/
def condition (u : Nat) (t : Trig) (s : State) : State :=
  let h := s.tru u
  let near := match h.lastPass with
    | none => false
    | some l => decide (tsDiff t.ts l < 1024 * 256)
  let s := s.setFlagIf t.ovr (Reg.TRU_FLAGS u) F.TRU_FLAGS_OVR_XING
  if near then (s.bump (Reg.TRU_DEADCNT u) 1).setFlag (Reg.TRU_FLAGS u) F.TRU_FLAGS_DEAD_DROP
  else meetHoldoff u t (tellUsers u 2 t.ts (s.setTru u { h with lastPass := some t.ts, coin := some t.ts }))

/-- The changes at instants up to `lim` that a PATTERN or SEQUENCE unit has still to take are applied in timestamp order,
equal timestamps together for a PATTERN (R156, R157); `fuel` bounds their number. -/
def takeEvts (u : Nat) (lim : Int) : Nat → State → State
  | 0, s => s
  | f + 1, s =>
    let h := s.tru u
    match h.evts with
    | [] => s
    | e :: r =>
      if tsBefore lim e.ts then s
      else if s.truType u = 6 then
        let q := seqEvt s u { h with evts := r } e
        let s := s.setTru u q.2
        takeEvts u lim f (if q.1 then condition u { ts := e.ts, unit := u } s else s)
      else
        let now := h.evts.filter (fun x => decide (x.ts = e.ts))
        let h' := now.foldl viewEvt { h with evts := h.evts.filter (fun x => decide (x.ts ≠ e.ts)) }
        let v := s.patValue u h'.seenM
        let s := s.setTru u { h' with pat := v }
        takeEvts u lim f (if v && !h.pat then condition u { ts := e.ts, unit := u } s else s)

/-- The latest instant at which unit `u` has every change of its members: LATENCY less 256 ticks ago (R161). -/
def State.completeTo (s : State) (u : Nat) : Int :=
  tsWrap ((s.now256 : Int) - (((s.rn (Reg.TRU_LATENCY u) - 256) * 256 : Nat) : Int))

/-- Every PATTERN and SEQUENCE unit takes the changes at instants up to `lim`. -/
def settleTo (lim : State → Nat → Int) (s : State) : State :=
  (List.range 32).foldl (fun s u =>
    if s.truOn u ∧ (s.truType u = 5 ∨ s.truType u = 6) ∧ (s.tru u).evts ≠ [] then
      takeEvts u (lim s u) ((s.tru u).evts.length) s
    else s) s

/-- Every PATTERN and SEQUENCE unit takes the changes that are complete by now. -/
def settleUsers (s : State) : State := settleTo State.completeTo s

/-- What waits for a trigger at a loss of lock (R163): conditions of PATTERN and SEQUENCE units that changes up to now bring about meet
a lost timebase. -/
def settleLost (s : State) : State := settleTo (fun s _ => (s.now256 : Nat)) s

/-! ### Detectors (R143 to R150) -/

/-- num/den rounded half to even, den > 0. -/
def rneDiv (num den : Int) : Int :=
  let q := num / den
  let r := num % den
  if r * 2 > den then q + 1 else if r * 2 = den then (if q % 2 = 0 then q else q + 1) else q

/-- The instant of a crossing (R146), before TS_ADJ. -/
def crossAt (v xa xb ta tb : Int) : Int :=
  let phi := if xb > xa then rneDiv ((v - xa) * 65536) (xb - xa) else rneDiv ((xa - v) * 65536) (xa - xb)
  rneDiv (ta * 65536 + phi * (tb - ta)) 65536

/-- The level state of a unit changes (R155). -/
def setLevel (u : Nat) (b : Bool) (ts : Int) (s : State) : State :=
  if (s.tru u).level = b then s
  else showTru u (tellUsers u (b2n b) ts (s.setTru u { s.tru u with level := b }))

/-- POL takes variant `k` (R144). -/
def State.polTakes (s : State) (u k : Nat) : Bool := s.truPol u == 2 || s.truPol u == k

/-- A duration qualifies under TMIN, TMAX and QUAL_OUT (R144). -/
def State.qualifies (s : State) (u : Nat) (d : Int) : Bool :=
  (decide (s.tmin u ≤ d) && decide (d ≤ s.tmax u)) != s.on (Reg.TRU_CTL u) F.TRU_CTL_QUAL_OUT

/-- A condition in progress of variant `k` started at `st` is completed at `ts`. -/
def completeCond (u k : Nat) (timed : Bool) (st : Option (Int × Bool)) (ts : Int) (ovr : Bool) (s : State) : State :=
  match st with
  | none => s
  | some (a, o) =>
    if s.polTakes u k ∧ (timed = false ∨ s.qualifies u (tsDiff ts a)) then condition u { ts := ts, unit := u, ovr := o || ovr } s else s

/-- Replace the starts in progress. -/
def setStarts (u : Nat) (a b : Option (Int × Bool)) (s : State) : State := s.setTru u { s.tru u with st0 := a, st1 := b }

/-- A qualified crossing of level A (`isA`) or B, rising or falling, at `ts` (R144, R155). -/
def crossing (u : Nat) (isA rise : Bool) (ts : Int) (ovr : Bool) (s : State) : State :=
  let h := s.tru u
  let here := some (ts, ovr)
  let simple (k : Nat) (s : State) : State := if s.polTakes u k then condition u { ts := ts, unit := u, ovr := ovr } s else s
  match s.truType u with
  | 0 => if isA then simple (b2n (!rise)) (setLevel u rise ts s) else s
  | 1 => -- entry: A falling or B rising; exit: A rising or B falling
    let entry := isA != rise
    simple (b2n (!entry)) (setLevel u entry ts s)
  | 2 =>
    if isA = false then s
    else if rise then completeCond u 1 true h.st1 ts ovr (setStarts u here none s)
    else completeCond u 0 true h.st0 ts ovr (setStarts u none here s)
  | 3 =>
    match isA, rise with
    | false, true => setStarts u here h.st1 s
    | true, true => completeCond u 1 false h.st1 ts ovr (setStarts u none none s)
    | true, false => setStarts u h.st0 here s
    | false, false => completeCond u 0 false h.st0 ts ovr (setStarts u none none s)
  | _ =>
    match isA, rise with
    | false, true => setStarts u here h.st1 s
    | true, true => completeCond u 0 true h.st0 ts ovr (setStarts u none none s)
    | true, false => setStarts u h.st0 here s
    | false, false => completeCond u 1 true h.st1 ts ovr (setStarts u none none s)

/-- A crossing of a level between the previous word and this one, if there is one and it is qualified (R143, R149). -/
def tryLevel (u : Nat) (isA : Bool) (ta xa tb xb : Int) (ovr : Bool) (s : State) : State :=
  let h := s.tru u
  let v := if isA then s.levelA u else s.levelB u
  let rise := decide (xa < v) && decide (v ≤ xb)
  let fall := decide (v ≤ xa) && decide (xb < v)
  let armed := if isA then (rise && h.upA) || (fall && h.dnA) else (rise && h.upB) || (fall && h.dnB)
  if armed = false then s
  else
    let h := if isA then (if rise then { h with upA := false } else { h with dnA := false })
      else (if rise then { h with upB := false } else { h with dnB := false })
    let t := crossAt v xa xb ta (ta + tsDiff tb ta)
    crossing u isA rise (tsWrap (t - s.tsAdj (s.truSrc u) t)) ovr (s.setTru u h)

/-- The word `x` earns qualifications (R143). -/
def earn (u : Nat) (x : Int) (s : State) : State :=
  let h := s.tru u
  let hy : Int := s.rn (Reg.TRU_HYST u)
  let a := s.levelA u
  let b := s.levelB u
  s.setTru u { h with upA := h.upA || decide (x ≤ a - hy), dnA := h.dnA || decide (x ≥ a + hy),
                      upB := h.upB || decide (x ≤ b - hy), dnB := h.dnB || decide (x ≥ b + hy) }

/-- The detector is cleared at `ts` (R150); holdoff and dead time stay. The level state that PATTERN units see goes to 0, a
coincidence level too. -/
def clearDetector (u : Nat) (ts : Int) (s : State) : State :=
  let s := if (s.tru u).coin.isSome ∧ plainLevel (s.truType u) = false then tellUsers u 0 ts s else setLevel u false ts s
  showTru u (s.setTru u { s.tru u with coin := none, prev := none, upA := false, dnA := false, upB := false, dnB := false, st0 := none,
                                       st1 := none, seen := false })

/-- The unit takes a word of its stream (R142 to R150). -/
def truTake (u : Nat) (q : QWord) (s : State) : State :=
  let tags := wTags q.w
  let x := wData q.w
  if hasTag tags tagGAP ∨ hasTag tags tagSETTLE ∨ hasTag tags tagFLT then
    (clearDetector u (tsWrap (q.name - s.tsAdj (s.truSrc u) q.name)) s).setFlagIf (hasTag tags tagGAP) (Reg.TRU_FLAGS u) F.TRU_FLAGS_GAP_RESET
  else
    let ov := hasTag tags tagOVR
    let h := s.tru u
    let s := match h.prev with
      | none => s
      | some (ta, xa, oa) =>
        let two := decide (s.truType u = 1 ∨ s.truType u = 3 ∨ s.truType u = 4)
        let lv (isA : Bool) (s : State) : State :=
          if isA || two then tryLevel u isA ta xa q.name x (oa || ov) s else s
        if xa < x then lv true (lv false s) else lv false (lv true s)
    let s := earn u x s
    showTru u (s.setTru u { s.tru u with prev := some (q.name, x, ov), seen := true })

/-- The unit takes the item at the head of its queue; the end of its stream clears the detector (R150), for units that
read it at the name of its last word, or now where it had none (DESIGN CHOICE, log 157). -/
def truStep (u : Nat) (s : State) : State :=
  if s.ackHeld (s.get (Reg.TRU_CTL u) F.TRU_CTL_SRC) (s.queue (qTru u)) then s
  else
  match s.queue (qTru u) with
  | [] => s
  | i :: t =>
    let s := s.setQueue (qTru u) t
    match i with
    | .endStream =>
      let ts : Int := match (s.tru u).prev with
        | none => (s.now256 : Nat)
        | some p => tsWrap (p.1 - s.tsAdj (s.truSrc u) p.1)
      clearDetector u ts s
    | .word q => if s.truOn u ∧ isStreamType (s.truType u) then truTake u q s else s

/-- COINCIDENCE_EXPIRY (R155): the unit takes the changes that are complete by now, ends of coincidence levels among them. -/
def execCoincidenceExpiry (u : Fin 32) (s : State) : Host.Outcome State Fault Refusal :=
  .next (if s.truOn u ∧ s.truType u = 5 then
    takeEvts u (s.completeTo u) ((s.tru u).evts.length) s else s)

/-- HOLDOFF_END (R159): the time rule has run out at the present tick and STATE follows; with a count rule still running, or no
time rule, no effect on STATE. The end stays recorded: a condition is judged by its own timestamp, and those of words taken before
the end may still be on their way through the unit. -/
def holdoffEnd (u : Nat) (s : State) : State :=
  match (s.tru u).holdTo with
  | none => s
  | some t => if tsBefore (s.now256 : Nat) t then s else showTru u s

/-- HOLDOFF_END (R159). -/
def execHoldoffEnd (u : Fin 32) (s : State) : Host.Outcome State Fault Refusal := .next (holdoffEnd u s)

/-- Command FORCE (R160). -/
def truForce (u : Nat) (s : State) : State :=
  if s.truOn u then deliver u { ts := (s.now256 : Nat), unit := u, forced := true } s else s

/-- FORCE (R160). -/
def execForce (u : Fin 32) (s : State) : Host.Outcome State Fault Refusal :=
  .next (s.hostReg (Reg.TRU_CMD u) (truForce u s))

/-- Command CLEAR_HOLD (R159). -/
def clearHold (u : Nat) (s : State) : State := showTru u (s.setTru u { s.tru u with holdTo := none, holdN := 0 })

/-- CLEAR_HOLD (R159). -/
def execClearHold (u : Fin 32) (s : State) : Host.Outcome State Fault Refusal :=
  .next (s.hostReg (Reg.TRU_CMD u) (clearHold u s))

/-- Clear the unit's four counts (R167). -/
def truCntClr (u : Nat) (s : State) : State :=
  s.clearCounts [Reg.TRU_TRIGCNT u, Reg.TRU_HOLDCNT u, Reg.TRU_DEADCNT u, Reg.TRU_NACCCNT u]

/-- TRU_CNTCLR (R167). -/
def execTruCntclr (u : Fin 32) (s : State) : Host.Outcome State Fault Refusal :=
  .next (s.hostReg (Reg.TRU_CNTCLR u) (truCntClr u s))

/-- A chain trigger reaches its release instant: the enabled CHAIN units on its line take it (R153, 16 R415). -/
def releaseTrig (t : ChnTrig) (s : State) : State :=
  (List.range 32).foldl (fun s u =>
    if s.truOn u ∧ s.truType u = 8 ∧ s.get (Reg.TRU_CTL u) F.TRU_CTL_CHAIN_LINE = t.line then
      condition u { ts := (t.release * 256 : Nat), unit := u, chain := true, origin := t.origin } s
    else s) s

/-- CHAIN_TRIGGER_RELEASE (R153): the earliest awaiting chain trigger whose release instant has come. -/
def chainRelease (s : State) : State :=
  match s.chn.await with
  | [] => s
  | t :: r => if tickBefore s.tick t.release then s else settleUsers (releaseTrig t { s with chn := { s.chn with await := r } })

/-- CHAIN_TRIGGER_RELEASE (R153). -/
def execChainTriggerRelease (s : State) : Host.Outcome State Fault Refusal := .next (chainRelease s)

/-- A stamped or placed edge of a timing port reaches TIMING_PORT and CAMERA_FRAME units (R151, R152, R155). -/
def truEdge (e : EdgeOut) (input : Bool) (s : State) : State :=
  let ts : Int := (e.ts * 256 : Nat)
  (List.range 32).foldl (fun s u =>
    if s.truOn u = false ∨ s.truSrc u ≠ 0x30 + e.port then s
    else if s.truType u = 7 ∧ input then
      let s := setLevel u e.rise ts s
      if s.polTakes u (b2n (!e.rise)) then condition u { ts := ts, unit := u } s else s
    else if s.truType u = 9 then
      match e.frame with
      | none => s
      | some k =>
        let w := cutWord (s.tru u).frameCut (s.rd (Reg.TRU_FRAME u)) ts
        let n := fldGet F.TRU_FRAME_N w
        let hit := match fldGet F.TRU_FRAME_MODE w with
          | 0 => true
          | 1 => decide (k % max 1 n = 0)
          | _ => decide (k = n)
        if hit then condition u { ts := ts, unit := u } s else s
    else s) s

/-! ### Register writes (R140, R141, R144, R145, R154 to R157, R165 to R167) -/

/-- LATENCY of any unit of a running group would change under state `t` in place of `s` (R166). -/
def latencyGated (s t : State) : Bool :=
  (List.range 32).any (fun k => s.unitRunning (Reg.TRU_STATUS k) && s.rn (Reg.TRU_LATENCY k) != t.latencyOf k &&
    s.latencyOf k != t.latencyOf k)

/-- A MEMBERS value that R154 refuses on a unit of any type: it names a PATTERN or SEQUENCE unit, or the unit itself. -/
def badNames (s : State) (u mask : Nat) : Bool :=
  (List.range 32).any (fun m => bitOf mask m && (m == u || s.truType m == 5 || s.truType m == 6))

/-- A MEMBERS value that R154 refuses on a PATTERN unit: one of those, or none. -/
def badMembers (s : State) (u mask : Nat) : Bool := mask == 0 || badNames s u mask

/-- A SEQ value that R157 refuses on a SEQUENCE unit. -/
def badSeq (s : State) (u : Nat) (v : Word) : Bool :=
  let a := fldGet F.TRU_SEQ_ARM v
  let b := fldGet F.TRU_SEQ_FIRE v
  a == b || a == u || b == u || s.truType a == 5 || s.truType a == 6 || s.truType b == 5 || s.truType b == 6

/-- The checks of a write of TRU_CTL. -/
def truCtlCheck (u : Nat) (v : Word) (s : State) : WStat :=
  let t := fldGet F.TRU_CTL_TYPE v
  let src := fldGet F.TRU_CTL_SRC v
  let pol := fldGet F.TRU_CTL_POL v
  firstOf [
    (decide (t > 9), .valueRefused),
    (decide (src ≥ 0x40), .valueRefused),
    (isStreamType t && decide (src ≥ 0x30), .valueRefused),
    ((t == 7 || t == 9) && decide (src < 0x30), .valueRefused),
    (pol == 3 && t != 6 && t != 8 && t != 9, .valueRefused),
    (t == 5 && decide (pol ≥ 2), .valueRefused),
    ((t == 1 || t == 3 || t == 4) && decide (s.levelA u ≤ s.levelB u), .valueRefused),
    (t == 5 && badMembers s u (s.rn (Reg.TRU_MEMBERS u)), .valueRefused),
    (t == 6 && badSeq s u (s.rd (Reg.TRU_SEQ u)), .valueRefused),
    (s.unitRunning (Reg.TRU_STATUS u) || latencyGated s (s.applyFields (Reg.TRU_CTL u) v), .gated)]

/-- The checks of a write of any other TRU register. -/
def truRegCheck (u a : Nat) (v : Word) (s : State) : WStat :=
  let x := v.toNat
  let run := s.unitRunning (Reg.TRU_STATUS u)
  let two := s.truType u == 1 || s.truType u == 3 || s.truType u == 4
  if a = Reg.TRU_LEVEL_A u then firstOf [(two && decide (sext 18 x ≤ s.levelB u), .valueRefused)]
  else if a = Reg.TRU_LEVEL_B u then firstOf [(two && decide (s.levelA u ≤ sext 18 x), .valueRefused)]
  else if a = Reg.TRU_TMIN u then firstOf [(decide (x > s.rn (Reg.TRU_TMAX u)), .valueRefused)]
  else if a = Reg.TRU_TMAX u then firstOf [(decide (x < s.rn (Reg.TRU_TMIN u)), .valueRefused)]
  else if a = Reg.TRU_MEMBERS u then
    firstOf [(badNames s u x || (s.truType u == 5 && x == 0), .valueRefused),
      (run || latencyGated s (s.applyFields a v), .gated)]
  else if a = Reg.TRU_INVERT u ∨ a = Reg.TRU_OUT_TP u ∨ a = Reg.TRU_OUT_STO u then firstOf [(run, .gated)]
  else if a = Reg.TRU_SEQ u then
    firstOf [(fldGet F.TRU_SEQ_NTH v == 0, .valueRefused), (s.truType u == 6 && badSeq s u v, .valueRefused),
      (run || latencyGated s (s.applyFields a v), .gated)]
  else if a = Reg.TRU_FRAME u then
    firstOf [(fldGet F.TRU_FRAME_MODE v == 3, .valueRefused),
      (fldGet F.TRU_FRAME_MODE v == 1 && fldGet F.TRU_FRAME_N v == 0, .valueRefused), (run, .gated)]
  else if a = Reg.TRU_CMD u then firstOf [(fldGet F.TRU_CMD_OP v == 3, .valueRefused)]
  else .ok

/-- Ends of coincidence levels of member `m` that PATTERN units have still to take: with the level gone they end nothing (R155). -/
def dropEnds (m : Nat) (s : State) : State :=
  (List.range 32).foldl (fun s u =>
    if (s.tru u).evts.any (fun e => e.m == m && e.kind == 3) then
      s.setTru u { s.tru u with evts := (s.tru u).evts.filter (fun e => !(e.m == m && e.kind == 3)) }
    else s) s

/-- A unit stops being what it is at the present tick: its detector is cleared, its level and its coincidence levels end, and the words
that wait for it are dropped (R150, R154, R155). -/
def leaveTru (u : Nat) (s : State) : State :=
  let s := dropEnds u (clearDetector u (s.now256 : Nat) s)
  (s.setTru u {}).setQueue (qTru u) []

/-- An accepted write of TRU_CTL: a unit that is enabled, disabled, given another type, or another source that its type does not ignore
(R141), starts afresh. A PATTERN unit whose POL changes takes the pattern's value as the new POL gives it, without a condition (R156;
DEDUCED, log 138). -/
def truCtlApply (u : Nat) (v : Word) (s : State) : State :=
  let new := s.applyFields (Reg.TRU_CTL u) v
  let chg (f : Fld) : Bool := s.get (Reg.TRU_CTL u) f != new.get (Reg.TRU_CTL u) f
  let t := new.truType u
  let anew := chg F.TRU_CTL_ENABLE || chg F.TRU_CTL_TYPE || (chg F.TRU_CTL_SRC && !(t == 5 || t == 6 || t == 8))
  let s := (if anew then leaveTru u s else s).applyFields (Reg.TRU_CTL u) v
  let s := if chg F.TRU_CTL_TYPE || chg F.TRU_CTL_SRC then refreshLatency (s.latencyUsers u) s else s
  let s := if anew then restartPattern u s
    else if chg F.TRU_CTL_POL ∧ t = 5 then s.setTru u { s.tru u with pat := s.patValue u (s.tru u).seenM }
    else s
  showTru u s

/-- An accepted write of a TRU register. -/
def truApply (u a : Nat) (v : Word) (s : State) : State :=
  if a = Reg.TRU_CTL u then truCtlApply u v s
  else if a = Reg.TRU_MEMBERS u then restartPattern u (refreshLatency (s.applyFields a v |>.latencyUsers u) (s.applyFields a v))
  else if a = Reg.TRU_INVERT u then restartPattern u (s.applyFields a v)
  else if a = Reg.TRU_SEQ u then
    restartSequence u (refreshLatency (s.applyFields a v |>.latencyUsers u) (s.applyFields a v))
  else if a = Reg.TRU_CMD u then
    match fldGet F.TRU_CMD_OP v with
    | 1 => truForce u s
    | 2 => clearHold u s
    | _ => s
  else if a = Reg.TRU_CNTCLR u then (if v.toNat % 2 = 1 then truCntClr u s else s)
  else s.applyFields a v

/-- A write of a register of TRU[u]. -/
def writeTru (u a : Nat) (v : Word) (s : State) : WStat × State :=
  s.writeIf a (if a = Reg.TRU_CTL u then truCtlCheck u v s else truRegCheck u a v s) (truApply u a v)

end Sys2Proof.Machine
end

