-- ==== Sys2Proof/Machine/Ends.lean ====
section
/-! DEFINITION. The ends of streams (03_fast_inputs.md R89; 05_filter_chains.md R137, R138; 06_triggers.md R150), and the
commands that can bring one about. An end of a stream acts as soon as the words before it have been taken. -/
namespace Sys2Proof.Machine

/-- The end of its source stream stands at the head of a consumer's queue. -/
def State.endsNext (s : State) (k : Nat) : Bool :=
  match s.queue k with
  | .endStream :: _ => true
  | _ => false

/-- Every filter chain, then every trigger unit, that has taken the last word of a stream learns of its end. -/
def drainEnds (s : State) : State :=
  let s := (List.range 32).foldl (fun s n => if s.endsNext (qDcf n) then chainStep n s else s) s
  (List.range 32).foldl (fun s u => if s.endsNext (qTru u) then truStep u s else s) s

/-- Every word that waits for a filter chain, and then every one that waits for a trigger unit, is taken. -/
def takeWords (s : State) : State :=
  let s := (List.range 32).foldl (fun s n => (List.range (s.queue (qDcf n)).length).foldl (fun s _ => chainStep n s) s) s
  (List.range 32).foldl (fun s u => (List.range (s.queue (qTru u)).length).foldl (fun s _ => truStep u s) s) s

/-- PORT_STOP (03 R89): a stopping port that has handed its last frame over is OFF. -/
def execPortStop (n : Fin 16) (s : State) : Host.Outcome State Fault Refusal := .next (drainEnds (portStop n s))

/-- CHAIN_WORD (05 R114): chain `n` takes the next word of its source; with none waiting there is no effect. -/
def execChainWord (n : Fin 32) (s : State) : Host.Outcome State Fault Refusal := .next (drainEnds (chainStep n s))

/-- SYNC_AT_REACHED (05 R137): the chain takes the word at which its pending SYNC_AT takes effect; no effect while that word
is not at the head of its queue. -/
def execSyncAtReached (n : Fin 32) (s : State) : Host.Outcome State Fault Refusal := .next (drainEnds (syncAtStep n s))

/-- TRU_WORD (06 R143): the unit takes the next word of its source; with none waiting there is no effect but that changes
which are complete by now reach PATTERN and SEQUENCE units. -/
def execTruWord (u : Fin 32) (s : State) : Host.Outcome State Fault Refusal :=
  .next (drainEnds (settleUsers (truStep u s)))

/-- A write of a register of DCF[n]. With CTL, STAGE or DCB_CTL, LATENCY is formed again (05 R139), and so is TRU_LATENCY of the units
behind the chain (06 R161). -/
def writeDcf (n a : Nat) (v : Word) (s : State) : WStat × State :=
  let r := writeDcfReg n a v s
  match r.1 with
  | .ok =>
    (.ok, drainEnds (if a = Reg.DCF_CTL n ∨ a = Reg.DCF_STAGE n ∨ a = Reg.DCF_DCB_CTL n then refreshLatency (r.2.chainUsers n) r.2 else r.2))
  | w => (w, r.2)

/-- CHAIN_ENABLE (05 R138): a write of DCF_CTL with ENABLE = 1. -/
def execChainEnable (n : Fin 32) (v : Word) (s : State) : Host.Outcome State Fault Refusal :=
  .next (s.hostReg (Reg.DCF_CTL n) ((writeDcf n (Reg.DCF_CTL n) (withEnable v true) s).2))

/-- CHAIN_DISABLE (05 R138): a write of DCF_CTL with ENABLE = 0. -/
def execChainDisable (n : Fin 32) (v : Word) (s : State) : Host.Outcome State Fault Refusal :=
  .next (s.hostReg (Reg.DCF_CTL n) ((writeDcf n (Reg.DCF_CTL n) (withEnable v false) s).2))

/-- PORT_ENABLE (R88): a write of FCH_CTL with ENABLE = 1. -/
def execPortEnable (n : Fin 16) (v : Word) (s : State) : Host.Outcome State Fault Refusal :=
  .next (s.hostReg (Reg.FCH_CTL n) ((writeFch n (Reg.FCH_CTL n) (withEnable v true) s).2))

/-- PORT_DISABLE (R89): a write of FCH_CTL with ENABLE = 0. -/
def execPortDisable (n : Fin 16) (v : Word) (s : State) : Host.Outcome State Fault Refusal :=
  .next (s.hostReg (Reg.FCH_CTL n) ((writeFch n (Reg.FCH_CTL n) (withEnable v false) s).2))

end Sys2Proof.Machine
end

