-- ==== Sys2Proof/Machine/Plan.lean ====
section
/-! DEFINITION. What the stored streams, accumulators and flows of an image need: capacities, slot layout, planned memory
traffic and its ceiling (07_polders_and_accumulation.md R168 to R173; 11_acquisition_memory.md R286; 01_architecture.md R41). -/
namespace Sys2Proof.Machine

/-- *T*_r of a source in ticks: *T*_in of a raw port, *T*_in × 2^*S* of a chain (R169). -/
def State.srcTr (s : State) (src : Nat) : Nat :=
  if src < 16 then s.period src else s.tIn ((src - 16) % 32) * 2 ^ s.nStage ((src - 16) % 32)

/-- *R* of a source in 2^−31; 1 for a raw port. -/
def State.srcRatio (s : State) (src : Nat) : Nat := if src < 16 then 2 ^ 31 else max 1 (s.ratio ((src - 16) % 32))

/-- The source is resampled. -/
def State.srcRs (s : State) (src : Nat) : Bool := decide (16 ≤ src) && s.rsOn ((src - 16) % 32)

/-- *D* × *P* of a stored stream in 2^−31 tick. -/
def State.stepOf (s : State) (d : StreamDef) : Nat := 2 ^ d.log2D * s.srcTr d.src * s.srcRatio d.src

/-- Samples per packing group and its bytes (03 R85): 0 PK12, 1 PK18, 2 T24. -/
def fmtSamples (f : Nat) : Nat := [16, 32, 1].getD f 1
def fmtBytes (f : Nat) : Nat := [24, 72, 3].getD f 3

/-- `x` rounded up to a multiple of `m`. -/
def roundUp (m x : Nat) : Nat := (x + m - 1) / m * m

/-- Words per interval that a mode puts out. -/
def StreamDef.perInterval (d : StreamDef) : Nat := if d.mode = 3 then 2 else 1

/-- CAP_s of R173 for slot span `span` in ticks. -/
def State.capOf (s : State) (d : StreamDef) (span : Nat) : Nat :=
  let den := s.stepOf d
  let q := (span * 2 ^ 31 + den - 1) / den + 1
  let g := fmtSamples d.format
  roundUp g (d.perInterval * q + g - 1)

/-- The stored streams of a group with their places in the device's list, in the order of the image. -/
def State.groupStreams (s : State) (g : Nat) : List (Nat × StreamDef) :=
  ((List.range s.streams.length).zip s.streams).filter (fun p => p.2.group == g)

/-- Header length of a group with `n` streams (R173). -/
def hdrLen (n : Nat) : Nat := 256 + 64 * n + 512

/-- The offsets and capacities of streams laid out from `o` on, and where the last area ends (R173). -/
def layout (s : State) (span : Nat) : Nat → List StreamDef → List StreamDef × Nat
  | o, [] => ([], o)
  | o, d :: t =>
    let c := s.capOf d span
    let r := layout s span (o + roundUp 64 (c / fmtSamples d.format * fmtBytes d.format)) t
    ({ d with off := o, cap := c } :: r.1, r.2)

/-- SLOT_SIZE from the end of the last area (R173). -/
def slotSizeOf (e : Nat) : Nat := roundUp 4096 e

def State.preT (s : State) (g : Nat) : Nat := s.rn (Reg.POL_G_PRE_T g)
def State.postT (s : State) (g : Nat) : Nat :=
  s.rn (Reg.POL_G_POST_T_LO g) + 2 ^ 32 * s.get (Reg.POL_G_POST_T_HI g) F.POL_G_POST_T_HI_TICKS

/-- The slot span of a group, fixed at activation (R172). -/
def State.spanOf (s : State) (g : Nat) : Nat := s.groupBase (Reg.POL_G_SPAN_LO g) (Reg.POL_G_SPAN_HI g)

/-- Ticks per second (00_scope.md R9). -/
def ticksPerSecond : Nat := 163840000000

/-- The write rate of a stored stream, in 2^−32 B/s (R171). -/
def State.streamTraffic (s : State) (d : StreamDef) : Nat :=
  ticksPerSecond * 2 ^ 63 * d.perInterval * fmtBytes d.format / (s.stepOf d * fmtSamples d.format)

/-- The write rate of a group's polder writer with POST_T of `post` ticks, in 2^−32 B/s (R171). -/
def State.groupTraffic (s : State) (g post : Nat) : Nat :=
  let l := s.groupStreams g
  if l.isEmpty then 0
  else l.foldl (fun x p => x + s.streamTraffic p.2) 0 +
    (hdrLen l.length + 128) * ticksPerSecond * 2 ^ 32 / max 1 post

/-- The work traffic of the accumulators that store in DRAM (R192): 22 bytes per source word, in 2^−32 B/s. -/
def State.wacTraffic (s : State) : Nat :=
  (List.range 16).foldl (fun x n =>
    if s.on (Reg.WAC_CTL n) F.WAC_CTL_ENABLE ∧ s.on (Reg.WAC_CTL n) F.WAC_CTL_STORE then
      let src := s.get (Reg.WAC_CTL n) F.WAC_CTL_SRC
      x + 22 * ticksPerSecond * 2 ^ 63 / (s.srcTr src * s.srcRatio src)
    else x) 0

/-- An output's words come from memory: its flow, and the rate of its reads in 2^−32 B/s (09 R232, R233; R41): 2 bytes a source word.
-/
def State.stimFlow (s : State) (n : Nat) : Option (Nat × Nat) :=
  if s.on (Reg.STO_CTL n) F.STO_CTL_ENABLE ∧ s.get (Reg.STO_CTL n) F.STO_CTL_SRC = 0 then
    some (s.get (Reg.STO_FLOW n) F.STO_FLOW_FLOW, 2 * ticksPerSecond * 2 ^ 32 / (64 * 2 ^ s.get (Reg.STO_CTL n) F.STO_CTL_LOG2_I))
  else none

/-- The traffic of the stimulus flows above what the image plans for them as flows, in 2^−32 B/s (11 R288; DEDUCED, log 118). -/
def State.stimTraffic (s : State) (l : List (Nat × Nat)) : Nat :=
  (List.range 16).foldl (fun x n =>
    match s.stimFlow n with
    | none => x
    | some p => x + (p.2 - lookupD (fun _ => 0) l p.1 * 1000000 * 2 ^ 32)) 0

/-- The planned rates of flows, in 2^−32 B/s (17 R431 FLOWS). -/
def flowTraffic (l : List (Nat × Nat)) : Nat := l.foldl (fun x p => x + p.2 * 1000000 * 2 ^ 32) 0

/-- The sustained ceiling of the installed configuration in GB/s (11 R286). -/
def State.ceilingGB (s : State) : Nat :=
  [0, 225, 243, 262, 281, 300].getD (s.get (Reg.MCH_CFG 0) F.MCH_CFG_CEIL_CODE) 0 * s.nChan / 8

/-- Some MDLL runs on the HKO (10 R258; 11 R286). -/
def State.anyOnHko (s : State) : Bool :=
  (List.range 8).any (fun m => s.on (Reg.CKS_MDLL_STAT m) F.CKS_MDLL_STAT_ON_HKO)

/-- The planned traffic, in 2^−32 B/s, lies within the ceiling (R41). -/
def State.withinCeiling (s : State) (traffic : Nat) : Bool :=
  decide (traffic * 1000 ≤ s.ceilingGB * 1000000000 * 2 ^ 32 * (if s.anyOnHko then 998 else 1000))

/-- The planned traffic with POST_T of group `g` replaced. -/
def State.trafficWith (s : State) (g post : Nat) : Nat :=
  (List.range 16).foldl (fun x k => x + s.groupTraffic k (if k = g then post else s.postT k)) s.cfg.planOther

/-- A unit with a bit set in OUT_STO has LATENCY above 5,242 ticks (06 R165). -/
def State.stoLatencyBad (s : State) (u : Nat) : Bool :=
  s.get (Reg.TRU_OUT_STO u) F.TRU_OUT_STO_MASK != 0 && decide (s.rn (Reg.TRU_LATENCY u) > 5242)

end Sys2Proof.Machine
end

