-- ==== Sys2Proof/Machine/Wac.lean ====
section
/-! DEFINITION. Waveform accumulators: captures, merging, results, areas (07_polders_and_accumulation.md R189 to R195, R197). -/
namespace Sys2Proof.Machine

def State.wac (s : State) (n : Nat) : WacHid := lookupD (fun _ => {}) s.wacs n
def State.setWac (s : State) (n : Nat) (x : WacHid) : State := { s with wacs := updateD (fun _ => {}) s.wacs n x }

/-- STATE of a unit: 0 OFF, 1 IDLE, 2 CAPTURE, 3 DONE (R197). -/
def State.wacState (s : State) (n : Nat) : Nat := s.get (Reg.WAC_STATUS n) F.WAC_STATUS_STATE
def State.setWacState (s : State) (n x : Nat) : State := s.put (Reg.WAC_STATUS n) F.WAC_STATUS_STATE x
def State.wacOn (s : State) (n : Nat) : Bool := s.on (Reg.WAC_CTL n) F.WAC_CTL_ENABLE
def State.wacLen (s : State) (n : Nat) : Nat := s.get (Reg.WAC_LEN n) F.WAC_LEN_VALUE
def State.wacEnv (s : State) (n : Nat) : Bool := s.on (Reg.WAC_CTL n) F.WAC_CTL_MODE
def State.wacDram (s : State) (n : Nat) : Bool := s.on (Reg.WAC_CTL n) F.WAC_CTL_STORE
def State.wacRes (s : State) (n : Nat) : Nat := s.groupBase (Reg.WAC_RES_BASE_LO n) (Reg.WAC_RES_BASE_HI n)
def State.wacWork (s : State) (n : Nat) : Nat := s.groupBase (Reg.WAC_WORK_BASE_LO n) (Reg.WAC_WORK_BASE_HI n)

/-- A taken trigger reaches the unit (R189): a capture starts, or is counted while one runs. -/
def wacTrigger (n : Nat) (tp : Int) (s : State) : State :=
  match s.wacState n with
  | 1 =>
    let st := tp + sext 32 (cutWord (s.wac n).offCut (s.rd (Reg.WAC_OFFSET n)) tp).toNat * 256
    (s.setWac n { s.wac n with cap := some ⟨tp, st, []⟩ }).setWacState n 2
  | 2 => (s.bump (Reg.WAC_BUSYCNT n) 1).setFlag (Reg.WAC_FLAGS n) F.WAC_FLAGS_BUSY_DROP
  | _ => s

/-- A trigger that group `g` takes reaches the group's units: a primary one all of them, a recorded secondary one those with
SEC = 1 (R189). -/
def wacTaken (g : Nat) (sec : Bool) (tp : Int) (s : State) : State :=
  (List.range 16).foldl (fun s n =>
    if s.groupOf (Reg.WAC_STATUS n) = g ∧ (sec = false ∨ s.on (Reg.WAC_CTL n) F.WAC_CTL_SEC) then wacTrigger n tp s else s) s

/-- The words of a queue. -/
def wordsOf : List QItem → List QWord
  | [] => []
  | .word q :: t => q :: wordsOf t
  | .endStream :: t => wordsOf t

/-! ### Areas (R192, R195) -/

/-- Bytes of the unit's result: 64-byte header and data. -/
def State.wacResLen (s : State) (n : Nat) : Nat :=
  let l := s.wacLen n
  64 + (if s.wacEnv n then 72 * ((2 * l + 31) / 32)
    else if s.get (Reg.WAC_CTL n) F.WAC_CTL_FORMAT = 0 then 6 * l else 72 * ((l + 31) / 32))

/-- Two byte ranges overlap. -/
def overlaps (a b : Nat × Nat) : Bool :=
  decide (0 < a.2) && decide (0 < b.2) && decide (a.1 < b.1 + b.2) && decide (b.1 < a.1 + a.2)

/-- Dike table and data area of group `g` (R172). -/
def State.groupAreas (s : State) (g : Nat) : List (Nat × Nat) :=
  if s.gDefined g = false ∨ s.slotSize g = 0 then []
  else [(s.dikeBase g, 64 * s.nPold g), (s.dataBase g, s.slotSize g * s.nPold g)]

/-- Result area, and work area with STORE = DRAM, of an enabled unit. -/
def State.wacAreas (s : State) (n : Nat) : List (Nat × Nat) :=
  if s.wacOn n = false then []
  else (s.wacRes n, s.wacResLen n) :: (if s.wacDram n then [(s.wacWork n, 11 * s.wacLen n)] else [])

/-- The memory areas of a group: its own and those of the accumulators bound to it (11 R300). -/
def State.memAreas (s : State) (g : Nat) : List (Nat × Nat) :=
  s.groupAreas g ++ ((List.range 16).filter (fun n => decide (s.groupOf (Reg.WAC_STATUS n) = g))).flatMap s.wacAreas

/-- A list of areas that overlap one another. -/
def selfOverlap : List (Nat × Nat) → Bool
  | [] => false
  | a :: t => t.any (overlaps a) || selfOverlap t

/-- The areas of groups and of the other units. -/
def State.otherAreas (s : State) (n : Nat) : List (Nat × Nat) :=
  (List.range 16).flatMap s.groupAreas ++ ((List.range 16).filter (fun k => k != n)).flatMap s.wacAreas

/-- The result area of a unit fails the checks of R195. -/
def State.wacResultBad (s : State) (n : Nat) : Bool :=
  let a := (s.wacRes n, s.wacResLen n)
  decide (a.1 + a.2 > s.capacity) || (s.wacDram n && overlaps a (s.wacWork n, 11 * s.wacLen n)) || (s.otherAreas n).any (overlaps a)

/-- The areas of a unit fail the checks of R195. -/
def State.wacAreasBad (s : State) (n : Nat) : Bool :=
  let l := s.wacAreas n
  let others := s.otherAreas n
  l.any (fun a => decide (a.1 + a.2 > s.capacity)) || selfOverlap l || l.any (fun a => others.any (overlaps a))

/-! ### Results (R193) -/

/-- 18-bit words packed as PK18: groups of 32 in 72 bytes (03 R85, R86); the last group is filled with 0. -/
def packBits : List Int → List Bool
  | [] => []
  | w :: t => bitsLow 18 (unsx 18 w) ++ packBits t
def bytesOfBits : Nat → List Bool → List Byte
  | 0, _ => []
  | n + 1, l => BitVec.ofNat 8 (ofBits (l.take 8)) :: bytesOfBits n (l.drop 8)
def packPk18 (l : List Int) : List Byte := bytesOfBits ((l.length + 31) / 32 * 72) (packBits l)

/-- `sum` / `count` rounded half to even. -/
def meanEven (sum : Int) (count : Nat) : Int := rneDiv sum (max 1 count : Nat)

/-- The unit writes to acquisition memory; a write that meets a channel in FAULT is discarded there (R195). -/
def wacWrite (n a : Nat) (d : List Byte) (s : State) : State :=
  let bad := (s.chansOf a d.length).any (fun m => s.phase m == phFault)
  let s := memWrite a d s
  if bad then s.setWac n { s.wac n with hurt := true } else s

/-- The sums, or the minima and maxima, that the unit holds: on die, or read from the work area behind the capture. Undefined sums
in DRAM are free values. -/
def wacHeld (n : Nat) (s : State) : (List Int × List Int) × State :=
  let l := s.wacLen n
  if s.rn (Reg.WAC_COUNT n) = 0 then (([], []), s)
  else if s.wacDram n ∧ (s.wac n).gone then
    let at' (w o : Nat) : List Int := (List.range l).map (fun i => sext w (s.freeVal (2 * i + o)))
    (if s.wacEnv n then (at' 18 0, at' 18 1) else (at' 42 0, []), s.useFree)
  else if s.wacDram n = false then (((s.wac n).sums, (s.wac n).maxs), s)
  else
    let r := memRead (s.wacWork n + 3 * l) (8 * l) s
    let at8 (o k : Nat) : Nat := leAt r.1 o k
    if s.wacEnv n then
      (((List.range l).map (fun i => sext 32 (at8 (8 * i) 4)), (List.range l).map (fun i => sext 32 (at8 (8 * i + 4) 4))), r.2.2)
    else (((List.range l).map (fun i => sext 64 (at8 (8 * i) 8)), []), r.2.2)

/-- Pairs interleaved. -/
def interleave : List Int → List Int → List Int
  | a :: t, b :: u => a :: b :: interleave t u
  | _, _ => []

/-- The data part of a result. -/
def wacData (n : Nat) (h : List Int × List Int) (s : State) : List Byte :=
  let c := s.rn (Reg.WAC_COUNT n)
  if c = 0 then []
  else if s.wacEnv n then packPk18 (interleave h.1 h.2)
  else if s.get (Reg.WAC_CTL n) F.WAC_CTL_FORMAT = 0 then h.1.flatMap (fun x => leBytes 6 (unsx 48 x))
  else packPk18 (h.1.map (fun x => meanEven x c))

/-- The result header (R193). -/
def wacHeader (n : Nat) (s : State) : List Byte :=
  let g := s.groupOf (Reg.WAC_STATUS n)
  let gen := if g < 16 then s.rn (Reg.CFG_G_GEN g) else s.rn Reg.CFG_GEN
  let src := s.get (Reg.WAC_CTL n) F.WAC_CTL_SRC
  let h := s.wac n
  let ts (x : Int) : Nat := unsx 72 x / 256
  let b := leBytes 4 0x53434157 ++ leBytes 1 n ++ leBytes 1 (b2n (s.wacEnv n)) ++
    leBytes 1 (s.get (Reg.WAC_CTL n) F.WAC_CTL_FORMAT) ++ leBytes 1 0 ++
    leBytes 4 (s.rn (Reg.WAC_COUNT n)) ++ leBytes 4 (s.rn (Reg.WAC_REJCNT n)) ++ leBytes 4 (s.rn (Reg.WAC_OVRCNT n)) ++
    leBytes 4 (s.wacLen n) ++ leBytes 8 (ts h.first) ++ leBytes 8 (ts h.last) ++ leBytes 8 (s.rd64 (Reg.WAC_OFFSUM_LO n)) ++
    leBytes 8 (2 * s.srcTr src * s.srcRatio src) ++ leBytes 4 gen
  b ++ leBytes 4 (crc32 b)

/-- The unit writes its result (R193). -/
def wacResult (n : Nat) (s : State) : State :=
  let r := wacHeld n s
  wacWrite n (s.wacRes n) (wacHeader n r.2 ++ wacData n r.1 r.2) r.2

/-! ### Captures and merging (R189 to R192) -/

/-- MERGING shows a capture that waits to be merged. -/
def showMerging (n : Nat) (s : State) : State :=
  s.put (Reg.WAC_STATUS n) F.WAC_STATUS_MERGING (b2n (s.wac n).merge.isSome)

/-- The sums after a capture is added (R191). -/
def addCapture (env first : Bool) (h : List Int × List Int) (w : List Int) : List Int × List Int :=
  if env then
    if first then (w.map (fun x => min x 131071), w.map (fun x => max x (-131072)))
    else (h.1.zipWith min w, h.2.zipWith max w)
  else (if first then w else h.1.zipWith (fun a b => a + b) w, [])

/-- The merge of a finished capture ends (R190, R192, R193). -/
def mergeEnd (n : Nat) (s : State) : State :=
  match (s.wac n).merge with
  | none => s
  | some c =>
    let w := c.words.map (fun q => wData q.w)
    let first := decide (s.rn (Reg.WAC_COUNT n) = 0)
    let r := wacHeld n s
    let m := addCapture (s.wacEnv n) first r.1 w
    let s := r.2
    let h := s.wac n
    let h := { h with merge := none, first := if first then c.tp else h.first, last := c.tp }
    let s := if s.wacDram n then
        let d := if s.wacEnv n then (m.1.zip m.2).flatMap (fun p => leBytes 4 (unsx 32 p.1) ++ leBytes 4 (unsx 32 p.2))
          else m.1.flatMap (fun x => leBytes 8 (unsx 64 x))
        wacWrite n (s.wacWork n + 3 * s.wacLen n) d (s.setWac n h)
      else s.setWac n { h with sums := m.1, maxs := m.2 }
    let s := s.bump (Reg.WAC_COUNT n) 1
    let nm : Int := match c.words with
      | [] => c.tp
      | q :: _ => q.name
    let s := s.wr64 (Reg.WAC_OFFSUM_LO n) (unsx 64 ((s.rd64 (Reg.WAC_OFFSUM_LO n) : Int) + (nm - c.tp)))
    let s := showMerging n s
    if s.rn (Reg.WAC_COUNT n) = s.get (Reg.WAC_NACQ n) F.WAC_NACQ_VALUE ∧ s.wacState n ≠ 3 then
      let s := wacResult n s
      ((s.setWac n { s.wac n with cap := none }).setWacState n 3).setFlag (Reg.WAC_FLAGS n) F.WAC_FLAGS_DONE
    else s

/-- The capture has its *L* words: it is rejected, or waits to be merged (R190); a capture still unmerged is merged first. -/
def captureEnd (n : Nat) (s : State) : State :=
  match (s.wac n).cap with
  | none => s
  | some c =>
    let src := s.get (Reg.WAC_CTL n) F.WAC_CTL_SRC
    let w := (((wordsOf (s.queue (qWac n))).map (fun q => q.adjusted src s)).filter (fun q => !tsBefore q.name c.start)).take
      (s.wacLen n)
    if w.length < s.wacLen n ∨ s.wacState n ≠ 2 then s
    else
      let bad := w.any (fun q => hasTag (wTags q.w) tagGAP || hasTag (wTags q.w) tagFLT || hasTag (wTags q.w) tagSETTLE)
      let ovr := w.any (fun q => hasTag (wTags q.w) tagOVR)
      let s := mergeEnd n s
      if s.wacState n ≠ 2 then s
      else
        let s := s.setWacState n 1
        if bad ∨ (ovr ∧ s.on (Reg.WAC_CTL n) F.WAC_CTL_REJECT_OVR) then
          ((s.setWac n { s.wac n with cap := none }).bump (Reg.WAC_REJCNT n) 1).setFlag (Reg.WAC_FLAGS n) F.WAC_FLAGS_REJECTED
        else
          let s := if ovr then (s.bump (Reg.WAC_OVRCNT n) 1).setFlag (Reg.WAC_FLAGS n) F.WAC_FLAGS_OVR_ACQ else s
          let s := if s.wacDram n then wacWrite n (s.wacWork n) (w.flatMap (fun q => leBytes 3 q.w.toNat)) s else s
          showMerging n (s.setWac n { s.wac n with cap := none, merge := some { c with words := w } })

/-- Words that no capture can need any more, 2^32 ticks old (OFFSET reaches 2^31 ticks back), leave the unit's history, but for those
that a running capture takes. -/
def wacForget (n : Nat) (s : State) : State :=
  let src := s.get (Reg.WAC_CTL n) F.WAC_CTL_SRC
  let needed (q : QWord) : Bool := match (s.wac n).cap with
    | none => false
    | some c => !tsBefore (q.adjusted src s).name c.start
  s.setQueue (qWac n) ((s.queue (qWac n)).filter (fun i => match i with
    | .endStream => false
    | .word q => needed q || tsBefore (s.now256 : Nat) (q.name + 256 * 2 ^ 32)))

/-- A capture in progress is abandoned without merging (R194). -/
def wacAbandon (n : Nat) (s : State) : State :=
  if s.wacState n = 2 then (s.setWac n { s.wac n with cap := none }).setWacState n 1 else s

/-- The units of group `g` abandon their captures. -/
def wacAbandonGroup (g : Nat) (s : State) : State :=
  (List.range 16).foldl (fun s n => if s.groupOf (Reg.WAC_STATUS n) = g then wacAbandon n s else s) s

/-- The accumulator, its counts and OFFSUM are cleared and the unit returns to IDLE (R194). -/
def wacClear (n : Nat) (s : State) : State :=
  let s := (s.zero [Reg.WAC_COUNT n, Reg.WAC_OFFSUM_LO n, Reg.WAC_OFFSUM_HI n]).clearCounts
    [Reg.WAC_REJCNT n, Reg.WAC_BUSYCNT n, Reg.WAC_OVRCNT n]
  let s := showMerging n (s.setWac n {})
  if s.wacOn n then s.setWacState n 1 else s

/-- The group enters ARMING: its units without KEEP are cleared (R194). -/
def wacArm (g : Nat) (s : State) : State :=
  (List.range 16).foldl (fun s n =>
    if s.groupOf (Reg.WAC_STATUS n) = g ∧ s.on (Reg.WAC_CTL n) F.WAC_CTL_KEEP = false then wacClear n s else s) s

/-- Command FLUSH (R193, R195): refused where its result area fails the checks; a disabled unit has nothing to write. -/
def wacFlush (n : Nat) (s : State) : WStat × State :=
  s.writeIf (Reg.WAC_CMD n) (firstOf [(s.wacOn n && s.wacResultBad n, .valueRefused)])
    (fun s => if s.wacOn n then wacResult n s else s)

/-- WAC_CLEAR (R194). -/
def execWacClear (n : Fin 16) (s : State) : Host.Outcome State Fault Refusal :=
  .next (s.hostReg (Reg.WAC_CMD n) (wacClear n s))

/-- The limit of WAC_LEN for a STORE (R192, R197). -/
def lenLimit (dram : Bool) : Nat := if dram then 16777216 else 262144

/-- The checks of a write of a WAC register (R197). -/
def wacCheck (n a : Nat) (v : Word) (s : State) : WStat :=
  let run := (s.unitRunning (Reg.WAC_STATUS n), WStat.gated)
  if a = Reg.WAC_CTL n then
    firstOf [(decide (fldGet F.WAC_CTL_SRC v ≥ 0x30), .valueRefused), (decide (fldGet F.WAC_CTL_FORMAT v ≥ 2), .valueRefused),
      (decide (s.wacLen n > lenLimit (fldGet F.WAC_CTL_STORE v == 1)), .valueRefused), run,
      (fldGet F.WAC_CTL_ENABLE v == 1 && fldGet F.WAC_CTL_STORE v == 1 && !(s.wacOn n && s.wacDram n) && !s.memReady, .stateRefused)]
  else if a = Reg.WAC_LEN n then
    let l := fldGet F.WAC_LEN_VALUE v
    firstOf [(l == 0 || decide (l > lenLimit (s.wacDram n)), .valueRefused), run]
  else if a = Reg.WAC_NACQ n then
    let x := fldGet F.WAC_NACQ_VALUE v
    firstOf [(x == 0 || decide (x > 16777216), .valueRefused), run]
  else if a = Reg.WAC_OFFSET n ∨ a = Reg.WAC_RES_BASE_LO n ∨ a = Reg.WAC_RES_BASE_HI n ∨ a = Reg.WAC_WORK_BASE_LO n ∨
      a = Reg.WAC_WORK_BASE_HI n then firstOf [run]
  else if a = Reg.WAC_CMD n then firstOf [(fldGet F.WAC_CMD_OP v == 3, .valueRefused)]
  else .ok

/-- An accepted write of WAC_CTL: a unit that is enabled is IDLE, one that is disabled is OFF and drops its capture. -/
def wacCtlApply (n : Nat) (v : Word) (s : State) : State :=
  let old := s.rd (Reg.WAC_CTL n)
  let s := s.applyFields (Reg.WAC_CTL n) v
  let chg (f : Fld) : Bool := fldGet f old != s.get (Reg.WAC_CTL n) f
  let s := if chg F.WAC_CTL_SRC ∨ chg F.WAC_CTL_ENABLE then s.setQueue (qWac n) [] else s
  if s.wacOn n = false then showMerging n ((s.setWac n { s.wac n with cap := none, merge := none }).setWacState n 0)
  else if s.wacState n = 0 then s.setWacState n 1 else s

/-- A write of a register of WAC[n]. -/
def writeWacReg (n a : Nat) (v : Word) (s : State) : WStat × State :=
  if a = Reg.WAC_CMD n ∧ fldGet F.WAC_CMD_OP v = 1 then wacFlush n s
  else
    s.writeIf a (wacCheck n a v s) (fun s =>
      if a = Reg.WAC_CTL n then wacCtlApply n v s
      else if a = Reg.WAC_CMD n then (if fldGet F.WAC_CMD_OP v = 2 then wacClear n s else s)
      else s.applyFields a v)

end Sys2Proof.Machine
end

