-- ==== Sys2Proof/Machine/Precision.lean ====
section
/-! DEFINITION. Precision converters: starts, entry runs, urgent requests, results, rings (08_precision_inputs.md). -/
namespace Sys2Proof.Machine

def State.pcv (s : State) (k : Nat) : PcvHid := lookupD (fun _ => {}) s.pcvs k
def State.setPcv (s : State) (k : Nat) (x : PcvHid) : State := { s with pcvs := updateD (fun _ => {}) s.pcvs k x }

/-- STATE: 0 OFF, 1 IDLE, 2 RUNNING, 3 URGENT (R228). -/
def State.pcvState (s : State) (k : Nat) : Nat := s.get (Reg.PCV_STATUS k) F.PCV_STATUS_STATE
def State.setPcvState (s : State) (k x : Nat) : State := s.put (Reg.PCV_STATUS k) F.PCV_STATUS_STATE x
def State.pcvOn (s : State) (k : Nat) : Bool := s.on (Reg.PCV_CTL k) F.PCV_CTL_ENABLE
def State.startSrc (s : State) (k : Nat) : Nat := s.get (Reg.PCV_CTL k) F.PCV_CTL_START_SRC
def State.pcvLen (s : State) (k : Nat) : Nat := s.get (Reg.PCV_CTL k) F.PCV_CTL_LEN
def State.pcvQueued (s : State) (k : Nat) : Bool := s.on (Reg.PCV_STATUS k) F.PCV_STATUS_QUEUED
def State.setQueued (s : State) (k : Nat) (b : Bool) : State := s.put (Reg.PCV_STATUS k) F.PCV_STATUS_QUEUED (b2n b)

/-- *T*_m in ticks (R200). -/
def State.tMod (s : State) (k : Nat) : Nat := if s.on (Reg.PCV_CTL k) F.PCV_CTL_LP then 64000 else 16000

/-- The first modulator edge at or after `t`: edges are the multiples of *T*_m below 2^64 (R200). -/
def State.edgeFrom (s : State) (k t : Nat) : Nat :=
  let e := (t % 2 ^ 64 + s.tMod k - 1) / s.tMod k * s.tMod k
  if e < 2 ^ 64 then e else 0

/-- The profile of an entry: order *N*, OSR, post-FIR (R201). -/
def State.profReg (s : State) (k : Nat) (e : Word) : Word := s.rd (Reg.PCV_PROF k (fldGet F.PCV_SEQ_PROF e))
def profN (p : Word) : Nat := fldGet F.PCV_PROF_ORDER p + 3
def profFir (p : Word) : Bool := fldGet F.PCV_PROF_POSTFIR p == 1
def profOsr (p : Word) : Nat := fldGet F.PCV_PROF_OSR p

/-- *T*_o, *N*_set and the group delay *G* in ticks (R201, R204). -/
def State.tOut (s : State) (k : Nat) (e : Word) : Nat :=
  let p := s.profReg k e
  profOsr p * s.tMod k * (if profFir p then 4 else 1)
def nSet (p : Word) : Nat := if profFir p then 25 else profN p
def State.pcvDelay (s : State) (k : Nat) (e : Word) : Nat :=
  let p := s.profReg k e
  let o := profOsr p
  let n := profN p
  (if profFir p then n * (o - 1) + 95 * o else n * (o - 1)) * s.tMod k / 2

/-- *R*_i of a run (R205). -/
def State.resultAt (s : State) (k : Nat) (r : PcvRun) (i : Nat) : Nat :=
  (r.start + s.get (Reg.PCV_MUXSET k) F.PCV_MUXSET_CYCLES * s.tMod k + (nSet (s.profReg k r.word) + i) * s.tOut k r.word) % 2 ^ 64

/-- *ts*_i in 1/256 tick (R206). -/
def State.resultTs (s : State) (k : Nat) (r : PcvRun) (i : Nat) : Int :=
  (s.resultAt k r i * 256 : Nat) - (s.pcvDelay k r.word * 256 : Nat) - Config.frontDelay k (fldGet F.PCV_SEQ_GAIN r.word) -
    sext 32 (s.rn (Reg.PCV_TS_ADJ k))

/-- A run that has delivered its COUNT, with the edge at which it ends. -/
def State.runEnd (s : State) (k : Nat) (r : PcvRun) : Option Nat :=
  match r.count with
  | none => none
  | some c => if c ≤ r.done then some (s.resultAt k r (c - 1)) else none

/-- The entries of the sequence: COUNT, or none for the continuous entry of FREE with LEN = 0 (R207, R208). -/
def State.entryCount (s : State) (k e : Nat) : Option Nat :=
  if s.startSrc k = 3 ∧ s.pcvLen k = 0 then none else some (fldGet F.PCV_SEQ_COUNT (s.rd (Reg.PCV_SEQ k e)) + 1)

/-- An entry run of the sequence begins at edge `t`. -/
def beginEntry (k e : Nat) (count : Option Nat) (cause t : Nat) (s : State) : State :=
  let r : PcvRun := { entry := e, word := s.rd (Reg.PCV_SEQ k e), start := t, count := count, cause := cause }
  ((s.setPcv k { s.pcv k with run := some r }).setPcvState k 2).put (Reg.PCV_STATUS k) F.PCV_STATUS_ENTRY e

/-- A pass begins at edge `t`. -/
def beginPass (k cause t : Nat) (s : State) : State := beginEntry k 0 (s.entryCount k 0) cause t s

/-- The sequence has ended at edge `t`: a queued start begins its pass, else the converter is IDLE (R209). -/
def afterSequence (k t : Nat) (s : State) : State :=
  let s := s.setPcv k { s.pcv k with run := none, resume := none }
  if s.pcvQueued k then beginPass k 2 t (s.setQueued k false) else s.setPcvState k 1

/-- What follows entry `e` of the pass: the next entry, entry 0 of a repeated FREE pass, or nothing (R207, R208). -/
def State.nextEntry (s : State) (k e : Nat) : Option Nat :=
  if e < s.pcvLen k then some (e + 1) else if s.startSrc k = 3 then some 0 else none

/-- An entry run of the sequence that has delivered its results ends at or before `lim` (R205, R207). -/
def entryRunEnd (k lim : Nat) (s : State) : State :=
  match (s.pcv k).run with
  | none => s
  | some r =>
    if r.urg then s
    else
      match s.runEnd k r with
      | none => s
      | some t =>
        if tickBefore lim t then s
        else
          match s.nextEntry k r.entry with
          | some e => beginEntry k e (s.entryCount k e) 1 t s
          | none => afterSequence k t s

/-- The urgent entry has delivered its results and ends at or before `lim` (R212). -/
def urgentEnd (k lim : Nat) (s : State) : State :=
  match (s.pcv k).run with
  | none => s
  | some r =>
    if r.urg = false then s
    else
      match s.runEnd k r with
      | none => s
      | some t =>
        if tickBefore lim t then s
        else
          match (s.pcv k).resume with
          | some (e, c, cause) => beginEntry k e c cause t (s.setPcv k { s.pcv k with resume := none })
          | none => afterSequence k t s

/-- The converter's end at edge `e` is reached: it becomes OFF or IDLE, or begins a pass again. -/
def pcvTakeEnd (k e st : Nat) (s : State) : State :=
  let h := s.pcv k
  let off := st == 0
  let s := s.setPcv k { h with run := none, resume := none, ending := none, again := false,
                               starts := if off then [] else h.starts, urgent := if off then none else h.urgent }
  let s := (if off then s.put (Reg.PCV_STATUS k) F.PCV_STATUS_URG_PENDING 0 else s).setQueued k false
  if h.again ∧ st = 1 then beginPass k 0 e s else s.setPcvState k st

/-- The modulator edge at which a converter was to end has come: any pass, urgent entry and queued start ends, and STATE reads IDLE
or OFF (R214, R226). -/
def pcvSettle (k : Nat) (s : State) : State :=
  match (s.pcv k).ending with
  | none => s
  | some (e, st) => if tickBefore s.tick e then s else pcvTakeEnd k e st s

/-- Every converter whose edge has come. -/
def pcvSettleAll (s : State) : State :=
  (s.pcvs.filter (fun p => p.2.ending.isSome)).foldl (fun s p => pcvSettle p.1 s) s

/-- The next modulator edge, after the present tick (R214). -/
def State.nextEdge (s : State) (k : Nat) : Nat := s.edgeFrom k (s.tick + 1)

/-- The converter is to end at its next modulator edge, with `st` in STATE (R214, R226). -/
def pcvEnd (k st : Nat) (s : State) : State :=
  if s.pcvState k = 0 then s
  else
    let h := s.pcv k
    let st := match h.ending with
      | some (_, x) => min x st
      | none => st
    s.setPcv k { h with ending := some (s.nextEdge k, st), again := false }

/-- ENTRY_RUN_END (R207). -/
def execEntryRunEnd (k : Fin 24) (s : State) : Host.Outcome State Fault Refusal := .next (entryRunEnd k s.tick (pcvSettle k s))

/-- URGENT_ENTRY_END (R212). -/
def execUrgentEntryEnd (k : Fin 24) (s : State) : Host.Outcome State Fault Refusal := .next (urgentEnd k s.tick (pcvSettle k s))

/-! ### Starts and urgent requests (R208 to R213) -/

/-- A start requested at instant `t` (R209). -/
def requestStart (k t : Nat) (s : State) : State :=
  let h := s.pcv k
  s.setPcv k { h with starts := h.starts ++ [s.edgeFrom k (t + s.rn (Reg.PCV_DELAY k))] }

/-- A converter bound to a group takes starts only while the group runs (R211). -/
def State.startsAllowed (s : State) (k : Nat) : Bool :=
  decide (s.groupOf (Reg.PCV_STATUS k) ≥ 16) || s.unitRunning (Reg.PCV_STATUS k)

/-- A start takes effect at edge `t` (R209). -/
def startEffect (k t : Nat) (s : State) : State :=
  let s := urgentEnd k t (entryRunEnd k t (pcvSettle k s))
  if s.pcvState k = 0 ∨ s.startsAllowed k = false then s
  else if s.pcvState k = 1 then beginPass k 0 t s
  else if s.pcvQueued k then (s.bump (Reg.PCV_TRIG_OVERRUN k) 1).setFlag (Reg.PCV_FLAGS k) F.PCV_FLAGS_TRIG_OVERRUN
  else s.setQueued k true

/-- The earliest of the edges in a list. -/
def earliest : List Nat → Option Nat
  | [] => none
  | t :: r =>
    match earliest r with
    | none => some t
    | some x => some (if tickBefore x t then x else t)

/-- START_TAKES_EFFECT (R209): the earliest requested start, if its edge has come. -/
def startTakesEffect (k : Nat) (s : State) : State :=
  match earliest (s.pcv k).starts with
  | none => s
  | some t =>
    if tickBefore s.tick t then s else startEffect k t (s.setPcv k { s.pcv k with starts := (s.pcv k).starts.erase t })

/-- START_TAKES_EFFECT (R209). -/
def execStartTakesEffect (k : Fin 24) (s : State) : Host.Outcome State Fault Refusal := .next (startTakesEffect k s)

/-- An urgent request is pending or running (R213). -/
def State.urgBusy (s : State) (k : Nat) : Bool := s.on (Reg.PCV_STATUS k) F.PCV_STATUS_URG_PENDING || s.pcvState k == 3

/-- An urgent request at instant `t` becomes pending (R212). -/
def requestUrgent (k t : Nat) (s : State) : State :=
  (s.setPcv k { s.pcv k with urgent := some (s.edgeFrom k t) }).put (Reg.PCV_STATUS k) F.PCV_STATUS_URG_PENDING 1

/-- What the pass continues with after an urgent entry that takes effect now (R212). -/
def State.resumeAfter (s : State) (k : Nat) : Option (Nat × Option Nat × Nat) :=
  match (s.pcv k).run with
  | none => none
  | some r =>
    match s.runEnd k r with
    | some _ =>
      match s.nextEntry k r.entry with
      | some n => some (n, s.entryCount k n, 1)
      | none => none
    | none => some (r.entry, r.count.map (fun c => c - r.done), 4)

/-- URGENT_TAKES_EFFECT (R212): the pending urgent request reaches its edge. -/
def urgentTakesEffect (k : Nat) (s : State) : State :=
  let s := pcvSettle k s
  match (s.pcv k).urgent with
  | none => s
  | some t =>
    if tickBefore s.tick t then s
    else
      let s := s.put (Reg.PCV_STATUS k) F.PCV_STATUS_URG_PENDING 0
      if s.pcvState k = 0 then s.setPcv k { s.pcv k with urgent := none }
      else
        let w := s.rd (Reg.PCV_URG k)
        let r : PcvRun := { entry := 0, word := w, start := t, count := some (fldGet F.PCV_SEQ_COUNT w + 1), cause := 3, urg := true }
        (s.setPcv k { s.pcv k with urgent := none, resume := s.resumeAfter k, run := some r }).setPcvState k 3

/-- URGENT_TAKES_EFFECT (R212). -/
def execUrgentTakesEffect (k : Fin 24) (s : State) : Host.Outcome State Fault Refusal := .next (urgentTakesEffect k s)

/-- The index of the first timer due instant at or after edge index `i` (R210). -/
def nextDue (period phase i : Nat) : Nat :=
  let p := max 1 period
  i + (phase + p - i % p) % p

/-- PCV_TIMER_DUE (R210): the next due instant, if it has come, requests a start. -/
def timerDue (k : Nat) (s : State) : State :=
  let s := pcvSettle k s
  if s.startSrc k ≠ 1 ∨ s.pcvState k = 0 ∨ s.timebaseRuns = false then s
  else
    let h := s.pcv k
    let first := if s.tick / s.tMod k < h.timerFrom then 0 else h.timerFrom + 1
    let e := nextDue (s.rn (Reg.PCV_TIMER_PERIOD k)) (s.rn (Reg.PCV_TIMER_PHASE k)) first
    if e * s.tMod k ≤ s.tick then requestStart k (e * s.tMod k) (s.setPcv k { h with timerFrom := e }) else s

/-- PCV_TIMER_DUE (R210). -/
def execPcvTimerDue (k : Fin 24) (s : State) : Host.Outcome State Fault Refusal := .next (timerDue k s)

/-- Due instants count from now on. -/
def timerAfresh (k : Nat) (s : State) : State := s.setPcv k { s.pcv k with timerFrom := s.tick / s.tMod k }

/-- A rising edge of input `p` stamped `t` reaches the converters (R208, R212, R213). -/
def pcvEdge (p t : Nat) (s : State) : State :=
  (List.range 24).foldl (fun s k =>
    let s := pcvSettle k s
    if s.pcvState k = 0 then s
    else
      let s := if s.startSrc k = 2 ∧ s.get (Reg.PCV_CTL k) F.PCV_CTL_TP_START = p then requestStart k t s else s
      if s.on (Reg.PCV_CTL k) F.PCV_CTL_URG_TP_EN ∧ s.get (Reg.PCV_CTL k) F.PCV_CTL_TP_URG = p then
        if s.urgBusy k then (s.bump (Reg.PCV_URG_DROPCNT k) 1).setFlag (Reg.PCV_FLAGS k) F.PCV_FLAGS_URG_DROP
        else requestUrgent k t s
      else s) s

/-- Command START (R208, R209). -/
def pcvStart (k : Nat) (s : State) : State :=
  let s := pcvSettle k s
  if s.pcvState k = 0 ∨ s.startSrc k = 3 then s else requestStart k s.tick s

/-- Command URGENT (R212, R213): refused while another is pending or running; ignored when OFF. -/
def pcvUrgent (k : Nat) (s : State) : WStat × State :=
  let s := pcvSettle k s
  s.writeIf (Reg.PCV_CMD k) (firstOf [(s.urgBusy k, .stateRefused)]) (fun s => if s.pcvState k = 0 then s else requestUrgent k s.tick s)

/-- Command ABORT (R214). Requests that have not taken effect are no queued start and stay. -/
def pcvAbort (k : Nat) (s : State) : State := pcvEnd k 1 (pcvSettle k s)

/-- PCV_START (R209). -/
def execPcvStart (k : Fin 24) (s : State) : Host.Outcome State Fault Refusal :=
  .next (s.hostReg (Reg.PCV_CMD k) (pcvStart k s))
/-- PCV_URGENT (R212). -/
def execPcvUrgent (k : Fin 24) (s : State) : Host.Outcome State Fault Refusal :=
  .next (s.hostReg (Reg.PCV_CMD k) ((pcvUrgent k s).2))
/-- PCV_ABORT (R214). -/
def execPcvAbort (k : Fin 24) (s : State) : Host.Outcome State Fault Refusal :=
  .next (s.hostReg (Reg.PCV_CMD k) (pcvAbort k s))
/-- CLEAR_QUEUE (R214). -/
def execClearQueue (k : Fin 24) (s : State) : Host.Outcome State Fault Refusal :=
  .next (s.hostReg (Reg.PCV_CMD k) ((pcvSettle k s).setQueued k false))

/-- Clear the four counts (R228). -/
def pcvCntClr (k : Nat) (s : State) : State :=
  s.clearCounts [Reg.PCV_OVRCNT k, Reg.PCV_TRIG_OVERRUN k, Reg.PCV_URG_DROPCNT k, Reg.PCV_LOSTCNT k]

/-- PCV_CNTCLR (R228). -/
def execPcvCntclr (k : Fin 24) (s : State) : Host.Outcome State Fault Refusal :=
  .next (s.hostReg (Reg.PCV_CNTCLR k) (pcvCntClr k s))

/-- The group of converters leaves its running states: each ends as under ABORT (R211). -/
def pcvGroupEnd (g : Nat) (s : State) : State :=
  (List.range 24).foldl (fun s k => if s.groupOf (Reg.PCV_STATUS k) = g then pcvAbort k s else s) s

/-- The group enters ARMING: its FREE converters begin a pass, one that is about to become IDLE at that edge (R208, R214). -/
def pcvGroupArm (g : Nat) (s : State) : State :=
  (List.range 24).foldl (fun s k =>
    if s.groupOf (Reg.PCV_STATUS k) ≠ g ∨ s.startSrc k ≠ 3 then s
    else
      let s := pcvSettle k s
      if (s.pcv k).ending.isSome then s.setPcv k { s.pcv k with again := true }
      else if s.pcvState k = 1 then beginPass k 0 (s.edgeFrom k s.tick) s
      else s) s

/-- A FREE converter that no group binds begins a pass when it becomes IDLE (R208). -/
def freeStart (k : Nat) (s : State) : State :=
  if s.startSrc k = 3 ∧ s.groupOf (Reg.PCV_STATUS k) ≥ 16 then beginPass k 0 (s.edgeFrom k s.tick) s else s

/-! ### Units and rings (R222 to R225; 12 R316) -/

/-- The 6 bytes of a unit from the DATA of its two words and its tags (R222). -/
def unitBytes (w0 w1 tags : Nat) : List Byte :=
  leBytes 3 (w0 % 2 ^ 18 * 64 + tags) ++ leBytes 3 (w1 % 2 ^ 18 * 64 + tags)

/-- The three units of a marker (R222); `first`: the tags of the first (R48). -/
def markerUnits (ts : Int) (entry : Nat) (urg : Bool) (cause first : Nat) : List (List Byte) :=
  let v := unsx 72 ts
  (List.range 3).map (fun i =>
    let p := v / 2 ^ (24 * i) % 2 ^ 24
    unitBytes (p / 64) (2 ^ 12 * (p % 64) + 2 ^ 11 + 2 ^ 9 * i + 2 ^ 5 * entry + 2 ^ 4 * b2n urg + (if i = 0 then cause else 0)) (if i = 0 then first else 0))

/-- Room for units: in the ring, RING_UNITS less WR − RD modulo 2^32, so that it is full at that one difference (R225); or in the
stream of USER mode. -/
def State.unitRoom (s : State) (k : Nat) : Nat :=
  if s.on (Reg.PCV_CTL k) F.PCV_CTL_RING_MODE then 256 - (s.pcv k).stream.length
  else (s.get (Reg.PCV_RING_UNITS k) F.PCV_RING_UNITS_UNITS + s.rn (Reg.PCV_RING_RD k) + 2 ^ 32 - s.rn (Reg.PCV_RING_WR k)) % 2 ^ 32

/-- Units are discarded when the ring or stream is full (STOP in INTERNAL mode, always in USER mode). -/
def State.unitsStop (s : State) (k : Nat) : Bool :=
  s.on (Reg.PCV_CTL k) F.PCV_CTL_RING_MODE || !s.on (Reg.PCV_CTL k) F.PCV_CTL_POLICY

/-- One unit is written, or discarded and counted (R225). Answers whether it was written. -/
def putUnit (k : Nat) (u : List Byte) (s : State) : Bool × State :=
  if s.unitsStop k ∧ ((s.pcv k).stopped ∨ s.unitRoom k = 0) then
    let s := s.setPcv k { s.pcv k with stopped := true }
    (false, (s.bump (Reg.PCV_LOSTCNT k) 1).setFlag (Reg.PCV_FLAGS k) F.PCV_FLAGS_RING_LOST)
  else
    let h := s.pcv k
    let s := s.setPcv k { h with total := h.total + 1 }
    if s.on (Reg.PCV_CTL k) F.PCV_CTL_RING_MODE then (true, s.setPcv k { s.pcv k with stream := h.stream ++ [u] })
    else
      let n := max 1 (s.get (Reg.PCV_RING_UNITS k) F.PCV_RING_UNITS_UNITS)
      let w := s.rn (Reg.PCV_RING_WR k)
      let ovw := decide (n ≤ h.total) && !s.unitsStop k && !s.on (Reg.PCV_FLAGS k) F.PCV_FLAGS_RING_OVWR
      let s := s.setFlagIf ovw (Reg.PCV_FLAGS k) F.PCV_FLAGS_RING_OVWR
      let a := s.groupBase (Reg.PCV_RING_BASE_LO k) (Reg.PCV_RING_BASE_HI k) + 6 * (w % n)
      (true, (memWrite a u s).wn (Reg.PCV_RING_WR k) (w + 1))

/-- Units in order; whether the last was written. -/
def putUnits (k : Nat) : List (List Byte) → State → Bool × State
  | [], s => (true, s)
  | [u], s => putUnit k u s
  | u :: t, s => putUnits k t (putUnit k u s).2

/-- RING_RESUME (R225): with 4 units free, writing resumes with a RESYNC marker before the next result. -/
def ringResume (k : Nat) (s : State) : State :=
  if (s.pcv k).stopped ∧ s.unitRoom k ≥ 4 then s.setPcv k { s.pcv k with stopped := false, resync := true } else s

/-- RING_RESUME (R225). -/
def execRingResume (k : Fin 24) (s : State) : Host.Outcome State Fault Refusal := .next (ringResume k s)

/-- The converters whose overload lies at most two result periods `t2` before edge `at'` (R218). -/
def State.overloaders (s : State) (k t2 at' : Nat) : List Nat :=
  (List.range 24).filter (fun j => j != k && match (s.pcv j).onset with
    | none => false
    | some o => decide (0 ≤ tickDiff at' o) && decide (tickDiff at' o ≤ t2))

/-- Overloads begin: converters, each with how long before the present tick (R218). -/
def noteOnsets (l : List (Fin 24 × Nat)) (s : State) : State :=
  l.foldl (fun s p => s.setPcv p.1 { s.pcv p.1 with onset := some ((s.tick + 2 ^ 64 - p.2 % 2 ^ 64) % 2 ^ 64) }) s

/-- The end of the converter comes before edge `at'`. -/
def State.endsBefore (s : State) (k at' : Nat) : Bool :=
  match (s.pcv k).ending with
  | none => false
  | some (e, _) => tickBefore e at'

/-- The result code of an input voltage in units of 4.096 V / 2^40, before clamping (R199): round_even(V × 2^g / 4.096 V × 2^23). -/
def resultCode (gain : Nat) (v : Int) : Int := rne 17 (v * 2 ^ gain)

/-- A result is complete (R205, R215 to R219, R222): the filter's output stands for the input voltage `v` in units of 4.096 V / 2^40,
and `trip` is the overload detector. -/
def resultComplete (k : Nat) (v : Int) (trip : Bool) (s : State) : State :=
  match (s.pcv k).run with
  | none => s
  | some r =>
    let at' := s.resultAt k r r.done
    if (s.runEnd k r).isSome ∨ tickBefore s.tick at' ∨ s.endsBefore k at' ∨ s.timebaseRuns = false then s
    else
      let x := resultCode (fldGet F.PCV_SEQ_GAIN r.word) v
      let ovr := trip || decide (satS 24 x ≠ x)
      let c : Int := if ovr then (if x < 0 then -8388608 else 8388607) else x
      let pos := fldGet F.PCV_SEQ_POS r.word
      let inv := decide (0 < r.inv)
      let by' := s.overloaders k (2 * s.tOut k r.word) at'
      let nbr := !by'.isEmpty
      let owd := fldGet F.PCV_SEQ_OWCUR r.word != 0 && (ovr || decide (c.natAbs ≥ s.get (Reg.PCV_OW_THRESH k) F.PCV_OW_THRESH_LEVEL))
      let s := if ovr then (s.bump (Reg.PCV_OVRCNT k) 1).setFlag (Reg.PCV_FLAGS k)
          (if x < 0 then F.PCV_FLAGS_OVR_NEG else F.PCV_FLAGS_OVR_POS) else s
      let s := by'.foldl (fun s j => s.setFlag (Reg.PCV_FLAGS j) F.PCV_FLAGS_NBR_CAUSE) s
      let s := if owd ∧ r.owd = false then
          (s.setFlag (Reg.PCV_FLAGS k) F.PCV_FLAGS_OPEN_WIRE).setFlag (Reg.PCV_FLAGS k) ⟨16 + pos, 1⟩ else s
      let ts := s.resultTs k r r.done
      let h := s.pcv k
      let resync := h.resync && !h.stopped
      let s := if resync then (putUnits k (markerUnits ts r.entry r.urg 5 tagGAP) (s.setPcv k { h with resync := false })).2
        else if r.done = 0 then (putUnits k (markerUnits ts r.entry r.urg r.cause 0) s).2 else s
      let tags := (if ovr then tagOVR else 0) + (if resync then tagGAP else 0)
      let u := unsx 24 c
      let w1 := 2 ^ 12 * (u % 64) + 2 ^ 7 * r.entry + 2 ^ 5 * pos + 2 ^ 4 * b2n r.urg + 2 ^ 3 * b2n inv + 2 ^ 2 * b2n nbr + 2 * b2n owd
      let q := putUnit k (unitBytes (u / 64) w1 tags) s
      let s := q.2.avUp (16 + 4 * k + pos) 1
      let s := if q.1 = false ∨ inv ∨ nbr then s.avDown (16 + 4 * k + pos) 1 else s
      let h := s.pcv k
      let r := { r with done := r.done + 1, inv := if ovr then nSet (s.profReg k r.word) else r.inv - 1,
                        owd := r.owd || owd, ovl := ovr }
      let told := match h.onset with
        | some o => decide (tickDiff at' o ≤ s.tOut k r.word)
        | none => false
      s.setPcv k { h with run := some r, onset := if ovr && !told && !(match h.run with
        | some o => o.ovl
        | none => false) then some at' else h.onset }

/-- RESULT_COMPLETE (R205): the next result of converter `k`, if its instant has come. -/
def execResultComplete (k : Fin 24) (v : Int) (o : Overloads) (s : State) : Host.Outcome State Fault Refusal :=
  .next (resultComplete k v o.trip (noteOnsets o.onsets s))

/-! ### Enabling, stopping, reference (R220, R221, R226, R227) -/

/-- The enable of a converter (R226): its stream starts anew, its trims are loaded, and powering begins where the precision domain
is on and the device configured. A trim set that failed its check refuses it (R220). -/
def pcvPower (k : Nat) (s : State) : State :=
  if (s.pcv k).trimBad then s.setFlag (Reg.PCV_FLAGS k) F.PCV_FLAGS_TRIM_FAULT
  else
    let s := (s.wr (Reg.PCV_RING_WR k) 0#32).setPcv k { s.pcv k with total := 0, stream := [], stopped := false, resync := false }
    if s.domOn domPrec ∧ s.unconf = false then s.put (Reg.PCV_STATUS k) F.PCV_STATUS_POWERING 1 else s

/-- PCV_READY (R226): the converter finishes powering and is IDLE; a FREE converter begins its pass. -/
def pcvReady (k : Nat) (s : State) : State :=
  let s := pcvSettle k s
  if s.on (Reg.PCV_STATUS k) F.PCV_STATUS_POWERING = false ∨ s.domOn domPrec = false ∨ s.pcvState k ≠ 0 then s
  else
    let s := (s.put (Reg.PCV_STATUS k) F.PCV_STATUS_POWERING 0).setPcvState k 1
    freeStart k (timerAfresh k s)

/-- PCV_READY (R226). -/
def execPcvReady (k : Fin 24) (s : State) : Host.Outcome State Fault Refusal := .next (pcvReady k s)

/-- A converter that is to become OFF does so now: no modulator edge comes while the timebase stands (R226; DESIGN CHOICE, log 144). -/
def pcvForce (k : Nat) (s : State) : State :=
  match (s.pcv k).ending with
  | some (e, 0) => pcvTakeEnd k e 0 s
  | _ => s

/-- The converter is to become OFF at its next modulator edge, with ENABLE as it is (R226); its stream closes where it is disabled
(12_dma_flows.md R316). -/
def pcvOff (k : Nat) (s : State) : State :=
  let s := pcvSettle k s
  let s := if s.pcvOn k then s else s.closeEnd k
  let s := pcvEnd k 0 (s.put (Reg.PCV_STATUS k) F.PCV_STATUS_POWERING 0)
  if s.timebaseRuns then s else pcvForce k s

/-- Every converter ends: STANDBY, loss of the precision domain, device FAULT (R226). -/
def pcvAllOff (s : State) : State := (List.range 24).foldl (fun s k => pcvOff k s) s

/-- On return to CONFIGURED every converter with ENABLE = 1 is enabled again (R226). -/
def pcvReturn (s : State) : State :=
  (List.range 24).foldl (fun s k =>
    let s := pcvForce k (pcvSettle k s)
    if s.pcvOn k ∧ s.on (Reg.PCV_STATUS k) F.PCV_STATUS_POWERING = false ∧ s.pcvState k = 0 then pcvPower k s else s) s

/-- Loss of sample-synthesiser lock (R227): the pass, the urgent request and the queued start are discarded. -/
def pcvLockLost (s : State) : State :=
  (List.range 24).foldl (fun s k =>
    let s := pcvSettle k s
    if s.pcvState k = 0 then s
    else
      let s := s.setPcv k { s.pcv k with run := none, resume := none, urgent := none }
      ((s.setQueued k false).put (Reg.PCV_STATUS k) F.PCV_STATUS_URG_PENDING 0).setPcvState k 1) s

/-- After relock: FREE converters begin a new pass, due instants arise again (R227). -/
def pcvRelocked (s : State) : State :=
  (List.range 24).foldl (fun s k =>
    if s.pcvState k = 1 ∧ (s.pcv k).ending.isNone then freeStart k (timerAfresh k s) else s) s

/-- The ring of the converter does not lie within installed memory (R228). -/
def State.ringOutside (s : State) (ctl : Word) (k : Nat) : Bool :=
  fldGet F.PCV_CTL_RING_MODE ctl == 0 &&
    decide (s.groupBase (Reg.PCV_RING_BASE_LO k) (Reg.PCV_RING_BASE_HI k) + 6 * s.get (Reg.PCV_RING_UNITS k) F.PCV_RING_UNITS_UNITS > s.capacity)

/-- A profile lies outside the limits of R201. -/
def profBad (lp : Bool) (p : Word) : Bool :=
  let x := profOsr p * (if profFir p then 4 else 1)
  decide (x < 40) || decide (x > (if lp then 2560000 else 10240000))

/-- The write enables the converter. -/
def State.enabling (s : State) (k : Nat) (v : Word) : Bool := fldGet F.PCV_CTL_ENABLE v == 1 && !s.pcvOn k

/-- The checks of a write of PCV_CTL (R201, R220, R228; 11_acquisition_memory.md R282). -/
def pcvCtlCheck (k : Nat) (v : Word) (s : State) : WStat :=
  let others := (v &&& 0x01FFF333#32 &&& ~~~ 1#32) != (s.rd (Reg.PCV_CTL k) &&& 0x01FFF333#32 &&& ~~~ 1#32)
  firstOf [
    (fldGet F.PCV_CTL_LP v == 1 && (List.range 4).any (fun p => profBad true (s.rd (Reg.PCV_PROF k p))), .valueRefused),
    (s.enabling k v && s.ringOutside v k, .valueRefused),
    (s.unitRunning (Reg.PCV_STATUS k), .gated),
    (others && (s.pcvState k != 0 || s.on (Reg.PCV_STATUS k) F.PCV_STATUS_POWERING), .stateRefused),
    (s.enabling k v && ((s.pcv k).trimBad || (fldGet F.PCV_CTL_RING_MODE v == 0 && !s.memReady)), .stateRefused)]

/-- An accepted write of PCV_CTL (R226). -/
def pcvCtlApply (k : Nat) (v : Word) (s : State) : State :=
  let en := s.enabling k v
  let s := s.applyFields (Reg.PCV_CTL k) v
  if en then pcvPower k s
  else if s.pcvOn k then s else pcvOff k s

/-- A write of PCV_CTL; an enable refused for its trims sets TRIM_FAULT (R220). -/
def writePcvCtl (k : Nat) (v : Word) (s : State) : WStat × State :=
  let s := pcvSettle k s
  let r := s.writeIf (Reg.PCV_CTL k) (pcvCtlCheck k v s) (pcvCtlApply k v)
  (r.1, r.2.setFlagIf (r.1 == .stateRefused && s.enabling k v && (s.pcv k).trimBad) (Reg.PCV_FLAGS k) F.PCV_FLAGS_TRIM_FAULT)

/-- PCV_ENABLE (R226): a write of PCV_CTL with ENABLE = 1. -/
def execPcvEnable (k : Fin 24) (v : Word) (s : State) : Host.Outcome State Fault Refusal :=
  .next (s.hostReg (Reg.PCV_CTL k) ((writePcvCtl k (withEnable v true) s).2))

/-- PCV_DISABLE (R226): a write of PCV_CTL with ENABLE = 0. -/
def execPcvDisable (k : Fin 24) (v : Word) (s : State) : Host.Outcome State Fault Refusal :=
  .next (s.hostReg (Reg.PCV_CTL k) ((writePcvCtl k (withEnable v false) s).2))

/-- REF_DRIFT_UPDATE (R221): DRIFT in 0.01 ppm as measured; MARGIN and the flags of PCV[0] follow. -/
def refDriftUpdate (drift : Int) (s : State) : State :=
  let d := satS 16 drift
  let m := satS 16 ((s.get (Reg.PCV_REF_SPEC 0) F.PCV_REF_SPEC_SPEC : Int) - d.natAbs)
  let old := sext 16 (s.get (Reg.PCV_REF_DRIFT 0) F.PCV_REF_DRIFT_MARGIN)
  let low : Int := s.get (Reg.PCV_REF_LIMIT 0) F.PCV_REF_LIMIT_LOW
  let s := noteRefMargin m (s.wn (Reg.PCV_REF_DRIFT 0) (2 ^ 16 * unsx 16 m + unsx 16 d))
  let s := s.setFlagIf (decide (m < low) && decide (low ≤ old)) (Reg.PCV_FLAGS 0) F.PCV_FLAGS_REF_MARGIN_LOW
  s.setFlagIf (decide (m < 0) && decide (0 ≤ old)) (Reg.PCV_FLAGS 0) F.PCV_FLAGS_REF_OUT

/-- REF_DRIFT_UPDATE (R221). -/
def execRefDriftUpdate (drift : Int) (s : State) : Host.Outcome State Fault Refusal := .next (refDriftUpdate drift s)

/-- A register of a run `lo` to `hi`. -/
def inRun (a lo hi : Nat) : Bool := decide (lo ≤ a) && decide (a ≤ hi)

/-- The checks of the other PCV registers (R228). -/
def pcvRegCheck (k a : Nat) (v : Word) (s : State) : WStat :=
  let grp := s.unitRunning (Reg.PCV_STATUS k)
  let busy := decide (s.pcvState k ≥ 2)
  let off := s.pcvState k == 0
  if inRun a (Reg.PCV_PROF k 0) (Reg.PCV_PROF k 3) then
    firstOf [(fldGet F.PCV_PROF_ORDER v == 3 || profBad (s.on (Reg.PCV_CTL k) F.PCV_CTL_LP) v, .valueRefused), (grp || busy, .gated)]
  else if inRun a (Reg.PCV_SEQ k 0) (Reg.PCV_SEQ k 15) ∨ a = Reg.PCV_MUXSET k ∨ a = Reg.PCV_OW_THRESH k then
    firstOf [(grp || busy, .gated)]
  else if a = Reg.PCV_URG k then firstOf [(grp || s.urgBusy k, .gated)]
  else if a = Reg.PCV_RING_BASE_LO k ∨ a = Reg.PCV_RING_BASE_HI k then firstOf [(grp || !off, .gated)]
  else if a = Reg.PCV_RING_UNITS k then
    firstOf [(decide (fldGet F.PCV_RING_UNITS_UNITS v < 64), .valueRefused), (grp || !off, .gated)]
  else if a = Reg.PCV_FLOW k then
    firstOf [(decide (fldGet F.PCV_FLOW_FLOW v ≥ 8128), .valueRefused), (grp || !off, .gated)]
  else if a = Reg.PCV_RING_RD k then
    firstOf [(decide ((s.rn (Reg.PCV_RING_WR k) + 2 ^ 32 - v.toNat) % 2 ^ 32 > s.get (Reg.PCV_RING_UNITS k) F.PCV_RING_UNITS_UNITS), .valueRefused)]
  else if a = Reg.PCV_TIMER_PERIOD k then firstOf [(decide (v.toNat ≤ s.rn (Reg.PCV_TIMER_PHASE k)), .valueRefused)]
  else if a = Reg.PCV_TIMER_PHASE k then firstOf [(decide (v.toNat ≥ s.rn (Reg.PCV_TIMER_PERIOD k)), .valueRefused)]
  else if a = Reg.PCV_CMD k then firstOf [(decide (fldGet F.PCV_CMD_OP v > 4), .valueRefused)]
  else .ok

/-- An accepted write of a PCV register other than PCV_CTL. REF_LIMIT is effective in PCV[0] only. -/
def pcvApply (k a : Nat) (v : Word) (s : State) : State :=
  if a = Reg.PCV_CMD k then
    match fldGet F.PCV_CMD_OP v with
    | 1 => pcvStart k s
    | 3 => pcvAbort k s
    | 4 => s.setQueued k false
    | _ => s
  else if a = Reg.PCV_CNTCLR k then (if v.toNat % 2 = 1 then pcvCntClr k s else s)
  else if a = Reg.PCV_TIMER_PERIOD k ∨ a = Reg.PCV_TIMER_PHASE k then timerAfresh k (s.applyFields a v)
  else if a = Reg.PCV_REF_LIMIT k ∧ k ≠ 0 then s
  else s.applyFields a v

/-- A write of a register of PCV[k]. -/
def writePcv (k a : Nat) (v : Word) (s : State) : WStat × State :=
  if a = Reg.PCV_CTL k then writePcvCtl k v s
  else if a = Reg.PCV_CMD k ∧ fldGet F.PCV_CMD_OP v = 2 then pcvUrgent k s
  else
    let s := pcvSettle k s
    s.writeIf a (pcvRegCheck k a v s) (pcvApply k a v)

/-- The planned memory traffic of the enabled converters in INTERNAL ring mode, in 2^−32 B/s: 6 B per result and 18 B per entry
run of the fastest entry (R223). -/
def State.pcvTraffic (s : State) : Nat :=
  (List.range 24).foldl (fun x k =>
    if s.pcvOn k ∧ s.on (Reg.PCV_CTL k) F.PCV_CTL_RING_MODE = false then
      x + (List.range (s.pcvLen k + 1)).foldl (fun m e =>
        let w := s.rd (Reg.PCV_SEQ k e)
        let t := max 1 (s.tOut k w)
        max m (6 * ticksPerSecond * 2 ^ 32 / t +
          (match s.entryCount k e with
            | none => 0
            | some c => 18 * ticksPerSecond * 2 ^ 32 /
                max 1 (s.get (Reg.PCV_MUXSET k) F.PCV_MUXSET_CYCLES * s.tMod k + (nSet (s.profReg k w) + c - 1) * t)))) 0
    else x) 0

/-- The plan of the lane of converter `k` in rate units of 156,250 word/s, rounded up: two words per result and six per entry run of
the fastest entry (R223). -/
def State.pcvLane (s : State) (k : Nat) : Nat :=
  (List.range (s.pcvLen k + 1)).foldl (fun m e =>
    let w := s.rd (Reg.PCV_SEQ k e)
    let t := max 1 (s.tOut k w)
    let p := match s.entryCount k e with
      | none => (2 * ticksPerSecond, t * 156250)
      | some c =>
        let d := s.get (Reg.PCV_MUXSET k) F.PCV_MUXSET_CYCLES * s.tMod k + (nSet (s.profReg k w) + c - 1) * t
        ((2 * d + 6 * t) * ticksPerSecond, t * d * 156250)
    max m ((p.1 + p.2 - 1) / p.2)) 0

/-- The highest of those plans over the enabled converters. -/
def State.pcvLanes (s : State) : Nat := (List.range 24).foldl (fun m k => if s.pcvOn k then max m (s.pcvLane k) else m) 0

end Sys2Proof.Machine
end

