-- ==== Sys2Proof/Machine/Sluice.lean ====
section
/-! DEFINITION. The sluice and the spillway (07_polders_and_accumulation.md R188). -/
namespace Sys2Proof.Machine

/-- Channel `m` takes a write now: READY, in a self-refresh that a request ends, or in FAULT, where it is discarded. -/
def State.chTakes (s : State) (m : Nat) : Bool :=
  s.phase m == phReady || s.phase m == phFault ||
    (s.phase m == phSr && ((s.mch m).srCause == 1 || (s.mch m).srCause == 2))

/-- Ticks of real time in one µs. -/
def tickUs : Nat := 163840

/-- Activations that a requester has made on the channel in the present µs, where it is throttled (11_acquisition_memory.md R296). -/
def State.throttleUse (s : State) (m req : Nat) : Option Nat :=
  ((s.mch m).throttled.find? (fun p => p.1 == req)).map (fun p => if (s.mch m).throttleUs = s.rt / tickUs then p.2 else 0)

/-- A throttled requester has used its activations of the present µs (11_acquisition_memory.md R296). -/
def State.throttledOut (s : State) (m req : Nat) : Bool :=
  match s.throttleUse m req with
  | none => false
  | some k => decide (s.get (Reg.MCH_RH_CTL m) F.MCH_RH_CTL_RATE ≤ k)

/-- The polder writer that issues a write is throttled out on a channel of it (11_acquisition_memory.md R296). -/
def State.writerHeld (s : State) (w : WrReq) : Bool :=
  match w.group with
  | none => false
  | some g => (s.chansOf w.addr w.data.length).any (fun m => s.throttledOut m (0x2000 + g))

/-- Every channel of a write takes it now. -/
def State.rangeTakes (s : State) (w : WrReq) : Bool := (s.chansOf w.addr w.data.length).all s.chTakes && !s.writerHeld w

/-- Size of the spillway in bytes (01 R40). -/
def spillSize : Nat := 67108864

/-- The sluice is closed. -/
def State.sluiceClosed (s : State) : Bool := s.on Reg.POL_STATUS F.POL_STATUS_SLUICE_CLOSED

/-- A write enters the spillway; with no room left for another line the sluice closes. -/
def spillIn (w : WrReq) (s : State) : State :=
  let was := s.mem.spill.isEmpty
  let p := numberWrite w s
  let s := showSpill { p.2 with mem := { p.2.mem with spill := p.2.mem.spill ++ [p.1] } }
  let s := s.setFlagIf was Reg.POL_FLAGS F.POL_FLAGS_SPILL_USED
  let s := if s.spillKib > s.get Reg.POL_SPILL_HWM F.POL_SPILL_HWM_KIB then
      s.put Reg.POL_SPILL_HWM F.POL_SPILL_HWM_KIB s.spillKib else s
  if s.spillBytes + 64 > spillSize ∧ s.sluiceClosed = false then
    (s.put Reg.POL_STATUS F.POL_STATUS_SLUICE_CLOSED 1).setFlag Reg.POL_FLAGS F.POL_FLAGS_SLUICE_CLOSED
  else s

/-- A write with its place in the order of issue reaches memory, behind what was issued before it to the same lines (R187;
11_acquisition_memory.md R289). -/
def issueNumbered (w : WrReq) (s : State) : State :=
  let s := noteRange w.addr w.data.length s
  landWrite w (landAll (s.before w.seq w.addr w.data.length) s)

/-- A write is issued and reaches memory. -/
def issueWrite (w : WrReq) (s : State) : State :=
  let p := numberWrite w s
  issueNumbered p.1 p.2

/-- The spillway's oldest writes leave it in order, up to the first whose channel does not take it; `fuel` bounds them. -/
def drainSome : Nat → State → State
  | 0, s => s
  | f + 1, s =>
    match s.mem.spill with
    | [] => s
    | w :: t =>
      if s.rangeTakes w then
        drainSome f (issueNumbered w { s with mem := { s.mem with spill := t } })
      else s

/-- The spillway drains as far as the channels take its writes; under TST_BP not at all (19_monitoring_and_test.md R486). -/
def drainSpill (s : State) : State := if s.sluiceHeld then s else showSpill (drainSome s.mem.spill.length s)

/-- A write of the polder manager: to memory where the spillway is empty and there is credit, else into the spillway. TST_BP
withholds the credit (19_monitoring_and_test.md R486). -/
def sluice (credit : Bool) (w : WrReq) (s : State) : State :=
  if s.mem.spill.isEmpty ∧ credit ∧ s.sluiceHeld = false ∧ s.rangeTakes w then
    issueWrite w s
  else spillIn w s

/-- The spillway takes `n` more bytes (R188). -/
def State.spillRoom (s : State) (n : Nat) : Bool := s.mem.spill.isEmpty || decide (s.spillBytes + n ≤ spillSize)

/-- A closed sluice reopens when occupancy has fallen to POL_SPILL_RESUME. -/
def sluiceReopen (s : State) : State :=
  if s.sluiceClosed = false then s
  else
  let s := drainSpill s
  if s.spillKib ≤ s.get Reg.POL_SPILL_RESUME F.POL_SPILL_RESUME_KIB then
    s.put Reg.POL_STATUS F.POL_STATUS_SLUICE_CLOSED 0 else s

end Sys2Proof.Machine
end

