-- ==== Sys2Proof/Machine/Polder.lean ====
section
/-! DEFINITION. The polder manager: decimation, rings, polders, dikes, record headers, hand-over of shadowed settings
(07_polders_and_accumulation.md R168 to R188; 17_configuration_images.md R440 to R443). Names and instants are in 1/256 tick. -/
namespace Sys2Proof.Machine

def State.dec (s : State) (k : Nat) : DecHid := lookupD (fun _ => {}) s.decs k
def State.setDec (s : State) (k : Nat) (x : DecHid) : State := { s with decs := updateD (fun _ => {}) s.decs k x }
def State.ringsOf (s : State) (g : Nat) : List PolRing := lookupD (fun _ => []) s.rings g
def State.setRings (s : State) (g : Nat) (l : List PolRing) : State := { s with rings := updateD (fun _ => []) s.rings g l }

def State.protect (s : State) (g : Nat) : Bool := s.on (Reg.POL_G_CTL g) F.POL_G_CTL_PROTECT
def State.continuous (s : State) (g : Nat) : Bool := s.on (Reg.POL_G_CTL g) F.POL_G_CTL_OPEN
def State.oneShot (s : State) (g : Nat) : Bool := s.get (Reg.POL_G_CTL g) F.POL_G_CTL_DEPTH == 0
def State.nextSlot (s : State) (g : Nat) : Nat := s.get (Reg.POL_G_NEXT_SLOT g) F.POL_G_NEXT_SLOT_SLOT

/-! ### Decimation (R169, R170) -/

/-- Whole ticks and fraction of an instant. -/
def tsWhole (x : Int) : Nat := unsx 72 x / 256
def tsFrac (x : Int) : Nat := unsx 72 x % 256

/-- OR of the tags of words. -/
def tagsOf (l : List DecWord) : Nat := l.foldl (fun t w => orTags t w.tags) 0

/-- The word of an interval that a comparison prefers; the earliest on a tie. Words are listed latest first. -/
def pick (better : Int → Int → Bool) : List DecWord → Option DecWord
  | [] => none
  | w :: t =>
    match pick better t with
    | none => some w
    | some u => if better w.v u.v then some w else some u

/-- The centre of an average of `n` words from the oldest, named `o` (R169); `p` is *P* in 2^−31 tick. -/
def centreName (o : Int) (n p : Nat) : Int :=
  rneDiv (o * 2 ^ 32 + ((n - 1) * p * 256 : Nat)) (2 ^ 32 : Nat)

/-- The outputs of a complete interval or window (R169). A long average may round to +131,071 with a word below it (DEDUCED, log 149). -/
def intervalOut (s : State) (d : StreamDef) (h : DecHid) : List DecWord :=
  let n := 2 ^ d.log2D
  let p := s.srcTr d.src * s.srcRatio d.src
  let l := h.win.take (if d.mode = 4 then 2 ^ d.log2W else n)
  let t := tagsOf l
  match l.getLast? with
  | none => []
  | some f =>
    let one (v name : Int) : List DecWord := [⟨name, v, t, f.acc, f.rst⟩]
    match d.mode with
    | 0 => one f.v f.name
    | 1 => match pick (fun a b => decide (a.natAbs > b.natAbs)) l with
      | none => []
      | some w => one w.v f.name
    | 2 => one (rneDiv (l.foldl (fun x w => x + w.v) 0) (n : Nat)) (centreName f.name n p)
    | 3 => match pick (fun a b => decide (a < b)) l, pick (fun a b => decide (a > b)) l with
      | some a, some b => [⟨f.name, a.v, t, f.acc, f.rst⟩, ⟨f.name, b.v, t, f.acc, false⟩]
      | _, _ => []
    | _ => one (rneDiv (l.foldl (fun x w => x + w.v) 0) (2 ^ d.log2W : Nat)) (centreName f.name (2 ^ d.log2W) p)

/-- The decimator of stored stream `k` takes a source word: its outputs. -/
def decTake (k : Nat) (d : StreamDef) (q : QWord) (s : State) : List DecWord × State :=
  let tags := wTags q.w
  let h := s.dec k
  let h := if q.rst then { h with rstOwed := if hasTag tags tagGAP then 2 else 1 } else h
  let h := if hasTag tags tagGAP ∨ q.rst then { h with win := [], cnt := 0, since := 0 } else h
  let keep := if d.mode = 4 then 2 ^ d.log2W else 2 ^ d.log2D
  let h := { h with win := (⟨q.name, wData q.w, tags, q.acc, q.rst⟩ :: h.win).take keep, cnt := h.cnt + 1, since := h.since + 1 }
  if h.cnt < 2 ^ d.log2D then ([], s.setDec k h)
  else if d.mode = 4 ∧ h.since < 2 ^ d.log2W then ([], s.setDec k { h with cnt := 0 })
  else
    let o := intervalOut s d h
    (o, s.setDec k { h with cnt := 0, lastOut := o.getLast?.map (fun w => w.name) })

/-! ### Slots and rings (R173 to R179) -/

/-- The slot after `k`; none where a polder in `k` is the acquisition's last (R179). -/
def State.slotAfter (s : State) (g k : Nat) : Option Nat :=
  if s.oneShot g ∧ k + 1 ≥ s.nPold g then none
  else if s.protect g ∧ s.dikeState g ((k + 1) % s.nPold g) = 2 then none
  else some ((k + 1) % s.nPold g)

/-- A ring in slot `k` that starts at `t` (R173, R174). -/
def newRing (g k : Nat) (t : Int) (s : State) : PolRing :=
  { slot := k, base := s.dataBase g + s.slotSize g * k, acq := s.rn (Reg.POL_G_ACQ g), openTs := t,
    strs := (s.groupStreams g).map (fun p =>
      { k := p.1, d := p.2, step := s.stepOf p.2, tr := s.srcTr p.2.src, rs := s.srcRs p.2.src,
        phase := if 16 ≤ p.2.src then s.get (Reg.DCF_RS_PHASE ((p.2.src - 16) % 32)) F.DCF_RS_PHASE_PHASE else 0 }) }

/-- Where the names of a ring end: truncation or boundary; none while it has not opened. -/
def PolRing.ends (r : PolRing) : Option Int :=
  match r.close with
  | some c => some c.2
  | none => if r.opened then some r.b else none

/-- A name lies in a ring. -/
def PolRing.takes (r : PolRing) (n : Int) : Bool :=
  !tsBefore n r.openTs && match r.ends with
    | none => true
    | some e => tsBefore n e

/-- The polder that is open and not closed logically. -/
def State.openRing (s : State) (g : Nat) : Option PolRing := (s.ringsOf g).find? (fun r => r.opened && r.close.isNone)

/-- Replace the ring that stands at `r`'s place: the one with its slot, acquisition and start. -/
def PolRing.same (a b : PolRing) : Bool := a.slot == b.slot && a.acq == b.acq && a.openTs == b.openTs
def State.putRing (s : State) (g : Nat) (r : PolRing) : State :=
  s.setRings g ((s.ringsOf g).map (fun x => if x.same r then r else x))

/-- Rings whose polder has not opened are abandoned (R180). -/
def dropUnopened (g : Nat) (s : State) : State := s.setRings g ((s.ringsOf g).filter (fun r => r.opened))

/-! ### Storing words (R174, R184, R188; 03 R85 to R87) -/

/-- Bits per sample of a format. -/
def fmtBits (f : Nat) : Nat := [12, 18, 24].getD f 24

/-- The sample that a stored word becomes. -/
def fmtSample (f : Nat) (v : Int) (tags : Nat) : Nat :=
  match f with
  | 0 => unsx 12 (satS 12 (rne 6 v))
  | 1 => unsx 18 v
  | _ => (mkWord v tags).toNat

/-- Byte `a` with `n` bits of `x` entered from bit `at` of the byte string that begins at `a` on; only bits of this byte. -/
def mixByte (old : Byte) (bitAt n x byteIdx : Nat) : Byte :=
  BitVec.ofNat 8 (ofBits ((List.range 8).map (fun i =>
    let j := 8 * byteIdx + i
    if bitAt ≤ j ∧ j < bitAt + n then bitOf x (j - bitAt) else bitOf old.toNat i)))

/-- The byte a stream's packing shows at `a`: its line buffer, else what memory will hold. -/
def RingStream.peekAt (r : RingStream) (s : State) (a : Nat) : Byte :=
  match r.buf.find? (fun p => p.1 == a) with
  | some p => p.2
  | none => s.peek a

/-- Enter `n` bits of `x` at bit `bitAt` of the stream's area, which begins at `a`. -/
def enterBits (s : State) (a bitAt n x : Nat) (r : RingStream) : RingStream :=
  let lo := bitAt / 8
  let cnt := (bitAt + n - 1) / 8 - lo + 1
  { r with buf := (List.range cnt).foldl (fun b i =>
      insertKey (a + lo + i) (mixByte (r.peekAt s (a + lo + i)) bitAt n x (lo + i)) (eraseKey (a + lo + i) b)) r.buf }

/-- Consecutive bytes of one line as writes. -/
def runs : List (Nat × Byte) → List WrReq
  | [] => []
  | (a, b) :: t =>
    match runs t with
    | [] => [{ addr := a, data := [b] }]
    | w :: r => if w.addr = a + 1 ∧ a / 64 = w.addr / 64 then { addr := a, data := b :: w.data } :: r
      else { addr := a, data := [b] } :: w :: r

/-- Writes of a group's polder manager pass the sluice in order. -/
def sluiceAll (g : Nat) (credit : Bool) (l : List WrReq) (s : State) : State :=
  l.foldl (fun s w => sluice credit { w with group := some g } s) s

/-- The buffered bytes of every line but line `keep` go out. -/
def flushLines (g : Nat) (credit : Bool) (keep : Option Nat) (r : RingStream) (s : State) : RingStream × State :=
  let out := r.buf.filter (fun p => decide (some (p.1 / 64) ≠ keep))
  ({ r with buf := r.buf.filter (fun p => decide (some (p.1 / 64) = keep)) }, sluiceAll g credit (runs out) s)

/-- Positions from the previous stored word of the stream to this one (R174, R184), and the positions lost between. The word and
its maximum in an ENVELOPE pair share a name. `sync` marks the first word after a reset that loses no position: it follows the
previous stored word, behind what was discarded since. -/
def stepsTo (r : RingStream) (o : DecWord) (second sync : Bool) : Nat × Nat :=
  match r.words with
  | [] => (0, 0)
  | p :: _ =>
    if sync then (1 + r.tail.length, r.tail.length)
    else
      let k := (rneDiv (tsDiff o.name p.name * 2 ^ 31) ((r.step * 256 : Nat) : Int)).toNat
      let n := max 1 (if r.d.perInterval = 2 then 2 * k + b2n second - b2n p.second else k)
      (n, n - 1)

/-- A stream's ring takes an output word. `second` marks the second word of an ENVELOPE pair. -/
def ringStore (g : Nat) (credit : Bool) (base : Nat) (o : DecWord) (second sync : Bool) (r : RingStream) (s : State) : RingStream × State :=
  let st := stepsTo r o second sync
  let pos := match r.words with
    | [] => 0
    | p :: _ => p.pos + st.1
  let pre := if r.words.isEmpty then r.tail.length else 0
  let b := fmtBits r.d.format
  let bitAt := pos % max 1 r.d.cap * b
  let r := enterBits s (base + r.d.off) bitAt b (fmtSample r.d.format o.v o.tags) r
  let r := { r with words := ⟨pos, o.name, o.tags, st.2, o.rst, o.acc, o.v, second, pre⟩ :: r.words, tail := [] }
  let last := base + r.d.off + (bitAt + b - 1) / 8
  flushLines g credit (if last % 64 = 63 ∧ (bitAt + b) % 8 = 0 then none else some (last / 64)) r s

/-- Replace stream `k` of a ring. -/
def putStream (k : Nat) (x : RingStream) (l : List RingStream) : List RingStream := l.map (fun r => if r.k = k then x else r)

/-- The ring after the open polder starts when its first word comes, where a slot for it can be told by then (R177). -/
def nextRingFor (g : Nat) (n : Int) (s : State) : State :=
  match s.openRing g with
  | none => s
  | some r =>
    if tsBefore n r.b ∨ (s.ringsOf g).any (fun x => x.takes n) then s
    else
      match s.slotAfter g r.slot with
      | none => s
      | some k => s.setRings g (s.ringsOf g ++ [newRing g k r.b s])

/-- A word of a fast stream that the sluice discards takes its frame out of the port's availability (19_monitoring_and_test.md R483). -/
def lostFrame (k : Nat) (o : DecWord) (s : State) : State :=
  match s.streams[k]? with
  | none => s
  | some d =>
    if d.src < 16 then s.badFrame d.src (tsWhole (o.name + s.tsAdj d.src o.name) / 1024 * 1024) else s

/-- An output word of stored stream `k` of group `g` enters the ring that its name gives, or is discarded at the closed sluice (R174,
R188); a name of no ring is not stored. -/
def storeWord (credit : Bool) (g k : Nat) (o : DecWord) (second : Bool) (s : State) : State :=
  match (s.ringsOf g).find? (fun r => r.takes o.name && r.strs.any (fun x => x.k == k)) with
  | none => s
  | some r =>
    match r.strs.find? (fun x => x.k == k) with
    | none => s
    | some x =>
      let h := s.dec k
      let owed := if second then 0 else h.rstOwed
      if s.sluiceClosed then
        let s := (s.bump Reg.POL_SLUICE_LOST 1).bump (Reg.POL_G_LOSTCNT g) 1
        let s := lostFrame k o (s.putRing g { r with strs := putStream k { x with tail := o.name :: x.tail } r.strs })
        (s.setDec k { h with gapOwed := true }).setFlag (Reg.POL_G_FLAGS g) F.POL_G_FLAGS_SLUICE_LOST
      else
        let o := { o with rst := decide (owed ≠ 0), tags := if h.gapOwed then orTags o.tags tagGAP else o.tags }
        let s := s.setDec k { h with gapOwed := false, rstOwed := if second then h.rstOwed else 0 }
        let q := ringStore g credit r.base o second (owed == 1) x s
        q.2.putRing g { r with strs := putStream k q.1 r.strs }

/-- The words that open polder `r` holds enter the ring behind it. -/
def storeHeld (credit : Bool) (g : Nat) (r : PolRing) (s : State) : State :=
  r.held.foldl (fun s w => storeWord credit g w.1 w.2.1 w.2.2 s) (s.putRing g { r with held := [] })

/-- An output word of stored stream `k` of group `g` is routed by its name (R175, R177). A word behind an open polder whose next slot
is still SEALED waits with it, since the slot may be released before the logical close. -/
def routeWord (credit : Bool) (g k : Nat) (o : DecWord) (second : Bool) (s : State) : State :=
  let s := nextRingFor g o.name s
  match s.openRing g with
  | none => storeWord credit g k o second s
  | some r =>
    if tsBefore o.name r.b then storeWord credit g k o second s
    else if (s.ringsOf g).any (fun x => x.takes o.name) then storeWord credit g k o second (storeHeld credit g r s)
    else if s.oneShot g ∧ r.slot + 1 ≥ s.nPold g then s
    else s.putRing g { r with held := r.held ++ [(k, o, second)] }

/-- The outputs of one interval, in order. -/
def routeAll (credit : Bool) (g k : Nat) : Bool → List DecWord → State → State
  | _, [], s => s
  | second, o :: t, s => routeAll credit g k true t (routeWord credit g k o second s)

/-! ### Records (R180, R184 to R187) -/

/-- A trigger entry (R185). -/
def trigEntry (t : Trig) : List Byte :=
  leBytes 8 (tsWhole t.ts) ++ leBytes 1 (tsFrac t.ts) ++ leBytes 1 t.unit ++
    leBytes 1 (b2n t.ovr + 2 * b2n t.chain + 4 * b2n t.forced + 8 * b2n t.auto) ++ leBytes 5 0

/-- The words that belong to the record of a stream, oldest first, and FIRST_IDX as a position that is not wrapped (R175). -/
def recordOf (p : PolRing) (e : Int) (r : RingStream) : Nat × List SWord :=
  let l := r.words.reverse.filter (fun w => tsBefore w.name e)
  let lim := p.prim.ts - ((p.preT * 256 : Nat) : Int)
  let first := if p.shortPre then l.head? else l.find? (fun w => !tsBefore w.name lim)
  match first with
  | none => (0, [])
  | some w =>
    let i := w.pos / fmtSamples r.d.format * fmtSamples r.d.format
    (i, l.filter (fun x => decide (i ≤ x.pos)))

/-- Words of the record lost before a word: the positions skipped, and what was discarded before the ring's first word. -/
def lostOf (first : Nat) (w : SWord) : Nat := min w.lost (w.pos - first) + w.pre

/-- The words lost of a stream's record, those discarded behind its last stored word included (R188). -/
def lostIn (e : Int) (r : RingStream) (q : Nat × List SWord) : Nat :=
  q.2.foldl (fun x w => x + lostOf q.1 w) (r.tail.filter (fun n => tsBefore n e)).length

/-- NAME_STEP of a stream in u32.32 (R185). -/
def RingStream.nameStep (r : RingStream) : Nat := 2 * r.step

/-- A stream entry (R185). FIRST_NAME is the name of position FIRST_IDX, counted back by name steps where no word is stored
there. -/
def streamEntry (p : PolRing) (e : Int) (r : RingStream) : List Byte :=
  let q := recordOf p e r
  let seen (t : Nat) : Nat := b2n (q.2.any (fun w => hasTag w.tags t))
  let ovr := (q.2.filter (fun w => hasTag w.tags tagOVR)).length
  let count := match q.2.getLast? with
    | none => 0
    | some w => w.pos - q.1 + 1
  let name : Int := match q.2.head? with
    | none => 0
    | some w => w.name - rneDiv ((((w.pos - q.1) / r.d.perInterval) * r.step * 256 : Nat) : Int) (2 ^ 31 : Nat)
  let acc := match q.2.head? with
    | none => 0
    | some w => if r.rs then w.acc % 2 ^ 63 else 0
  leBytes 1 r.d.src ++ leBytes 1 r.d.format ++ leBytes 1 r.d.mode ++
    leBytes 1 (b2n r.rs + 2 * seen tagOVR + 4 * seen tagGAP + 8 * seen tagSETTLE + 16 * seen tagFLT) ++
    leBytes 1 r.d.log2D ++ leBytes 1 r.d.log2W ++ leBytes 1 (if r.rs then Nat.log2 r.tr else 0) ++ leBytes 1 0 ++
    leBytes 4 r.d.off ++ leBytes 4 r.d.cap ++ leBytes 4 (q.1 % max 1 r.d.cap) ++ leBytes 4 count ++
    leBytes 8 (tsWhole name) ++ leBytes 1 (tsFrac name) ++ leBytes 3 0 ++ leBytes 4 (min ovr (2 ^ 32 - 1)) ++
    leBytes 8 r.nameStep ++ leBytes 8 acc ++ leBytes 4 (lostIn e r q) ++ leBytes 2 r.phase ++ leBytes 2 0

/-- A gap entry before it is sorted: name, and its 16 bytes (R184, R185). -/
def gapEntry (i first : Nat) (w : SWord) : Int × List Byte :=
  (w.name, leBytes 1 i ++ leBytes 1 (b2n w.rst) ++ leBytes 2 (min (lostOf first w) 0xFFFF) ++ leBytes 4 (w.pos - first) ++
    leBytes 8 (unsx 64 w.name))

/-- Enter by name; an equal name goes behind. -/
def insertGap (x : Int × List Byte) : List (Int × List Byte) → List (Int × List Byte)
  | [] => [x]
  | y :: t => if tsBefore x.1 y.1 then x :: y :: t else y :: insertGap x t

/-- The gap entries of a polder in order of name. -/
def gapEntries (p : PolRing) (e : Int) : List (Int × List Byte) :=
  ((List.range p.strs.length).zip p.strs).foldl (fun l ir =>
    let q := recordOf p e ir.2
    (q.2.filter (fun w => decide (0 < lostOf q.1 w) || w.rst)).foldl (fun l w => insertGap (gapEntry ir.1 q.1 w) l) l) []

/-- Header FLAGS [3:0] (R185). -/
def headFlags (p : PolRing) (status ngap : Nat) : Nat :=
  b2n p.shortPre + 2 * b2n p.secOvf + 4 * b2n (decide (ngap > 32)) + 8 * b2n (status != 1)

/-- Lost positions of the polder. -/
def polderLost (p : PolRing) (e : Int) : Nat := p.strs.foldl (fun x r => x + lostIn e r (recordOf p e r)) 0

/-- `l` padded with zeros to `n` bytes. -/
def padTo (n : Nat) (l : List Byte) : List Byte := l ++ List.replicate (n - l.length) 0#8

/-- The record header of a closed polder (R185). -/
def recordHeader (g : Nat) (p : PolRing) (status : Nat) (e : Int) : List Byte :=
  let n := p.strs.length
  let gaps := gapEntries p e
  let o := if p.prim.chain then p.prim.origin else 0
  let h1 := leBytes 4 0x52444C50 ++ leBytes 2 1 ++ leBytes 2 (hdrLen n) ++ leBytes 4 p.gen ++ leBytes 1 g ++ leBytes 1 n ++
    leBytes 1 status ++ leBytes 1 (headFlags p status gaps.length) ++ leBytes 4 p.acq ++ leBytes 4 p.seq ++ leBytes 4 p.slot ++
    leBytes 1 p.devAddr ++ leBytes 1 p.secs.length ++ leBytes 1 (min gaps.length 32) ++ leBytes 1 0 ++
    trigEntry p.prim ++ leBytes 8 (o / 256) ++ leBytes 1 o ++ leBytes 7 0 ++ padTo 64 (p.secs.flatMap trigEntry) ++
    leBytes 8 (tsWhole p.openTs) ++ leBytes 8 (tsWhole e) ++ leBytes 4 p.preT ++ leBytes 4 p.preActual ++ leBytes 8 p.postT ++
    leBytes 4 (polderLost p e) ++ leBytes 4 p.epoch ++ leBytes 1 (tsFrac p.openTs) ++
    leBytes 1 (if status = 1 then tsFrac e else 0)
  let h1 := padTo 0xFC h1
  let h2 := p.strs.flatMap (streamEntry p e) ++ padTo 512 ((gaps.take 32).flatMap (fun x => x.2))
  h1 ++ leBytes 4 (crc32 (h1 ++ leBytes 4 0 ++ h2)) ++ h2

/-- The dike at the polder's opening, and sealed (R187). -/
def dikeOf (g slotLen : Nat) (p : PolRing) (close : Option (Nat × Int)) : List Byte :=
  let st := match close with
    | none => (1, 0, 0, 0, 0, 0, 0)
    | some (c, e) =>
      let any (t : Nat) : Nat := b2n (p.strs.any (fun r => (recordOf p e r).2.any (fun w => hasTag w.tags t)))
      (2, c, headFlags p c (gapEntries p e).length + 16 * any tagGAP + 32 * any tagOVR, p.secs.length,
        if c = 1 then tsFrac e else 0, polderLost p e, tsWhole e)
  let b := leBytes 1 st.1 ++ leBytes 1 st.2.1 ++ leBytes 1 g ++ leBytes 1 st.2.2.1 ++ leBytes 4 p.gen ++ leBytes 4 p.acq ++
    leBytes 4 p.seq ++ leBytes 8 p.base ++ leBytes 8 slotLen ++ leBytes 8 (tsWhole p.prim.ts) ++ leBytes 1 (tsFrac p.prim.ts) ++
    leBytes 1 p.prim.unit ++ leBytes 1 st.2.2.2.1 ++ leBytes 1 st.2.2.2.2.1 ++ leBytes 4 st.2.2.2.2.2.1 ++
    leBytes 8 st.2.2.2.2.2.2 ++ leBytes 4 p.epoch
  b ++ leBytes 4 (if close.isSome then crc32 b else 0)

/-- A dike write (R187). -/
def writeDike (g slot : Nat) (b : List Byte) (s : State) : State := 
  sluice true { addr := s.dikeBase g + 64 * slot, data := b, dike := some g, group := some g } s

/-- The dike of a polder's opening is written where the spillway takes it, else it waits for room (R188). -/
def openDike (g : Nat) (r : PolRing) (s : State) : State :=
  if s.spillRoom 64 then (writeDike g r.slot (dikeOf g (s.slotSize g) r none) s).putRing g { r with dikeOwed := false }
  else s.putRing g { r with dikeOwed := true }

/-- Dikes that wait for room are written once there is some, the oldest first. -/
def oweDikes (s : State) : State :=
  (List.range 16).foldl (fun s g => ((s.ringsOf g).filter (fun r => r.dikeOwed)).foldl (fun s r =>
    if s.spillRoom 64 then openDike g r s else s) s) s

/-- Stored stream `k` takes the item at the head of its queue. -/
def polderWord (k : Nat) (credit : Bool) (s : State) : State :=
  match s.streams[k]?, s.queue (qStream k) with
  | some d, i :: t =>
    if s.ackHeld d.src (i :: t) then s
    else
    let s := s.setQueue (qStream k) t
    let s := if credit then oweDikes (drainSpill s) else s
    match i with
    | .endStream => s.setDec k { s.dec k with win := [], cnt := 0, since := 0 }
    | .word q =>
      let r := decTake k d (q.adjusted d.src s) s
      routeAll credit d.group k false r.1 r.2
  | _, _ => s

/-- POLDER_WORD (R174): the manager takes the next word of stored stream `k`; `credit` tells whether the sluice has credit for
the writes that it causes and for those waiting in the spillway. With no word waiting there is no effect. -/
def execPolderWord (k : Fin 128) (credit : Bool) (s : State) : Host.Outcome State Fault Refusal :=
  .next (polderWord k credit s)

/-- SLUICE_REOPEN (R188): with the sluice closed, the spillway drains as far as the channels take its writes, and the sluice reopens
at the level. With the sluice open there is no effect. -/
def execSluiceReopen (s : State) : Host.Outcome State Fault Refusal :=
  .next (if s.sluiceClosed then oweDikes (sluiceReopen s) else s)

/-! ### Opening (R175, R176, R178, R183) -/

/-- A word stored before its ring's boundary was known is stored again, in the ring that its name gives (R177). -/
def restoreWord (g k : Nat) (w : SWord) (s : State) : State :=
  let s := nextRingFor g w.name s
  match (s.ringsOf g).find? (fun r => r.takes w.name && r.strs.any (fun x => x.k == k)) with
  | none => s
  | some r =>
    match r.strs.find? (fun x => x.k == k) with
    | none => s
    | some x =>
      let q := ringStore g true r.base ⟨w.name, w.v, w.tags, w.acc, w.rst⟩ w.second (w.rst && !hasTag w.tags tagGAP) x s
      q.2.putRing g { r with strs := putStream k q.1 r.strs }

/-- Words of a stream named at or after `b` leave its ring; words of the ring that they had overwritten are entered again. -/
def takeBack (base : Nat) (b : Int) (s : State) (x : RingStream) : RingStream :=
  let late := x.words.filter (fun w => !tsBefore w.name b)
  let keep := x.words.filter (fun w => tsBefore w.name b)
  let hit := keep.filter (fun w => late.any (fun u => u.pos % max 1 x.d.cap == w.pos % max 1 x.d.cap))
  hit.foldl (fun x w => enterBits s (base + x.d.off) (w.pos % max 1 x.d.cap * fmtBits x.d.format) (fmtBits x.d.format)
    (fmtSample x.d.format w.v w.tags) x) { x with words := keep, tail := x.tail.filter (fun n => tsBefore n b) }

/-- A word of stream `k` named `n` that the sluice discarded counts in the ring that its name gives (R188). -/
def noteLost (g k : Nat) (n : Int) (s : State) : State :=
  let s := nextRingFor g n s
  match (s.ringsOf g).find? (fun r => r.takes n && r.strs.any (fun x => x.k == k)) with
  | none => s
  | some r => s.putRing g { r with strs := r.strs.map (fun x => if x.k = k then { x with tail := n :: x.tail } else x) }

/-- The names from `b` on of words discarded right before stored word `w` of a stream, the earliest first. -/
def lostBefore (x : RingStream) (b : Int) (w : SWord) : List Int :=
  ((List.range (w.lost + w.pre)).reverse.map (fun i =>
    w.name - rneDiv (((i / x.d.perInterval + 1) * x.step * 256 : Nat) : Int) (2 ^ 31 : Nat))).filter (fun n => !tsBefore n b)

/-- The stored words of a stream of ring `r` named at or after its boundary, and the words discarded among them, go to the ring
behind it. -/
def moveStream (g : Nat) (b : Int) (s : State) (x : RingStream) : State :=
  let late := x.words.reverse.filter (fun w => !tsBefore w.name b)
  let first := match late with
    | [] => []
    | w :: _ => lostBefore x b w
  let s := first.foldl (fun s n => noteLost g x.k n s) s
  let s := late.foldl (fun s w => restoreWord g x.k w s) s
  (x.tail.reverse.filter (fun n => !tsBefore n b)).foldl (fun s n => noteLost g x.k n s) s

/-- Words stored in ring `r`, or discarded behind its words, before its boundary was known that belong to the ring behind it move there
(R177, R178, R188). -/
def moveLate (g : Nat) (r : PolRing) (s : State) : State :=
  if r.strs.all (fun x => x.words.all (fun w => tsBefore w.name r.b) && x.tail.all (fun n => tsBefore n r.b)) then s
  else r.strs.foldl (moveStream g r.b) (s.putRing g { r with strs := r.strs.map (takeBack r.base r.b s) })

/-- Trigger `t` opens a polder in the slot of the first ring that has not opened. -/
def openPolder (g : Nat) (t : Trig) (s : State) : State :=
  match (s.ringsOf g).find? (fun r => !r.opened) with
  | none => s
  | some r =>
    let pre := s.preT g
    let d := tsDiff t.ts r.openTs
    let short := decide (d < ((pre * 256 : Nat) : Int))
    let gen := s.rn (Reg.CFG_G_GEN g)
    let r := { r with
      opened := true, seq := s.get (Reg.POL_G_SEQ g) F.POL_G_SEQ_SEQ, gen := gen, epoch := s.rn Reg.CKS_EPOCH,
      devAddr := s.chnAddr, prim := t, preT := pre, postT := s.postT g,
      preActual := if short then (d / 256).toNat else pre, shortPre := short, b := t.ts + ((s.postT g * 256 : Nat) : Int) }
    let s := (s.putRing g r).setGst g gFilling
    let s := (s.put (Reg.POL_G_SEQ g) F.POL_G_SEQ_SEQ (r.seq + 1)).wn (Reg.POL_G_GEN g) gen
    let s := s.setFlagIf short (Reg.POL_G_FLAGS g) F.POL_G_FLAGS_SHORT_PRE
    let s := openDike g r s
    match s.openRing g with
    | none => s
    | some r => moveLate g r s

/-- A polder opens with an automatic trigger at instant `t` (R178). -/
def openAuto (g : Nat) (t : Int) (s : State) : State := openPolder g { ts := t, unit := 0xFF, auto := true } s

/-! ### Hand-over of shadowed settings (17 R441 to R443) -/

/-- The VALID entries of a group's list in entry order, as they stood at the start of the present cycle (R442). -/
def State.shadowList (s : State) (g : Nat) : List (Nat × Word) :=
  ((List.range 256).filter (fun e => fldGet F.CFG_SH_ADDR_VALID (s.atStart (Reg.CFG_SH_ADDR g e)) == 1)).map (fun e =>
    (4 * fldGet F.CFG_SH_ADDR_ADDR (s.atStart (Reg.CFG_SH_ADDR g e)), s.atStart (Reg.CFG_SH_DATA g e)))

/-- The registers with the set applied. -/
def applyShadow (l : List (Nat × Word)) (s : State) : State := l.foldl (fun s p => s.applyFields p.1 p.2) s

/-- The checks of R443 on the registers with the set applied. -/
def shadowBad (g : Nat) (l : List (Nat × Word)) (s : State) : Bool :=
  let t := applyShadow l s
  t.postT g == 0 || decide (t.preT g + t.postT g > t.spanOf g) || (t.continuous g && t.preT g != 0) ||
    (List.range 32).any (fun u => decide (t.groupOf (Reg.TRU_STATUS u) = g) &&
      (t.get (Reg.TRU_OUT_STO u) F.TRU_OUT_STO_MASK != 0 && decide (t.latencyOf u > 5242))) ||
    !t.withinCeiling (s.trafficWith g (t.postT g))

/-- A hand-over falls due at the group's next boundary (R441); a write of the present cycle counts from the next one on (R442). -/
def State.handoverDue (s : State) (g : Nat) : Bool :=
  fldGet F.CFG_G_SHADOW_PENDING (s.atStart (Reg.CFG_G_SHADOW g)) == 1 && fldGet F.CFG_G_SHADOW_HOLD (s.atStart (Reg.CFG_G_SHADOW g)) == 0

/-- A PATTERN or SEQUENCE unit evaluates afresh where a hand-over has changed its MEMBERS, INVERT, SEQ or FRAME (R440). -/
def restartUnits (l : List (Nat × Word)) (s : State) : State :=
  (List.range 32).foldl (fun s u =>
    if l.any (fun p => p.1 == Reg.TRU_MEMBERS u || p.1 == Reg.TRU_INVERT u || p.1 == Reg.TRU_SEQ u || p.1 == Reg.TRU_FRAME u) then
      restartPattern u (restartSequence u s)
    else s) s

/-- What stands before boundary `b` keeps the TS_ADJ, FRAME and OFFSET that a hand-over replaces (R440). -/
def keepCuts (b : Int) (l : List (Nat × Word)) (s : State) : State :=
  let named (a : Nat) : Bool := l.any (fun p => p.1 == a)
  let s := (List.range 16).foldl (fun s n =>
    if named (Reg.FCH_TS_ADJ n) then
      s.setFch n { s.fch n with adjOld := sext 32 (s.rn (Reg.FCH_TS_ADJ n)), adjFrom := some b }
    else s) s
  let s := (List.range 32).foldl (fun s u =>
    if named (Reg.TRU_FRAME u) then s.setTru u { s.tru u with frameCut := some (b, s.rd (Reg.TRU_FRAME u)) } else s) s
  (List.range 16).foldl (fun s n =>
    if named (Reg.WAC_OFFSET n) then s.setWac n { s.wac n with offCut := some (b, s.rd (Reg.WAC_OFFSET n)) } else s) s

/-- A stream of the next polder with every name moved by `d`. -/
def RingStream.shift (x : RingStream) (d : Int) : RingStream :=
  { x with words := x.words.map (fun w => { w with name := w.name + d }), tail := x.tail.map (fun n => n + d) }

/-- Words named at or after the boundary that the manager took before the hand-over, under the replaced TS_ADJ, take the new one: those
held, in the ring behind the boundary, and in the decimators (R440, R443). -/
def renameLate (g : Nat) (b : Int) (l : List (Nat × Word)) (s : State) : State :=
  (s.groupStreams g).foldl (fun s p =>
    let n := s.portOf p.2.src
    let old := (s.fch n).adjOld
    let d := old - sext 32 (s.rn (Reg.FCH_TS_ADJ n))
    if l.all (fun q => q.1 != Reg.FCH_TS_ADJ n) || d == 0 then s
    else
      let s := s.setDec p.1 { s.dec p.1 with
        win := (s.dec p.1).win.map (fun w => if tsBefore (w.name + old) b then w else { w with name := w.name + d }) }
      s.setRings g ((s.ringsOf g).map (fun r =>
        let r := { r with held := r.held.map (fun w => if w.1 = p.1 then (w.1, { w.2.1 with name := w.2.1.name + d }, w.2.2) else w) }
        if tsBefore r.openTs b then r
        else { r with strs := r.strs.map (fun x => if x.k = p.1 then x.shift d else x) }))) s

/-- The entries of a list that no write of this cycle has touched are emptied; what such writes left belongs to the next hand-over
(R442). -/
def emptyShadow (g : Nat) (s : State) : State :=
  let s := (List.range 256).foldl (fun s e =>
    if s.cycNow.was.all (fun p => p.1 != Reg.CFG_SH_ADDR g e) && s.on (Reg.CFG_SH_ADDR g e) F.CFG_SH_ADDR_VALID then
      s.put (Reg.CFG_SH_ADDR g e) F.CFG_SH_ADDR_VALID 0
    else s) s
  let k := (List.range 256).countP (fun e => s.on (Reg.CFG_SH_ADDR g e) F.CFG_SH_ADDR_VALID)
  (s.put (Reg.CFG_G_SHADOW g) F.CFG_G_SHADOW_PENDING (b2n (k != 0))).put (Reg.CFG_G_SHADOW g) F.CFG_G_SHADOW_COUNT k

/-- The hand-over of a group at boundary `b` is carried out at the present tick (R442, R443). -/
def handOver (g : Nat) (b : Int) (s : State) : State :=
  let s := { s with cfg := { s.cfg with handAt := some s.rt } }
  let l := s.shadowList g
  if shadowBad g l s then
    (s.put (Reg.CFG_G_SHADOW g) F.CFG_G_SHADOW_HOLD 1).setFlag Reg.CFG_FLAGS F.CFG_FLAGS_SHADOW_REJECT
  else
    let s := renameLate g b l (refreshLatency (List.range 32) (applyShadow l (keepCuts b l s)))
    let s := emptyShadow g (restartUnits l s)
    let gen := s.rn Reg.CFG_GEN + 1
    let s := (s.wn Reg.CFG_GEN gen).wn (Reg.CFG_G_GEN g) gen
    (s.wr64 (Reg.CFG_G_HOTS_LO g) s.tick).setFlag Reg.CFG_FLAGS F.CFG_FLAGS_HANDOVER

/-- The alignment latency Λ of a group in ticks (06 R162). -/
def State.alignLatency (s : State) (g : Nat) : Nat :=
  ((List.range 32).filter (fun u => decide (s.groupOf (Reg.TRU_STATUS u) = g) && s.on (Reg.TRU_CTL u) F.TRU_CTL_GROUP_EN)).foldl
    (fun x u => max x (s.rn (Reg.TRU_LATENCY u))) 0

/-- The open polder's logical close is due: the present tick has reached *B* + Λ. -/
def State.closeDue (s : State) (g : Nat) (r : PolRing) : Bool :=
  !tsBefore (s.now256 : Nat) (r.b + ((s.alignLatency g * 256 : Nat) : Int))

/-- A hand-over is due for a group whose boundary is the next fabric cycle (R441). -/
def State.handNow (s : State) (g : Nat) : Bool :=
  s.handoverDue g && s.gst g != gFilling && s.gst g != gHalting && s.gst g != gUnused

/-- A hand-over is due for a group whose boundary is the close that is due of its polder (R441). -/
def State.handClose (s : State) (g : Nat) : Bool :=
  s.handoverDue g && s.gst g == gFilling && match s.openRing g with
    | none => false
    | some r => s.closeDue g r

/-- The shadow unit does not take group `g` in the present cycle: it has taken one, or a lower one is due (R442). -/
def State.handBusy (s : State) (g : Nat) : Bool :=
  s.cfg.handAt == some s.rt || (List.range g).any (fun k => s.handNow k || s.handClose k)

/-- A hand-over outside FILLING and HALTING: in ARMING and ARMED the slot's ring restarts (R441), unless the set is rejected and
nothing is applied (R443). -/
def handOverNow (g : Nat) (s : State) : State :=
  if s.handNow g = false ∨ s.handBusy g then s
  else
    let applied := !shadowBad g (s.shadowList g) s
    let s := handOver g (s.now256 : Nat) s
    if applied && (s.gst g == gArming || s.gst g == gArmed) then
      let s := dropUnopened g s
      s.setRings g (s.ringsOf g ++ [newRing g (s.nextSlot g) (s.now256 : Nat) s])
    else s

/-- HANDOVER (17 R442): a hand-over that is due for group `g` and whose boundary is the next fabric cycle; those at a logical
close happen with it (POLDER_CLOSE). Otherwise there is no effect. -/
def execHandover (g : Fin 16) (s : State) : Host.Outcome State Fault Refusal := .next (handOverNow g s)

/-! ### Closing (R177 to R181) -/

/-- DRAINING reads 1 from a logical close to the seal (R181). -/
def showDraining (g : Nat) (s : State) : State :=
  s.put (Reg.POL_G_STATUS g) F.POL_G_STATUS_DRAINING (b2n ((s.ringsOf g).any (fun r => r.close.isSome)))

/-- The group leaves ARMING, ARMED, FILLING and HALTING (08 R211; R194). -/
def leaveRunning (g x : Nat) (s : State) : State := pcvGroupEnd g (s.setGst g x)

/-- The logical close of the open polder `r` at its boundary (R177 to R179). -/
def closeAtB (g : Nat) (r : PolRing) (s : State) : State :=
  let s := showDraining g (s.putRing g { r with close := some (1, r.b) })
  let next := s.slotAfter g r.slot
  let busy := next.isNone && !(s.oneShot g && decide (r.slot + 1 ≥ s.nPold g))
  let s := s.setFlagIf busy (Reg.POL_G_FLAGS g) F.POL_G_FLAGS_SLOT_BUSY
  let s := s.put (Reg.POL_G_NEXT_SLOT g) F.POL_G_NEXT_SLOT_SLOT ((r.slot + 1) % s.nPold g)
  let s := if s.handoverDue g then handOver g r.b s else s
  match next with
  | none => (dropUnopened g s).setGst g gHalting
  | some k =>
    let s := if (s.ringsOf g).any (fun x => !x.opened) then s
      else
        let s := s.setRings g (s.ringsOf g ++ [newRing g k r.b s])
        match (s.ringsOf g).find? (fun x => x.same r) with
        | none => s
        | some r => storeHeld true g r s
    if s.continuous g then openAuto g r.b s else s.setGst g gArmed

/-- POLDER_CLOSE (R177): the open polder of group `g` closes once its boundary plus Λ has come. Where the close is the boundary of a
hand-over and the shadow unit takes another group in this cycle, the close waits for the next one (DEDUCED, log 136). -/
def polderClose (g : Nat) (s : State) : State :=
  if s.gst g ≠ gFilling then s
  else
    match s.openRing g with
    | none => s
    | some r => if s.closeDue g r ∧ (s.handoverDue g && s.handBusy g) = false then closeAtB g r s else s

/-- POLDER_CLOSE (R177). -/
def execPolderClose (g : Fin 16) (s : State) : Host.Outcome State Fault Refusal := .next (polderClose g s)

/-- The open polder, if there is one, is truncated at instant `e`, or at its boundary if that comes first; rings that have not
opened are abandoned (R180). The next polder goes into the slot behind it (R179). -/
def truncate (g status : Nat) (e : Int) (s : State) : State :=
  let s := match s.openRing g with
    | none => s
    | some r => (s.putRing g { r with close := some (status, if tsBefore r.b e then r.b else e) }).put (Reg.POL_G_NEXT_SLOT g)
        F.POL_G_NEXT_SLOT_SLOT ((r.slot + 1) % s.nPold g)
  showDraining g (dropUnopened g s)

/-- A running group goes to FAULT; its open polder closes with `status`, keeping names below `e` (R36, R180). In any state its
accumulators abandon their captures (R194). -/
def faultGroup (g status : Nat) (e : Int) (s : State) : State :=
  let s := wacAbandonGroup g s
  if s.gRunning g then leaveRunning g gFault (truncate g status e s) else s

/-! ### Sealing (R181, R184) -/

/-- A raw port has handed over every word named before `e`: it runs no more, a later frame is the next, or the counter is frozen and
every frame up to it is handed over (10_clock_synthesis.md R265). -/
def State.portDone (s : State) (q : Nat) (e : Int) : Bool :=
  s.fchState q != 2 || !tsBefore (((s.fch q).nextFrame * 256 : Nat) : Int) e ||
    (s.on Reg.CKS_STATUS F.CKS_STATUS_FROZEN && !tickBefore (s.fch q).nextFrame s.tick)

/-- Every word of a source named below `e` has left the source. -/
def State.sourceDone (s : State) (src : Nat) (e : Int) : Bool :=
  if src < 16 then s.portDone src e
  else
    let n := (src - 16) % 32
    decide (s.dcfState n < 2) ||
      ((s.queue (qDcf n)).isEmpty && s.portDone (s.get (Reg.DCF_CTL n) F.DCF_CTL_SRC) (e + (s.rn (Reg.DCF_GDELAY n) : Int) + 256))

/-- Every word of stored stream `x` named below `e` has reached the manager. -/
def State.streamDone (s : State) (x : RingStream) (e : Int) : Bool :=
  let span : Int := ((2 ^ max x.d.log2D x.d.log2W * x.step / 2 ^ x.d.log2D * 256 / 2 ^ 31 + 256 : Nat) : Int)
  (match (s.dec x.k).lastOut with
    | some n => !tsBefore n e
    | none => false) ||
  let raw := e + span + max (s.fch (s.portOf x.d.src)).adjOld (s.tsAdj x.d.src (e + span))
  (s.sourceDone x.d.src raw && (wordsOf (s.queue (qStream x.k))).all (fun q => !tsBefore q.name raw))

/-- The tail of the last packing group is written as 0 (R174). -/
def zeroTail (base : Nat) (e : Int) (x : RingStream) (s : State) : RingStream :=
  match (x.words.filter (fun w => tsBefore w.name e)).head? with
  | none => x
  | some w =>
    let m := fmtSamples x.d.format
    (List.range (m - 1 - w.pos % m)).foldl (fun x i =>
      let b := fmtBits x.d.format
      enterBits s (base + x.d.off) ((w.pos + 1 + i) % max 1 x.d.cap * b) b 0 x) x

/-- The interval of a stored word contains an instant (R184). -/
def holdsInstant (x : RingStream) (w : SWord) (t : Int) : Bool :=
  decide (0 ≤ tsDiff t w.name) && decide (tsDiff t w.name * 2 ^ 31 < ((x.step * 256 : Nat) : Int))

/-- SOP and TRG are marked in the stored words of a T24 stream (R184). -/
def markTags (p : PolRing) (e : Int) (x : RingStream) (s : State) : RingStream :=
  if x.d.format ≠ 2 then x
  else
    let q := recordOf p e x
    let sop := match q.2.head? with
      | none => x.d.cap
      | some w => w.pos
    q.2.foldl (fun x w =>
      let t := (if w.pos = sop then tagSOP else 0) +
        (if (p.prim :: p.secs).any (fun t => holdsInstant x w t.ts) then tagTRG else 0)
      if t = 0 then x
      else
        let a := p.base + x.d.off + w.pos % max 1 x.d.cap * 3
        enterBits s (p.base + x.d.off) (w.pos % max 1 x.d.cap * 24) 8 (Nat.lor (x.peekAt s a).toNat t) x) x

/-- Data and header of a closed polder are issued to memory. -/
def writeRecord (g : Nat) (p : PolRing) (status : Nat) (e : Int) (s : State) : State :=
  let s := p.strs.foldl (fun s x =>
    (flushLines g true none (markTags p e (zeroTail p.base e x s) s) s).2) s
  let gaps := (gapEntries p e).length
  let s := s.setFlagIf (decide (gaps > 32)) (Reg.POL_G_FLAGS g) F.POL_G_FLAGS_GAPTAB_OVF
  let h := recordHeader g p status e
  let s := sluiceAll g true ((List.range (h.length / 64)).map (fun i => { addr := p.base + 64 * i, data := (h.drop (64 * i)).take 64 })) s
  s.putRing g { p with written := true, strs := p.strs.map (fun x => { x with buf := [] }) }

/-- Bytes that the record of a closed polder has still to write: its buffered lines and its header (R174, R185). -/
def recordBytes (p : PolRing) : Nat :=
  hdrLen p.strs.length + p.strs.foldl (fun x r => x + r.buf.length + 128 + 64 * r.words.length) 0

/-- The sealing dike of a written polder is issued. -/
def sealRing (g : Nat) (p : PolRing) (close : Nat × Int) (s : State) : State :=
  (writeDike g p.slot (dikeOf g (s.slotSize g) p (some close)) s).putRing g { p with sealing := true, dikeOwed := false }

/-- A polder whose sealing dike has reached memory is SEALED. -/
def sealDone (g : Nat) (p : PolRing) (s : State) : State :=
  let s := s.setRings g ((s.ringsOf g).filter (fun r => !r.same p))
  (showDraining g s).setFlag (Reg.POL_G_FLAGS g) F.POL_G_FLAGS_SEALED

/-- The spillway holds a write to the slot or the dike of a polder. -/
def State.spillHolds (s : State) (g : Nat) (p : PolRing) : Bool :=
  s.mem.spill.any (fun w => overlaps (w.addr, w.data.length) (p.base, s.slotSize g) ||
    overlaps (w.addr, w.data.length) (s.dikeBase g + 64 * p.slot, 64))

/-- The first closed polder goes on towards its seal: once its words have all arrived, its data and header are issued; once those
have reached memory, its SEALED dike; once that has, it is sealed (R181). -/
def sealFirst (g : Nat) (s : State) : State :=
  match (s.ringsOf g).find? (fun r => r.close.isSome) with
  | none => s
  | some p =>
    match p.close with
    | none => s
    | some c =>
      if p.written = false ∧ (p.strs.any (fun x => !s.streamDone x c.2) || !s.spillRoom (recordBytes p)) then s
      else
        let s := if p.written then s else writeRecord g p c.1 c.2 s
        let s := drainSpill s
        if s.spillHolds g p then s
        else
          if p.sealing = false ∧ s.spillRoom 64 = false then s
          else
            let s := if p.sealing then s else drainSpill (sealRing g p c s)
            if s.spillHolds g p then s else sealDone g p s

/-- Every write of the group has reached memory. -/
def State.groupWritten (s : State) (g : Nat) : Bool :=
  s.mem.spill.all (fun w => !(s.groupAreas g).any (overlaps (w.addr, w.data.length)))

/-- The last seal takes a HALTING group to HALTED, with every write of the group in memory (R36, R181). -/
def haltDone (g : Nat) (s : State) : State :=
  if s.gst g = gHalting ∧ (s.ringsOf g).all (fun r => r.close.isNone) ∧ s.groupWritten g then leaveRunning g gHalted s else s

/-- POLDER_SEAL (R181). -/
def execPolderSeal (g : Fin 16) (s : State) : Host.Outcome State Fault Refusal := .next (haltDone g (sealFirst g (oweDikes (drainSpill s))))

/-! ### Release and register writes (R182, R196) -/

/-- A slot is released: its SEALED dike becomes EMPTY with a new DCRC, other bytes unchanged (R182). -/
def releaseSlot (g k : Nat) (s : State) : State :=
  if k ≥ s.nPold g ∨ s.dikeState g k ≠ 2 then s
  else
    let a := s.dikeBase g + 64 * k
    let b := 0#8 :: ((List.range 59).map (fun i => s.peek (a + 1 + i)))
    let bad := (s.chansOf a 64).any (fun m => s.phase m == phFault)
    let s := memWrite a (b ++ leBytes 4 (crc32 b)) s
    (s.setFlagIf bad Reg.POL_FLAGS F.POL_FLAGS_DIKE_FAIL).setFlagIf bad (Reg.POL_G_FLAGS g) F.POL_G_FLAGS_DIKE_FAIL

/-- SLOT_RELEASE (R182): a write of POL_G*g*_RELEASE. -/
def execSlotRelease (g : Fin 16) (v : Word) (s : State) : Host.Outcome State Fault Refusal :=
  .next (s.hostReg (Reg.POL_G_RELEASE g) (releaseSlot g (fldGet F.POL_G_RELEASE_SLOT v) s))

/-- The sluice and group lost counts, and the high-water mark, are cleared (R196). -/
def polCntClr (s : State) : State :=
  (s.zero [Reg.POL_SPILL_HWM]).clearCounts (Reg.POL_SLUICE_LOST :: (List.range 16).map Reg.POL_G_LOSTCNT)

/-- POL_CNTCLR (R196). -/
def execPolCntclr (s : State) : Host.Outcome State Fault Refusal :=
  .next (s.hostReg Reg.POL_CNTCLR (polCntClr s))

/-- The checks of a write of a group's POL registers (R178, R179, R196). -/
def polGroupCheck (g a : Nat) (v : Word) (s : State) : WStat :=
  let run := (s.gRunning g, WStat.gated)
  if a = Reg.POL_G_CTL g then
    firstOf [(decide (fldGet F.POL_G_CTL_DEPTH v ≥ 2), .valueRefused),
      (fldGet F.POL_G_CTL_OPEN v == 1 && s.preT g != 0, .valueRefused), run]
  else if a = Reg.POL_G_PRE_T g then firstOf [(s.continuous g && v.toNat != 0, .valueRefused), run]
  else if a = Reg.POL_G_POST_T_LO g ∨ a = Reg.POL_G_POST_T_HI g then
    firstOf [((s.applyFields a v).postT g == 0, .valueRefused), run]
  else if a = Reg.POL_G_NPOLD g ∨ a = Reg.POL_G_DIKE_BASE_LO g ∨ a = Reg.POL_G_DIKE_BASE_HI g ∨ a = Reg.POL_G_DATA_BASE_LO g ∨
      a = Reg.POL_G_DATA_BASE_HI g then firstOf [run]
  else .ok

/-- A write of a register of the POL block. -/
def writePol (a : Nat) (v : Word) (s : State) : WStat × State :=
  if a = Reg.POL_SPILL_RESUME then
    s.writeIf a (firstOf [(decide (fldGet F.POL_SPILL_RESUME_KIB v > 65535), .valueRefused)]) (fun s => s.applyFields a v)
  else if a = Reg.POL_CNTCLR then s.writeIf a .ok (fun s => if v.toNat % 2 = 1 then polCntClr s else s)
  else if a < Reg.POL_G_CTL 0 ∨ Reg.POL_G_CTL 16 ≤ a then s.writeIf a .ok (fun s => s.applyFields a v)
  else
    let g := (a - Reg.POL_G_CTL 0) / 0x80
    if a = Reg.POL_G_RELEASE g then s.writeIf a .ok (releaseSlot g (fldGet F.POL_G_RELEASE_SLOT v))
    else s.writeIf a (polGroupCheck g a v s) (fun s => s.applyFields a v)

end Sys2Proof.Machine
end

