-- ==== Sys2Proof/Machine/Groups.lean ====
section
/-! DEFINITION. Acquisition groups: triggers taken, arm, halt, stop, arming complete (01_architecture.md R35 to R37;
06_triggers.md R162; 07_polders_and_accumulation.md R172, R180, R195; 15_host_link.md R394, R395, R398). -/
namespace Sys2Proof.Machine

/-- A trigger is not accepted (06 R162). -/
def notAccepted (t : Trig) (sec : Bool) (s : State) : State :=
  let s := s.bump (Reg.TRU_NACCCNT t.unit) 1
  if sec then s.setFlag (Reg.TRU_FLAGS t.unit) F.TRU_FLAGS_SEC_OVF else s.setFlag (Reg.TRU_FLAGS t.unit) F.TRU_FLAGS_NOT_ACCEPTED

/-- A trigger meets the group's state (06 R162). -/
def judgeTrigger (g : Nat) (t : Trig) (s : State) : State :=
  if s.gst g = gArmed then wacTaken g false t.ts (openPolder g t s)
  else if s.gst g = gFilling then
    match s.openRing g with
    | none => notAccepted t false s
    | some r =>
      if r.secs.length < 4 then wacTaken g true t.ts (s.putRing g { r with secs := r.secs ++ [t] })
      else notAccepted t true (s.putRing g { r with secOvf := true })
  else notAccepted t false s

/-- The open polder closes before the group takes a trigger timestamped `ts`: its boundary is not behind that (07 R177). -/
def State.closesFirst (s : State) (g : Nat) (ts : Int) : Bool :=
  s.gst g == gFilling && match s.openRing g with
    | none => false
    | some r => !tsBefore ts r.b

/-- TRIGGER_TAKEN (06 R162): the group takes its earliest delivered trigger once the present tick has reached timestamp + Λ. A
polder whose boundary the timestamp has passed closes first (07 R177); where that close waits for the shadow unit, so does the trigger
(DEDUCED, log 136). -/
def triggerTaken (g : Nat) (s : State) : State :=
  match s.trigs g with
  | [] => s
  | t :: rest =>
    if tsBefore (s.now256 : Nat) (t.ts + ((s.alignLatency g * 256 : Nat) : Int)) then s
    else if s.closesFirst g t.ts ∧ (s.handoverDue g && s.handBusy g) then s
    else
      let s := s.setTrigs g rest
      let s := match s.openRing g with
        | none => s
        | some r => if s.closesFirst g t.ts then closeAtB g r s else s
      judgeTrigger g t s

/-- TRIGGER_TAKEN (06 R162). -/
def execTriggerTaken (g : Fin 16) (s : State) : Host.Outcome State Fault Refusal := .next (triggerTaken g s)

/-- Members of a group: the units of a kind whose status register names it. -/
def State.members (s : State) (g cnt : Nat) (status : Nat → Nat) : List Nat :=
  (List.range cnt).filter (fun n => decide (s.groupOf (status n) = g))

/-- An enabled member port holds its pre-trigger length at the present tick (R36). -/
def State.portHolds (s : State) (g n : Nat) : Bool :=
  !s.on (Reg.FCH_CTL n) F.FCH_CTL_ENABLE ||
    (s.fchState n == 2 && decide ((s.preT g : Int) ≤ tickDiff s.tick (s.rd64 (Reg.FCH_START_TS_LO n))))

/-- An enabled member chain has delivered the settling count of the arm's reset (R36; 05 R135). -/
def State.chainHolds (s : State) (n : Nat) : Bool :=
  !s.on (Reg.DCF_CTL n) F.DCF_CTL_ENABLE || (s.dcfState n == 3 && !(s.dcf n).armed)

/-- ARMING → ARMED may take place now (R36; 07 R176). -/
def State.armReady (s : State) (g : Nat) : Bool :=
  (match (s.ringsOf g).getLast? with
    | none => false
    | some r => !r.opened && !tsBefore (s.now256 : Nat) (r.openTs + ((s.preT g * 256 : Nat) : Int))) &&
  (s.members g 16 Reg.FCH_STATUS).all (s.portHolds g) && (s.members g 32 Reg.DCF_STATUS).all s.chainHolds

/-- ARMING_COMPLETE (R36): the group moves to ARMED; in CONTINUOUS mode a polder opens at once (07 R178). -/
def armingComplete (g : Nat) (s : State) : State :=
  if s.gst g ≠ gArming ∨ s.armReady g = false then s
  else
    let s := s.setGst g gArmed
    if s.continuous g then openAuto g (s.now256 : Nat) s else s

/-- ARMING_COMPLETE (R36). -/
def execArmingComplete (g : Fin 16) (s : State) : Host.Outcome State Fault Refusal := .next (armingComplete g s)

/-- The power domains of a group's members (18 R455). -/
def State.memberDomains (s : State) (g : Nat) : List Nat :=
  (s.members g 16 Reg.FCH_STATUS).map (fun n => n / 4) ++
  (s.members g 32 Reg.DCF_STATUS ++ s.members g 32 Reg.TRU_STATUS ++ s.members g 16 Reg.WAC_STATUS).map (fun _ => domFab) ++
  (s.members g 24 Reg.PCV_STATUS).map (fun _ => domPrec) ++ (s.members g 16 Reg.STO_STATUS).map (fun _ => domStim)

/-- Channel `m` holds a byte of the group's memory areas (11 R300). -/
def State.holdsByte (s : State) (g m : Nat) : Bool := (s.memAreas g).any (fun a => (s.chansOf a.1 a.2).contains m)

/-- A channel fault or a member's domain that is down keeps a FAULT group from being armed (15 R398). -/
def State.faultActive (s : State) (g : Nat) : Bool :=
  (List.range 8).any (fun m => s.phase m == phFault && s.holdsByte g m) || (s.memberDomains g).any (fun d => !s.domOn d)

/-- The arm checks of 07 R172 and R195: areas outside memory or overlapping, a SEALED first slot, a span too long. -/
def State.areaBad (s : State) (g : Nat) : Bool :=
  let own := s.groupAreas g
  let others := ((List.range 16).filter (fun k => k != g)).flatMap s.groupAreas
  let slot := if s.oneShot g then 0 else s.nextSlot g % s.nPold g
  own.any (fun a => decide (a.1 + a.2 > s.capacity)) || own.any (fun a => others.any (overlaps a)) ||
    (s.protect g && s.dikeState g slot == 2) || decide (s.preT g + s.postT g > s.spanOf g) ||
    (s.members g 16 Reg.WAC_STATUS).any s.wacAreasBad

/-- The status codes of 15 R384 for commands. -/
def stOk : Nat := 0x00
def stStateRefused : Nat := 0x01
def stNotReady : Nat := 0x07
def stNotLocked : Nat := 0x14
def stAreaRefused : Nat := 0x15
def stFaultActive : Nat := 0x16

/-- The status with which ARM of group `g` is refused; OK where it is not (15 R398). -/
def armStatus (s : State) (g : Nat) : Nat :=
  let x := s.gst g
  if s.dev ≠ devConfigured ∨ (x ≠ gStopped ∧ x ≠ gHalted ∧ x ≠ gFault) then stStateRefused
  else if x = gFault ∧ s.faultActive g then stFaultActive
  else if s.on Reg.CKS_STATUS F.CKS_STATUS_LOCKED = false then stNotLocked
  else if s.memReady = false then stNotReady
  else if s.areaBad g then stAreaRefused
  else stOk

/-- HALT of group `g`. -/
def haltStatus (s : State) (g : Nat) : Nat :=
  if s.dev = devConfigured ∧ (s.gst g = gArmed ∨ s.gst g = gFilling) then stOk else stStateRefused

/-- STOP of group `g`. -/
def stopStatus (s : State) (g : Nat) : Nat :=
  if s.dev = devConfigured ∧ s.gst g ≠ gUnused then stOk else stStateRefused

/-- The chains of a group reset at the next word they take (05 R132). -/
def armChains (g : Nat) (s : State) : State :=
  (s.members g 32 Reg.DCF_STATUS).foldl (fun s n => if s.dcfState n = 0 then s else s.setDcf n { s.dcf n with armed := true }) s

/-- The group enters ARMING at the present tick (R36; 07 R175, R179, R194). -/
def armGroup (s : State) (g : Nat) : State :=
  let s := s.wn (Reg.POL_G_ACQ g) (s.rn (Reg.POL_G_ACQ g) + 1)
  let s := s.put (Reg.POL_G_SEQ g) F.POL_G_SEQ_SEQ 0
  let s := s.put (Reg.POL_G_NEXT_SLOT g) F.POL_G_NEXT_SLOT_SLOT (if s.oneShot g then 0 else s.nextSlot g % s.nPold g)
  let s := wacArm g (armChains g (s.setGst g gArming))
  s.setRings g (s.ringsOf g ++ [newRing g (s.nextSlot g) (s.now256 : Nat) s]) |> pcvGroupArm g

/-- HALT accepted at the present tick (R36; 07 R180, R181). -/
def haltGroup (s : State) (g : Nat) : State := (truncate g 2 (s.now256 : Nat) s).setGst g gHalting

/-- STOP accepted at the present tick (R36; 07 R180, R194). -/
def stopGroup (s : State) (g : Nat) : State :=
  if s.gst g = gStopped then s
  else
    let s := wacAbandonGroup g s
    if s.gRunning g then leaveRunning g gStopped (truncate g 3 (s.now256 : Nat) s) else s.setGst g gStopped

/-- The groups named in a mask. -/
def groupsIn (mask : Nat) : List Nat := (List.range 16).filter (bitOf mask)

/-- The triggers that group `g` has due are taken; `fuel` bounds them. -/
def takeDue (g : Nat) : Nat → State → State
  | 0, s => s
  | f + 1, s => takeDue g f (triggerTaken g s)

/-- The hardware events of group `g` that are due in the present cycle: triggers, the close of its polder, the end of ARMING. -/
def hardwareFirst (s : State) (g : Nat) : State := armingComplete g (polderClose g (takeDue g (s.trigs g).length s))

/-- A group command over the groups of a mask, to all or to none (15 R395): the refusing group and status, or the state. Hardware
events of the same cycle take effect first, and the command meets the state after them (R37). -/
def groupCommand (status : State → Nat → Nat) (act : State → Nat → State) (mask : Nat) (s : State) : Option (Nat × Nat) × State :=
  let s := (groupsIn mask).foldl hardwareFirst s
  match (groupsIn mask).find? (fun g => status s g != stOk) with
  | some g => (some (g, status s g), s)
  | none => (none, (groupsIn mask).foldl act s)

/-! ### Accumulators that meet a channel fault (07 R195) -/

/-- A result or work write of unit `n` has met a channel fault: its group goes to FAULT, and sums in DRAM are undefined. -/
def wacSettle (n : Nat) (s : State) : State :=
  let h := s.wac n
  if h.hurt = false then s
  else
    let s := s.setWac n { h with hurt := false, gone := h.gone || s.wacDram n }
    let g := s.groupOf (Reg.WAC_STATUS n)
    if g < 16 then faultGroup g 5 (s.now256 : Nat) s else s

/-- WAC_CAPTURE_END (07 R190): the capture of unit `n` has its words; with none running, or words still to come, no effect. -/
def execWacCaptureEnd (n : Fin 16) (s : State) : Host.Outcome State Fault Refusal :=
  .next (wacSettle n (wacForget n (captureEnd n s)))

/-- WAC_MERGE_END (07 R190): the waiting capture is merged; with none waiting there is no effect. -/
def execWacMergeEnd (n : Fin 16) (s : State) : Host.Outcome State Fault Refusal := .next (wacSettle n (mergeEnd n s))

/-- A write of a register of WAC[n] (07 R197). -/
def writeWac (n a : Nat) (v : Word) (s : State) : WStat × State :=
  let r := writeWacReg n a v s
  (r.1, wacSettle n r.2)

/-- WAC_FLUSH (07 R193). -/
def execWacFlush (n : Fin 16) (s : State) : Host.Outcome State Fault Refusal :=
  .next (s.hostReg (Reg.WAC_CMD n) (wacSettle n (wacFlush n s).2))

end Sys2Proof.Machine
end

