-- ==== Sys2Proof/Machine/Ports.lean ====
section
/-! DEFINITION. Timing-port commands and registers (09_stimulus_and_timing_ports.md R230, R244 to R253). -/
namespace Sys2Proof.Machine

/-- A stamped input edge reaches trigger units and converters (R245). -/
def spreadEdge (e : EdgeOut) (s : State) : State :=
  let s := truEdge e true s
  if e.rise then pcvEdge e.port e.ts s else s

/-- An edge at the ball of port `p`, `back` ticks before the present tick. -/
def tpEdge (p back : Nat) (rise : Bool) (s : State) : State :=
  match inputEdge p ((s.tick + 2 ^ 64 - back) % 2 ^ 64) rise s with
  | (none, s) => s
  | (some e, s) => spreadEdge e s

/-- TP_EDGE (R245): an edge at the ball, rising or falling there, `back` ticks before the present tick. -/
def execTpEdge (p : Fin 16) (back : Fin 128) (rise : Bool) (s : State) : Host.Outcome State Fault Refusal :=
  .next (tpEdge p back rise s)

/-- FIFO_INFO_READ (R250). -/
def execFifoInfoRead (p : Fin 16) (s : State) : Host.Outcome State Fault Refusal := .next (fifoPop p s)

/-- Command FIRE (R230, R246, R247). -/
def tptFire (p : Nat) (s : State) : State := fireTrain p (placeOf (s.now256 : Nat)) s

/-- FIRE (R230). -/
def execFire (p : Fin 16) (s : State) : Host.Outcome State Fault Refusal := .next (tptFire p s)

/-- The least distance from acceptance to an AT instant (R230). -/
def atTicks : Nat := 6718

/-- Command FIRE_AT (R230). -/
def tptFireAt (p : Nat) (s : State) : State :=
  let t := s.rd64 (Reg.TPT_AT_TS_LO p)
  if s.tptMode p ≠ 2 then s
  else if tickDiff t s.tick < (atTicks : Int) then (tptFire p s).setFlag (Reg.TPT_FLAGS p) F.TPT_FLAGS_LATE
  else fireTrain p t s

/-- FIRE_AT (R230). -/
def execFireAt (p : Fin 16) (s : State) : Host.Outcome State Fault Refusal := .next (tptFireAt p s)

/-- TPT_STOP (R247). -/
def execTptStop (p : Fin 16) (s : State) : Host.Outcome State Fault Refusal := .next (stopTrains p s)

/-- The next edge of a train is placed; a frame edge reaches CAMERA_FRAME units (R246, R249). -/
def trainStep (p : Nat) (s : State) : State :=
  match trainEdge p s with
  | (none, s) => s
  | (some e, s) => truEdge e false s

/-- TRAIN_EDGE (R246): the next edge of the port's train, if its instant has come. -/
def execTrainEdge (p : Fin 16) (s : State) : Host.Outcome State Fault Refusal := .next (trainStep p s)

/-- Clear the four counts (R253). -/
def tptCntClr (p : Nat) (s : State) : State :=
  s.clearCounts [Reg.TPT_EDGECNT p, Reg.TPT_LOSTCNT p, Reg.TPT_LATECNT p, Reg.TPT_DROPCNT p]

/-- TPT_CNTCLR (R253). -/
def execTptCntclr (p : Fin 16) (s : State) : Host.Outcome State Fault Refusal := .next (tptCntClr p s)

/-- The log ring does not lie within installed memory (R253). -/
def State.logOutside (s : State) (p : Nat) : Bool :=
  decide (s.rn (Reg.TPT_LOG_BASE_LO p) + 2 ^ 32 * s.rn (Reg.TPT_LOG_BASE_HI p) + 16 * s.get (Reg.TPT_LOG_ENTRIES p) ⟨0, 28⟩ > s.capacity)

/-- The checks of a write of a TPT register (R244, R246, R253). -/
def tptCheck (p a : Nat) (v : Word) (s : State) : WStat :=
  let x := v.toNat
  let w := s.rn (Reg.TPT_WIDTH p)
  let per := s.rn (Reg.TPT_PERIOD p)
  let one := s.get (Reg.TPT_COUNT p) F.TPT_COUNT_COUNT == 1
  let bad (w per : Nat) (one : Bool) : Bool := decide (w < 82) || (!one && decide (per < w + 82))
  if a = Reg.TPT_CTL p then
    let chg (f : Fld) : Bool := fldGet f v != s.get a f
    let on := fldGet F.TPT_CTL_LOG_EN v == 1 && chg F.TPT_CTL_LOG_EN
    firstOf [
      (fldGet F.TPT_CTL_MODE v == 3 || fldGet F.TPT_CTL_IOSTD v == 3, .valueRefused),
      (on && s.logOutside p, .valueRefused),
      (s.unitRunning (Reg.TPT_STATUS p), .gated),
      (s.tptState p == 2 && (chg F.TPT_CTL_MODE || chg F.TPT_CTL_IOSTD || chg F.TPT_CTL_TERM || chg F.TPT_CTL_FRAME ||
        chg F.TPT_CTL_LOG_EN), .stateRefused)]
  else if a = Reg.TPT_WIDTH p then firstOf [(bad x per one, .valueRefused)]
  else if a = Reg.TPT_PERIOD p then firstOf [(bad w x one, .valueRefused)]
  else if a = Reg.TPT_COUNT p then firstOf [(bad w per (fldGet F.TPT_COUNT_COUNT v == 1), .valueRefused)]
  else if a = Reg.TPT_CMD p then firstOf [(decide (fldGet F.TPT_CMD_OP v > 3), .valueRefused)]
  else if a = Reg.TPT_LOG_BASE_LO p ∨ a = Reg.TPT_LOG_BASE_HI p then
    firstOf [(s.on (Reg.TPT_CTL p) F.TPT_CTL_LOG_EN, .stateRefused)]
  else if a = Reg.TPT_LOG_ENTRIES p then
    firstOf [(decide (x % 2 ^ 28 < 64), .valueRefused), (s.on (Reg.TPT_CTL p) F.TPT_CTL_LOG_EN, .stateRefused)]
  else if a = Reg.TPT_LOG_RD p then
    firstOf [(decide ((s.rn (Reg.TPT_LOG_WR p) + 2 ^ 32 - x) % 2 ^ 32 > s.get (Reg.TPT_LOG_ENTRIES p) ⟨0, 28⟩), .valueRefused)]
  else .ok

/-- An accepted write of TPT_CTL. -/
def tptCtlApply (p : Nat) (v : Word) (s : State) : State :=
  let old := s.rd (Reg.TPT_CTL p)
  let s := s.applyFields (Reg.TPT_CTL p) v
  let chg (f : Fld) : Bool := fldGet f old != s.get (Reg.TPT_CTL p) f
  let s := if chg F.TPT_CTL_LOG_EN ∧ s.on (Reg.TPT_CTL p) F.TPT_CTL_LOG_EN then s.wr (Reg.TPT_LOG_WR p) 0#32 else s
  let s := if chg F.TPT_CTL_MODE then s.setTptState p (if s.tptMode p = 0 then 0 else 1) else s
  let pulse := match (s.tpt p).trains with
    | t :: _ => t.active || t.held
    | [] => false
  s.setTptLevel p (if s.tptMode p = 2 then s.tptIdle p != pulse else (s.tpt p).ball)

/-- An accepted write of a TPT register. -/
def tptApply (p a : Nat) (v : Word) (s : State) : State :=
  if a = Reg.TPT_CTL p then tptCtlApply p v s
  else if a = Reg.TPT_CMD p then
    match fldGet F.TPT_CMD_OP v with
    | 1 => tptFire p s
    | 2 => tptFireAt p s
    | 3 => stopTrains p s
    | _ => s
  else if a = Reg.TPT_CNTCLR p then (if v.toNat % 2 = 1 then tptCntClr p s else s)
  else s.applyFields a v

/-- A write of a register of TPT[p]. -/
def writeTpt (p a : Nat) (v : Word) (s : State) : WStat × State := s.writeIf a (tptCheck p a v s) (tptApply p a v)

end Sys2Proof.Machine
end

