-- ==== Sys2Proof/Machine/Memory.lean ====
section
/-! DEFINITION. Memory channels: initialisation and training, self-refresh, requests, row disturbance, scrub, parity, channel
fault (11_acquisition_memory.md R276 to R303; 10_clock_synthesis.md R258, R272, R273, R279). -/
namespace Sys2Proof.Machine

def State.mdll (s : State) (m : Nat) : MdllHid := lookupD (fun _ => {}) s.mdlls m
def State.setMdll (s : State) (m : Nat) (x : MdllHid) : State := { s with mdlls := updateD (fun _ => {}) s.mdlls m x }

/-- STATE of an MDLL: 0 OFF, 1 ACQUIRE, 2 HELD, 3 LOCKED, 4 HOLDOVER (10 R275). -/
def State.mdllState (s : State) (m : Nat) : Nat := s.get (Reg.CKS_MDLL_STAT m) F.CKS_MDLL_STAT_STATE
def State.setMdllState (s : State) (m x : Nat) : State :=
  (s.put (Reg.CKS_MDLL_STAT m) F.CKS_MDLL_STAT_STATE x).setMdll m { s.mdll m with since := s.rt }

/-- The legal multipliers (10 R258). -/
def legalMult (x : Nat) : Bool := x == 60 || x == 65 || x == 70 || x == 75 || x == 80

/-- A rated multiplier rounded down to a legal one (R279). -/
def roundMult (x : Nat) : Nat := if x < 65 then 60 else if x < 70 then 65 else if x < 75 then 70 else if x < 80 then 75 else 80

/-! ### Channel fault (R300) -/

/-- A channel fault with its log cause: 1 training, 2 retrain, 3 CA parity, 4 MDLL budget. -/
def channelFault (m cause : Nat) (s : State) : State :=
  if s.phase m = phFault then s
  else
    let hit := (List.range 16).filter (fun g => s.gRunning g && s.holdsByte g m)
    let s := ((s.setMch m { s.mch m with srEntry := 0 }).setPhase m phFault).setFlag (Reg.MCH_FLAGS m) F.MCH_FLAGS_CH_FAULT
    let s := s.addLog 0x12 ((flagSource (Reg.MCH_FLAGS m) F.MCH_FLAGS_CH_FAULT.lo).getD 0) (m + 256 * cause) 0
    hit.foldl (fun s g => faultGroup g 5 (s.now256 : Nat) s) s

/-! ### The clock of a channel (10 R264, R272, R273) -/

/-- The channel's clock enters holdover: bursts in flight complete and the channel goes to self-refresh (10 R272), out of a training phase
too (R297); one that sleeps for STANDBY goes on sleeping for it. -/
def mdllHoldover (m : Nat) (s : State) : State :=
  let s := (s.setMdllState m 4).setMdll m { s.mdll m with since := s.rt, budget := s.rt, plain := false }
  if s.phase m = phOff ∨ s.phase m = phFault ∨ (s.phase m = phSr ∧ (s.mch m).srCause = 3) then s
  else
    let s := if s.phase m = phSr then s else (s.bump (Reg.MCH_SR_CNT m) 1).setPhase m phSr
    s.setMch m { s.mch m with srCause := 4, srEntry := 0, srSince := s.rt }

/-- MREF runs. -/
def State.mrefGood (s : State) : Bool := s.clk.released && !s.on Reg.CKS_STATUS F.CKS_STATUS_GATED

/-- An MDLL that begins to acquire lock takes the HKO (R259): `kept` tells that it was under AUTO before, so that a fall back to the
HKO lasts. -/
def State.takesHko (s : State) (m : Nat) (kept : Bool) : Bool :=
  match s.get (Reg.CKS_MDLL_CTL m) F.CKS_MDLL_CTL_MREF with
  | 2 => true
  | 0 => (kept && s.on (Reg.CKS_MDLL_STAT m) F.CKS_MDLL_STAT_ON_HKO) || !s.mrefGood
  | _ => false

/-- MREF_RETURN goes on with the next channel that runs on the HKO (10 R273). One whose MREF selects the HKO only stays on it (10
R259; DEDUCED, log 117). -/
def mrefNext : List Nat → State → State
  | [], s => { s with clk := { s.clk with mrefQ := [] } }
  | m :: t, s =>
    if s.on (Reg.CKS_MDLL_STAT m) F.CKS_MDLL_STAT_ON_HKO ∧ s.mdllState m = 3 ∧ s.get (Reg.CKS_MDLL_CTL m) F.CKS_MDLL_CTL_MREF ≠ 2 then
      let s := mdllHoldover m s
      { s.setMdll m { s.mdll m with toMref := true } with clk := { s.clk with mrefQ := m :: t } }
    else mrefNext t s

/-- The channel that MREF_RETURN is at has not yet come to serve again: its loop relocks, or it sleeps or retrains. -/
def State.mrefBusy (s : State) : Bool :=
  match s.clk.mrefQ with
  | k :: _ => s.phase k == phRetrain || s.phase k == phSr || (s.mdllState k != 3 && s.mdllState k != 0 && s.phase k != phFault)
  | [] => false

/-- A running MREF_RETURN moves on once its channel serves again, or has failed or been taken elsewhere. -/
def mrefDone (s : State) : State :=
  match s.clk.mrefQ with
  | _ :: t => if s.mrefBusy then s else mrefNext t s
  | [] => s

/-! ### Initialisation (R277 to R283) -/

/-- The contents of a channel become undefined (R283, R300). -/
def wipeChannel (m : Nat) (s : State) : State :=
  let keep := s.mem.cells.filter (fun c => s.chanOf c.1 != m)
  let pois := s.mem.poison.filter (fun l => s.chanOf (l * 64) != m)
  { s with mem := { s.mem with cells := keep, poison := pois, fills := s.mem.fills + 1,
                               fill := updateD (fun _ => 0) s.mem.fill m (s.mem.fills + 1) } }

/-- The contents of a channel become zero (R283). -/
def zeroChannel (m : Nat) (s : State) : State :=
  let s := wipeChannel m s
  { s with mem := { s.mem with fill := updateD (fun _ => 0) s.mem.fill m 0 } }

/-- A channel's initialisation begins with phase SPD (R281, R282). -/
def startInit (m : Nat) (s : State) : State :=
  let h := s.mch m
  let s := s.setMch m { h with wq := [], rq := [], srCause := 0, srEntry := 0, rows := [], throttled := [], replays := 0,
                               wasReady := false, spdDone := false, fits := false, left6 := false, scrubAt := 0 }
  (wipeChannel m s).setPhase m 1

/-- Population of one channel as its SPD reads gave it: DIMMs, size, ranks; R276 holds. -/
def State.popOf (s : State) (m : Nat) : Nat × Nat × Nat := (s.get (Reg.MCH_STATUS m) F.MCH_STATUS_DIMMS, (s.mch m).dimmGib, (s.mch m).ranks)
def State.popFits (s : State) (m : Nat) : Bool :=
  (s.mch m).fits && decide (1 ≤ (s.popOf m).1) && decide ((s.popOf m).1 ≤ 2) &&
    [16, 32, 64, 128, 256].contains (s.mch m).dimmGib

/-- The channel matches MCH0 (R277). -/
def State.popMatch (s : State) (m : Nat) : Bool := s.popFits m && decide (s.popOf m = s.popOf 0)

/-- Channels in use: the largest run of matching channels from MCH0 of 1, 2, 4 or 8 (R277). -/
def State.runLen (s : State) : Nat :=
  ([8, 4, 2, 1].find? (fun n => (List.range n).all s.popMatch)).getD 0

/-- The multiplier that MAXMULT takes (R279). -/
def State.popMult (s : State) (n : Nat) : Nat :=
  (List.range n).foldl (fun x m => min x (min (roundMult (s.mch m).rated) (if (s.popOf m).1 = 2 then 70 else 80))) 80

/-- The multiplier that MULT takes: the rate that boot loaded from the store, or MAXMULT (R279, 17 R444). -/
def State.initMult (s : State) (mx : Nat) : Nat := if legalMult s.clk.rate ∧ s.clk.rate < mx then s.clk.rate else mx

/-- Used capacity of a channel in GiB with `n` channels in use (R278). -/
def State.usedGib (s : State) (n m : Nat) : Nat := min ((s.popOf m).1 * (s.mch m).dimmGib) (2048 / max 1 n)

/-- One channel in phase SPD meets the outcome of the population check. -/
def settlePop (n : Nat) (s : State) (m : Nat) : State :=
  let used := decide (m < n)
  let s := s.put (Reg.MCH_STATUS m) F.MCH_STATUS_USED (b2n used)
  let s := s.put (Reg.MCH_STATUS m) F.MCH_STATUS_CAP_GIB (if used then s.usedGib n m else 0)
  if s.phase m ≠ 1 then s
  else if used then s.setPhase m 2
  else if (s.popOf m).1 = 0 ∨ s.popMatch m then s.setPhase m phOff
  else (s.setPhase m phFault).setFlag (Reg.MCH_FLAGS m) F.MCH_FLAGS_POP_MISMATCH

/-- A channel in use takes the installation's data rate (R279); its MDLL locks anew where it is off or changes. -/
def settleRate (mx mult : Nat) (s : State) (m : Nat) : State :=
  let a := Reg.CKS_MDLL_CTL m
  let new := s.mdllState m = 0 ∨ s.get a F.CKS_MDLL_CTL_MULT ≠ mult
  let s := (s.put a F.CKS_MDLL_CTL_MAXMULT mx).put a F.CKS_MDLL_CTL_MULT mult
  let s := s.setMch m { s.mch m with maxLoaded := mx }
  if new then
    let hko := s.takesHko m (s.mdllState m != 0)
    let s := s.setMdllState m 1
    s.setMdll m { s.mdll m with budget := s.rt, plain := true, toMref := false, hko := hko }
  else s

/-- The lowest multiplier of the channels in use (R279: they run at one data rate; while the host changes it channel by channel, the
ceiling of R286 is the slowest one's, DEDUCED). -/
def State.lowMult (s : State) : Nat :=
  ((List.range 8).filter s.chUsed).foldl (fun x m => min x (s.get (Reg.CKS_MDLL_CTL m) F.CKS_MDLL_CTL_MULT)) 80

/-- CEIL_CODE of a multiplier (R258, R303). -/
def rateCode (mult : Nat) : Nat :=
  match mult with
  | 60 => 1
  | 65 => 2
  | 70 => 3
  | 75 => 4
  | 80 => 5
  | _ => 0

/-- MCH_CFG as the installation has it (R282, R286). -/
def State.cfgWord (s : State) : Nat :=
  let n := (List.range 8).countP s.chUsed
  if n = 0 then 0 else n * 2 ^ 20 + rateCode s.lowMult * 2 ^ 16 + min 2048 (n * s.get (Reg.MCH_STATUS 0) F.MCH_STATUS_CAP_GIB)

/-- CEIL_CODE follows a change of the data rate while a configuration is installed (R286, R303). -/
def showCeil (s : State) : State :=
  if s.nChan = 0 then s
  else (List.range 8).foldl (fun t m => t.put (Reg.MCH_CFG m) F.MCH_CFG_CEIL_CODE (rateCode s.lowMult)) s

/-- A channel at which a new interleave arrives (R283, R285): one whose contents are zero throughout keeps them; of any other, no
byte has a defined place any more. -/
def reinterleave (kept : List Nat) (s : State) (m : Nat) : State := if kept.contains m then s else wipeChannel m s

/-- The channels whose every byte is zero. -/
def State.zeroChannels (s : State) : List Nat :=
  (List.range 8).filter (fun m => lookupD (fun _ => 0) s.mem.fill m == 0 && s.mem.cells.all (fun c => s.chanOf c.1 != m) &&
    s.mem.poison.all (fun l => s.chanOf (l * 64) != m))

/-- Publish the installed configuration when every channel in use has left phase 6 (R282). -/
def publishCfg (s : State) : State :=
  if (List.range 8).any (fun m => s.chUsed m && !(s.mch m).left6) then s
  else
    let w := s.cfgWord
    let s := if w / 2 ^ 20 = s.nChan then s
      else (List.range 8).foldl (reinterleave s.zeroChannels) { s with mem := { s.mem with cells := [], poison := [] } }
    (List.range 8).foldl (fun s m => s.wn (Reg.MCH_CFG m) w) s

/-- The population check, once every channel in phase SPD has its SPD data (R277, R279). Where it leaves no channel in use that has still
to pass phase 6, the installed configuration is published at once (R282). -/
def checkPop (s : State) : State :=
  if (List.range 8).any (fun m => s.phase m == 1 && !(s.mch m).spdDone) then s
  else
    let n := s.runLen
    let s := (List.range 8).foldl (settlePop n) s
    let mx := s.popMult n
    publishCfg ((List.range n).foldl (settleRate mx (s.initMult mx)) s)

/-- The channel serves requests: it has reached READY (R282). -/
def reachReady (m : Nat) (s : State) : State :=
  (s.setPhase m phReady).setMch m { s.mch m with wasReady := true, srCause := 0, lastReq := s.rt, lastScrub := s.rt }

/-- The eyes measured by a training: reported, warned of, and whether the training failed (R302). -/
def reportEyes (m rd wr : Nat) (s : State) : Bool × State :=
  let s := s.wn (Reg.MCH_EYE m) (256 * wr + rd)
  let lo := min rd wr
  let s := s.setFlagIf (decide (lo < s.get (Reg.MCH_EYE_MIN m) F.MCH_EYE_MIN_WARN)) (Reg.MCH_FLAGS m) F.MCH_FLAGS_EYE_LOW
  (decide (lo < s.get (Reg.MCH_EYE_MIN m) F.MCH_EYE_MIN_MIN), s)

/-- Training failed (R281). -/
def trainFail (m cause : Nat) (s : State) : State :=
  channelFault m cause (s.setFlag (Reg.MCH_FLAGS m) F.MCH_FLAGS_TRAIN_FAIL)

/-- The phase that a channel is in ends (R281). -/
def phaseEnd (m : Nat) (ok : Bool) (spd : Spd) (rd wr : Nat) (s : State) : State :=
  let p := s.phase m
  if p < 1 ∨ 7 < p then s
  else if ok = false then (if p = 1 then checkPop (trainFail m 1 s) else trainFail m 1 s)
  else if p = 1 then
    if (s.mch m).spdDone then s
    else
      let s := s.put (Reg.MCH_STATUS m) F.MCH_STATUS_DIMMS (min 2 spd.dimms)
      checkPop (s.setMch m { s.mch m with spdDone := true, dimmGib := spd.gib, ranks := spd.ranks, rated := spd.rated, fits := spd.fits })
  else if p < 6 then s.setPhase m (p + 1)
  else if p = 6 then
    let r := reportEyes m rd wr s
    let t := r.2.setMch m { r.2.mch m with left6 := true }
    if r.1 then trainFail m 1 r.2
    else if t.on (Reg.MCH_CTL m) F.MCH_CTL_ZERO_INIT then publishCfg (t.setPhase m 7)
    else publishCfg (reachReady m t)
  else reachReady m (zeroChannel m s)

/-- TRAINING_PHASE_END (R281). -/
def execTrainingPhaseEnd (m : Fin 8) (ok : Bool) (spd : Spd) (rd wr : BitVec 8) (s : State) : Host.Outcome State Fault Refusal :=
  .next (phaseEnd m ok spd rd.toNat wr.toNat s)

/-- A channel in phases 1 to 7 or 10, or a running group, refuses INIT (R300, R303). -/
def State.initRefused (s : State) (m : Nat) : Bool :=
  s.anyRunning || (decide (1 ≤ s.phase m) && decide (s.phase m ≤ 7)) || s.phase m == phRetrain

/-- A write of MCH_CMD with an operation code (R303): the refusal, or the effect. -/
def mchCmdCheck (m op : Nat) (s : State) : WStat :=
  firstOf [(decide (op > 3), .valueRefused), (op == 1 && s.initRefused m, .stateRefused),
    ((op == 2 || op == 3) && s.anyRunning, .stateRefused)]

/-- The controller decides on self-refresh (R297, R298): the entry takes effect when SRE is issued, one control cycle later. -/
def decideSr (m cause : Nat) (s : State) : State := s.setMch m { s.mch m with srEntry := cause }

/-- SRE is issued for a decided entry (R298). -/
def srIssue (m : Nat) (s : State) : State :=
  let h := s.mch m
  if h.srEntry = 0 then s
  else if s.phase m = phOff ∨ s.phase m = phSr ∨ s.phase m = phFault then s.setMch m { h with srEntry := 0 }
  else
    let s := s.setMch m { h with srCause := h.srEntry, srEntry := 0, srSince := s.rt }
    (s.bump (Reg.MCH_SR_CNT m) 1).setPhase m phSr

/-- An entry that no request can cancel: STANDBY and holdover (R297). It takes a channel out of a training phase too. -/
def srForce (m cause : Nat) (s : State) : State :=
  if s.phase m = phOff ∨ s.phase m = phFault then s
  else if s.phase m = phSr then s.setMch m { s.mch m with srCause := cause }
  else srIssue m (decideSr m cause s)

/-- A channel whose clock runs again leaves the self-refresh of STANDBY or a holdover through a reduced retrain; one that has not
reached READY since its initialisation began has nothing to retrain and initialises anew (R284; 10 R272; DEDUCED, log 137). `free` tells
that no budget counts for the retrain. -/
def srRetrain (m : Nat) (free : Bool) (s : State) : State :=
  let s := if free then s.setMdll m { s.mdll m with plain := true } else s
  if (s.mch m).wasReady then (s.setMch m { s.mch m with srCause := 0, lastReq := s.rt }).setPhase m phRetrain
  else startInit m s

/-- The channel leaves self-refresh. -/
def srLeave (m : Nat) (s : State) : State :=
  if s.phase m = phSr then (s.setMch m { s.mch m with srCause := 0, lastReq := s.rt }).setPhase m phReady else s

/-- An accepted operation of MCH_CMD. -/
def mchCmd (m op : Nat) (s : State) : State :=
  if op = 1 then startInit m s
  else if op = 2 then (if s.phase m = phReady then decideSr m 2 s else s)
  else if op = 3 then
    (if s.phase m = phSr ∧ ((s.mch m).srCause = 1 ∨ (s.mch m).srCause = 2) then srLeave m s else s)
  else s

/-- A write of MCH_CMD. -/
def writeMchCmd (m op : Nat) (s : State) : WStat × State := s.writeIf (Reg.MCH_CMD m) (mchCmdCheck m op s) (mchCmd m op)

/-- MCH_INIT (R282). -/
def execMchInit (m : Fin 8) (s : State) : Host.Outcome State Fault Refusal :=
  .next (s.hostReg (Reg.MCH_CMD m) ((writeMchCmd m 1 s).2))

/-- SR_ENTER (R297). -/
def execSrEnter (m : Fin 8) (s : State) : Host.Outcome State Fault Refusal :=
  .next (s.hostReg (Reg.MCH_CMD m) ((writeMchCmd m 2 s).2))

/-- SR_EXIT (R297). -/
def execSrExit (m : Fin 8) (s : State) : Host.Outcome State Fault Refusal :=
  .next (s.hostReg (Reg.MCH_CMD m) ((writeMchCmd m 3 s).2))

/-- A reduced retrain ends (R284, R302). -/
def retrainEnd (m rd wr : Nat) (s : State) : State :=
  if s.phase m ≠ phRetrain then s
  else
    let r := reportEyes m rd wr s
    mrefDone (if r.1 then trainFail m 2 r.2 else reachReady m r.2)

/-- REDUCED_RETRAIN_END (R284). -/
def execReducedRetrainEnd (m : Fin 8) (rd wr : BitVec 8) (s : State) : Host.Outcome State Fault Refusal :=
  .next (retrainEnd m rd.toNat wr.toNat s)

/-- SR_IDLE has expired (R297). -/
def State.srIdleDue (s : State) (m : Nat) : Bool :=
  s.on (Reg.MCH_CTL m) F.MCH_CTL_IDLE_SR && s.phase m == phReady && !s.anyRunning && (s.mch m).srEntry == 0 &&
    decide ((s.mch m).lastReq + s.get (Reg.MCH_SR_IDLE m) F.MCH_SR_IDLE_US * tickUs ≤ s.rt)

/-- SR_IDLE_EXPIRY (R297). -/
def execSrIdleExpiry (m : Fin 8) (s : State) : Host.Outcome State Fault Refusal :=
  .next (if s.srIdleDue m then decideSr m 1 s else s)

/-! ### Requests (R289 to R296) -/

/-- The rows beside row `w` of MCH_RH_ROW's layout (R295). -/
def rowsBeside (w : Nat) : List Nat :=
  let r := w % 2 ^ 18
  let top := w / 2 ^ 22 * 2 ^ 22
  (if r = 0 then [] else [top + r - 1]) ++ (if r = 2 ^ 18 - 1 then [] else [top + r + 1])

/-- The count of one neighbouring row goes up for requester `req` (R295, R296). -/
def countRow (m req : Nat) (s : State) (row : Nat) : State :=
  let h := s.mch m
  let th := s.get (Reg.MCH_RH_CTL m) F.MCH_RH_CTL_THRESH
  let c := lookupD (fun _ => 0) h.rows row + 1
  let past := decide (2 * c > th) && decide (2 * (c - 1) ≤ th)
  let s := s.setMch m { h with rows := updateD (fun _ => 0) h.rows row (if c ≥ th then 0 else c) }
  let s := if c ≥ th then s.bump (Reg.MCH_RFM_CNT m) 1 else s
  if past then
    let h := s.mch m
    let t := if h.throttled.any (fun p => p.1 == req) then h.throttled else h.throttled ++ [(req, 0)]
    let s := s.setMch m { h with throttled := t }
    let s := ((s.wn (Reg.MCH_RH_REQ m) req).wn (Reg.MCH_RH_ROW m) row).setFlag (Reg.MCH_FLAGS m) F.MCH_FLAGS_RH_THROTTLE
    s.addLog 0x11 ((flagSource (Reg.MCH_FLAGS m) F.MCH_FLAGS_RH_THROTTLE.lo).getD 0) (req + 65536 * m) row
  else s

/-- The requester codes of R296. -/
def legalReq (req : Nat) : Bool :=
  decide (req < 0x2010) || (decide (0x2010 ≤ req) && decide (req < 0x2028)) || req == 0x2030

/-- An activation of a row for a requester (R295, R296); a code that R296 does not list names none. -/
def activate (m req row : Nat) (s : State) : State :=
  if legalReq req = false then s
  else
  let h := s.mch m
  let us := s.rt / tickUs
  let t := if h.throttleUs = us then h.throttled else h.throttled.map (fun p => (p.1, 0))
  let s := s.setMch m { h with throttleUs := us, throttled := t.map (fun p => if p.1 = req then (p.1, p.2 + 1) else p) }
  (rowsBeside row).foldl (countRow m req) s

/-- The request reads the DRAM at its first line: a read does, and so does a write that the controller performs as
read-modify-write of the line (R292). -/
def accessReads (a : Access) : Bool :=
  match a.data with
  | none => true
  | some d => decide (a.addr % 64 ≠ 0) || decide (d.length < 64)

/-- The ECC outcome of the first line that a request reads (R290 to R292). -/
def eccOutcome (a : Access) (s : State) : State :=
  let m := s.chanOf a.addr
  if accessReads a = false ∨ s.phase m = phFault ∨ s.isPoison (a.addr / 64) then s
  else if a.ecc = 1 then ceReport m (a.addr / 64) s
  else if a.ecc = 2 then s.setPoison (a.addr / 64) true
  else s

/-- A read is served. -/
def serveRead (a n : Nat) (s : State) : State :=
  let r := getLines (n / 64 + 2) a n s
  { r.2.2 with memOut := ⟨a, r.1, r.2.1⟩ }

/-- A read of `n` bytes at `a`: served, or held behind matching writes (R289) or a sleep (R299). -/
def acceptRead (a n : Nat) (s : State) : State :=
  let m := s.chanOf a
  if s.rawChans a n = [] ∧ s.rangeSleeps a n = false then serveRead a n s
  else
    let s := countRaw a n s
    s.setMch m { s.mch m with rq := (s.mch m).rq ++ [⟨a, n⟩] }

/-- A write: it stays in the queue for now, where it has to or is to, or reaches the DRAM after every matching write before it. -/
def acceptWrite (w : WrReq) (queued : Bool) (s : State) : State :=
  let m := s.chanOf w.addr
  if queued ∨ s.rangeSleeps w.addr w.data.length then
    let p := numberWrite w s
    p.2.setMch m { p.2.mch m with wq := (p.2.mch m).wq ++ [p.1] }
  else commitWrite w (settleRange w.addr w.data.length s)

/-- The bytes that a request touches. -/
def accessSize (a : Access) : Nat := match a.data with
  | some d => d.length
  | none => a.len

/-- A channel accepts a request and serves it (R289 to R299). A throttled requester that has used its activations of the
present µs is not accepted yet. -/
def memAccess (a : Access) (s : State) : State :=
  let m := s.chanOf a.addr
  let n := accessSize a
  if a.row.isSome ∧ s.throttledOut m a.req.toNat then s
  else
    let s := noteRange a.addr n s
    let s := match a.row with
      | some w => activate m a.req.toNat w.toNat s
      | none => s
    match a.data with
    | some d => acceptWrite { addr := a.addr, data := d } a.queued (eccOutcome a s)
    | none => acceptRead a.addr n (eccOutcome a s)

/-- MEMORY_ACCESS (R289). A request that reaches past the installed capacity is refused by the interface it comes from
(R285), so it asks nothing of a channel. -/
def execMemoryAccess (a : Access) (s : State) : Host.Outcome State Fault Refusal :=
  .next (if s.capacity < a.addr + max 1 (accessSize a) then s else memAccess a s)

/-- The oldest held read of a channel is released once the matching writes have reached the DRAM (R289) and its channels serve
(R299). -/
def rawWaitEnd (m : Nat) (s : State) : State :=
  match (s.mch m).rq with
  | [] => s
  | q :: t =>
    if s.rangeSleeps q.addr q.len then s
    else serveRead q.addr q.len (settleRange q.addr q.len (s.setMch m { s.mch m with rq := t }))

/-- RAW_WAIT_END (R289). -/
def execRawWaitEnd (m : Fin 8) (s : State) : Host.Outcome State Fault Refusal := .next (rawWaitEnd m s)

/-- A refresh window ends (R295, R296). -/
def refreshWindowEnd (m : Nat) (s : State) : State := s.setMch m { s.mch m with rows := [], throttled := [] }

/-- REFRESH_WINDOW_END (R296). -/
def execRefreshWindowEnd (m : Fin 8) (s : State) : Host.Outcome State Fault Refusal := .next (refreshWindowEnd m s)

/-- The shortest scrub interval at the channel's data rate, in ns (R293). -/
def State.scrubMin (s : State) (m : Nat) : Nat :=
  (match s.get (Reg.CKS_MDLL_CTL m) F.CKS_MDLL_CTL_MULT with
    | 80 => 160
    | 75 => 171
    | 70 => 183
    | 65 => 197
    | _ => 214) + b2n (s.on (Reg.CKS_MDLL_STAT m) F.CKS_MDLL_STAT_ON_HKO)

/-- The patrol is due for its next line: 163.84 ticks a ns (R293). -/
def State.scrubDue (s : State) (m : Nat) : Bool :=
  s.on (Reg.MCH_CTL m) F.MCH_CTL_SCRUB_EN && s.phase m == phReady && s.chUsed m &&
    decide ((s.mch m).lastScrub * 100 + max (s.rn (Reg.MCH_SCRUB m)) (s.scrubMin m) * 16384 ≤ s.rt * 100)

/-- The patrol reads its next line (R293): `ecc` 1 for a correctable, 2 for an uncorrectable line. -/
def scrubRead (m : Nat) (ecc : Nat) (s : State) : State :=
  if s.scrubDue m = false then s
  else
    let h := s.mch m
    let line := s.addrAt m h.scrubAt / 64
    let next := h.scrubAt + 64
    let wrap := decide (s.get (Reg.MCH_STATUS m) F.MCH_STATUS_CAP_GIB * 2 ^ 30 ≤ next)
    let s := s.setMch m { h with scrubAt := if wrap then 0 else next, lastScrub := s.rt }
    let s := if wrap then s.bump (Reg.MCH_SCRUB_PASS m) 1 else s
    if s.isPoison line then ueReport m line true s
    else if ecc = 1 then ceReport m line s
    else if ecc = 2 then ueReport m line true (s.setPoison line true)
    else s

/-- SCRUB_READ (R293). -/
def execScrubRead (m : Fin 8) (ecc : Fin 3) (s : State) : Host.Outcome State Fault Refusal := .next (scrubRead m ecc.val s)

/-- The injection of TST_CAPAR has been sent: FIRE clears, or, set by the host in the same cycle, stands for a further one (00 R22; DESIGN
CHOICE, log entry 129). -/
def caparSent (s : State) : State :=
  if s.setsNow Reg.TST_CAPAR F.TST_CAPAR_FIRE then
    { s with mon := { s.mon with capar := some (s.get Reg.TST_CAPAR F.TST_CAPAR_CHANNEL, s.get Reg.TST_CAPAR F.TST_CAPAR_REPEAT) } }
  else { s with mon := { s.mon with capar := none } }.put Reg.TST_CAPAR F.TST_CAPAR_FIRE 0

/-- TST_CAPAR on the channel whose command drew an alert (19_monitoring_and_test.md R486): whether the replay carries inverted
parity too, and the state once that injection has been sent. -/
def caparReplay (m : Nat) (s : State) : Bool × State :=
  match s.mon.capar with
  | none => (false, s)
  | some (c, left) =>
    if c ≠ m then (false, s)
    else if left ≤ 1 then
      (decide (left = 1), caparSent s)
    else (true, { s with mon := { s.mon with capar := some (c, left - 1) } })

/-- ALERT_n for a parity error (R294): `again` tells whether the replay draws a further alert, as a replay with inverted parity
does. -/
def parityAlert (m : Nat) (again : Bool) (s : State) : State :=
  let a := Reg.MCH_CAPAR_CNT m
  let h := s.mch m
  if s.phase m = phOff ∨ s.phase m = phFault then s
  else
    let inj := caparReplay m s
    let again := again || inj.1
    let s := inj.2
    let s := s.bumpFld a F.MCH_CAPAR_CNT_REPLAYS 1
    if again = false then
      (s.setMch m { h with replays := 0 }).bumpFld a F.MCH_CAPAR_CNT_RECOVERED 1
    else if h.replays + 1 < 3 then s.setMch m { h with replays := h.replays + 1 }
    else channelFault m 3 ((s.setMch m { h with replays := 0 }).setFlag (Reg.MCH_FLAGS m) F.MCH_FLAGS_CAPAR_FAIL)

/-- CA_PARITY_ALERT (R294): one alert and the replay that answers it. -/
def execCaParityAlert (m : Fin 8) (again : Bool) (s : State) : Host.Outcome State Fault Refusal := .next (parityAlert m again s)

/-- The field of an absent DIMM (R303), else the reading in 0.25 °C. -/
def tempField (present : Bool) (t : BitVec 16) : Nat := if present then t.toNat else 0x8000

/-- The DIMM temperatures are read (R301), every 32 ms of real time: 5,242,880,000 ticks. -/
def dimmTemp (m : Nat) (t0 t1 : BitVec 16) (s : State) : State :=
  let n := s.get (Reg.MCH_STATUS m) F.MCH_STATUS_DIMMS
  let h := s.mch m
  if s.phase m = phOff ∨ (h.lastTemp ≠ 0 ∧ s.rt < h.lastTemp + 5242880000) then s
  else
    let s := s.wn (Reg.MCH_DIMM_TEMP m) (tempField (decide (2 ≤ n)) t1 * 65536 + tempField (decide (1 ≤ n)) t0)
    let above (d : Int) : Bool := (decide (1 ≤ n) && decide (t0.toInt > d)) || (decide (2 ≤ n) && decide (t1.toInt > d))
    let s := s.setMch m { s.mch m with hot := above 340, lastTemp := s.rt }
    s.setFlagIf (above 380) (Reg.MCH_FLAGS m) F.MCH_FLAGS_DRAM_HOT

/-- MCH_DIMM_TEMP as it reads: from the SPD reads of an initialisation on, the field of an absent DIMM is 0x8000, whether or not a
temperature has been read (R303). -/
def State.dimmTempWord (s : State) (m : Nat) : Nat :=
  let x := s.rn (Reg.MCH_DIMM_TEMP m)
  let n := s.get (Reg.MCH_STATUS m) F.MCH_STATUS_DIMMS
  if (s.mch m).spdDone = false then x
  else (if 2 ≤ n then x / 2 ^ 16 else 0x8000) * 2 ^ 16 + (if 1 ≤ n then x % 2 ^ 16 else 0x8000)

/-- DIMM_TEMP_READ (R301). -/
def execDimmTempRead (m : Fin 8) (t0 t1 : BitVec 16) (s : State) : Host.Outcome State Fault Refusal := .next (dimmTemp m t0 t1 s)

/-- Every count of the block but SCRUB_PASS (R303). -/
def mchCntClr (m : Nat) (s : State) : State :=
  s.clearCounts [Reg.MCH_CE_CNT m, Reg.MCH_UE_CNT m, Reg.MCH_CAPAR_CNT m, Reg.MCH_SR_ABORT m, Reg.MCH_SR_CNT m, Reg.MCH_RFM_CNT m,
    Reg.MCH_RAW_WAIT m, Reg.MCH_DROPCNT m]

/-- MCH_CNTCLR (R303). -/
def execMchCntclr (m : Fin 8) (s : State) : Host.Outcome State Fault Refusal :=
  .next (s.hostReg (Reg.MCH_CNTCLR m) (mchCntClr m s))

/-- The checks of a write of an MCH register (R303). -/
def mchCheck (m a : Nat) (v : Word) (s : State) : WStat :=
  if a = Reg.MCH_CMD m then mchCmdCheck m (fldGet F.MCH_CMD_OP v) s
  else if a = Reg.MCH_SR_IDLE m then firstOf [(decide (fldGet F.MCH_SR_IDLE_US v = 0), .valueRefused)]
  else if a = Reg.MCH_SCRUB m then firstOf [(decide (v.toNat < 160), .valueRefused)]
  else if a = Reg.MCH_RH_CTL m then
    firstOf [(decide (fldGet F.MCH_RH_CTL_RATE v = 0) || decide (fldGet F.MCH_RH_CTL_THRESH v < 256), .valueRefused)]
  else if a = Reg.MCH_EYE_MIN m then
    firstOf [(decide (fldGet F.MCH_EYE_MIN_WARN v < fldGet F.MCH_EYE_MIN_MIN v), .valueRefused)]
  else .ok

/-- An accepted write of an MCH register. -/
def mchApply (m a : Nat) (v : Word) (s : State) : State :=
  if a = Reg.MCH_CMD m then mchCmd m (fldGet F.MCH_CMD_OP v) s
  else if a = Reg.MCH_CNTCLR m then (if v.toNat % 2 = 1 then mchCntClr m s else s)
  else s.applyFields a v

/-- A write of a register of MCH[m]. -/
def writeMch (m a : Nat) (v : Word) (s : State) : WStat × State := s.writeIf a (mchCheck m a v s) (mchApply m a v)

end Sys2Proof.Machine
end

