-- ==== Sys2Proof/Machine/Dma.lean ====
section
/-! DEFINITION. DMA flows and channel programs: instructions, moves, bursts, parking, commands, context registers
(12_dma_flows.md R304 to R330; 18_power_reset_boot.md R458 to R461). -/
namespace Sys2Proof.Machine

def State.flow (s : State) (f : Nat) : DmaFlow := lookupD (fun _ => {}) s.flows f
def State.setFlow (s : State) (f : Nat) (x : DmaFlow) : State := { s with flows := updateD (fun _ => {}) s.flows f x }

/-- STATE of a flow: 0 IDLE, 1 RUNNING, 2 WAITING, 3 PARKED, 4 DONE, 5 ERROR (R305). -/
def State.flowState (s : State) (f : Nat) : Nat := s.get (Reg.DMA_F_STATUS f) F.DMA_F_STATUS_STATE
def State.setFlowState (s : State) (f x : Nat) : State := s.put (Reg.DMA_F_STATUS f) F.DMA_F_STATUS_STATE x
def State.setCause (s : State) (f c : Nat) : State := s.put (Reg.DMA_F_STATUS f) F.DMA_F_STATUS_CAUSE c

/-- The flow is in RUNNING, WAITING or PARKED. -/
def State.flowActive (s : State) (f : Nat) : Bool := decide (1 ≤ s.flowState f) && decide (s.flowState f ≤ 3)

/-- The program counter of a flow, and its program space: memory where true. -/
def State.flowPc (s : State) (f : Nat) : Nat := s.rd64 (Reg.DMA_F_PC_LO f)
def State.setFlowPc (s : State) (f x : Nat) : State := s.wr64 (Reg.DMA_F_PC_LO f) (x % 2 ^ 41)
def State.flowInMem (s : State) (f : Nat) : Bool := s.get (Reg.DMA_F_CTL f) F.DMA_F_CTL_PSPACE == 1
def State.flowPtr (s : State) (f : Nat) : Nat := s.rd64 (Reg.DMA_F_PTR_LO f)

/-- Flows that firmware and the device keep for themselves (R304). -/
def reservedFlow (f : Nat) : Bool := decide (8128 ≤ f)

/-! ### Program memory -/

/-- Size of program memory in bytes (R306). -/
def pmemSize : Nat := 0x400000

def State.pmemByte (s : State) (a : Nat) : Byte := lookupD (fun _ => 0#8) s.pmem a
def State.pmemPut (s : State) (a : Nat) (b : Byte) : State := { s with pmem := updateD (fun _ => 0#8) s.pmem a b }

/-- Store bytes in program memory from `a` up. -/
def State.pmemPuts (s : State) (a : Nat) : List Byte → State
  | [] => s
  | b :: t => State.pmemPuts (s.pmemPut a b) (a + 1) t

def State.pmemBytes (s : State) (a n : Nat) : List Byte := (List.range n).map (fun i => s.pmemByte (a + i))

/-! ### Fetch (R306 to R309) -/

/-- The engine has fetched `n` bytes at `a` already (R307). -/
def State.ahead (s : State) (f a n : Nat) : Bool :=
  match (s.flow f).ahead with
  | none => false
  | some (b, l) => decide (b ≤ a) && decide (a + n ≤ b + l.length)

/-- `n` bytes of program at `a` are fetched already or can be fetched (R308). -/
def State.fetchable (s : State) (f a n : Nat) : Bool :=
  s.ahead f a n ||
    (if s.flowInMem f then
      decide (a + n ≤ s.capacity) && (s.chansOf a n).all (fun m => s.phase m != phFault) && !s.isPoison (a / 64) &&
        !s.isPoison ((a + n - 1) / 64)
    else decide (a + n ≤ pmemSize))

/-- A program byte of the flow, as it was fetched or as a fetch finds it. -/
def State.progByte (s : State) (f a : Nat) : Byte :=
  let now := if s.flowInMem f then s.peek a else s.pmemByte a
  match (s.flow f).ahead with
  | none => now
  | some (b, l) => if b ≤ a ∧ a < b + l.length then l.getD (a - b) 0#8 else now

/-- Word `i` of the instruction at the program counter. -/
def State.instrWord (s : State) (f i : Nat) : Nat :=
  ofLe ((List.range 8).map (fun k => s.progByte f (s.flowPc f + 8 * i + k)))

/-- Bits [hi:lo] of an instruction word. -/
def bits (w lo n : Nat) : Nat := w / 2 ^ lo % 2 ^ n

/-- The opcode at the program counter; none where the fetch fails. -/
def State.opcode (s : State) (f : Nat) : Option Nat :=
  let pc := s.flowPc f
  if s.fetchable f pc 16 = false then none
  else
    let op := bits (s.instrWord f 0) 0 4
    if op = 1 ∧ s.fetchable f (pc + 16) 16 = false then none else some op

/-- The instruction at the program counter has been fetched whole. -/
def State.fetched (s : State) (f : Nat) : Bool :=
  s.ahead f (s.flowPc f) 32 || (s.ahead f (s.flowPc f) 16 && bits (s.instrWord f 0) 0 4 != 1)

/-- The fetch of the next instruction waits for a channel that sleeps for STANDBY or holdover (11_acquisition_memory.md R299). -/
def State.fetchWaits (s : State) (f : Nat) : Bool :=
  s.flowInMem f && !s.fetched f && s.rangeSleeps (s.flowPc f) (min 32 (s.capacity - s.flowPc f))

/-- The instruction at the program counter is fetched, and what the engine takes with it, at most 256 bytes in all: how much it takes
beyond the instruction is a free value (R307). A fetch from acquisition memory is a read like any other (11_acquisition_memory.md
R289, R298). -/
def fetch (f : Nat) (s : State) : State :=
  if s.fetched f then s
  else
    let pc := s.flowPc f
    let k := max 2 (s.freeVal 13 % 17)
    let n := min (16 * k) (s.capacity - pc)
    let s := s.useFree
    let s := if s.flowInMem f then settleRange pc n (countRaw pc n (noteRange pc n s)) else s
    let got := ((List.range k).takeWhile (fun i => s.fetchable f (pc + 16 * i) 16)).length
    s.setFlow f { s.flow f with ahead := some (pc, (List.range (16 * got)).map (fun i => s.progByte f (pc + i))) }

/-- What has been fetched ahead is discarded: RESUME, the end of a WAIT, a taken LOOP (R307). -/
def discardAhead (f : Nat) (s : State) : State := s.setFlow f { s.flow f with ahead := none }

/-- The flow runs, executes no MOVE, is not to park, and has an instruction with opcode `op` before it. -/
def State.atOp (s : State) (f op : Nat) : Bool :=
  s.flowState f == 1 && (s.flow f).mv.isNone && (s.flow f).park.isNone && decide (s.opcode f = some op)

/-! ### Completion, errors and parking (R320 to R325) -/

/-- The three LAST_BAD registers (R329). -/
def loadLastBad (f cause pc : Nat) (s : State) : State :=
  let s := s.wn Reg.DMA_LAST_BAD (cause * 65536 + f)
  let s := s.wn Reg.DMA_LAST_BAD_PC_LO (pc % 2 ^ 32)
  s.wn Reg.DMA_LAST_BAD_PC_HI (b2n (s.flowInMem f) * 65536 + pc / 2 ^ 32 % 2 ^ 9)

/-- A BAD MOVE is counted (R321). -/
def countBad (f cause pc : Nat) (s : State) : State :=
  let s := (s.bump (Reg.DMA_F_BADCNT f) 1).bump Reg.DMA_BADCNT 1
  ((loadLastBad f cause pc s).setCause f cause).setFlag Reg.DMA_FLAGS F.DMA_FLAGS_BAD_MOVE

/-- The endpoint at a STREAM address (R315): 0x000 to 0x017 and 0x200 to 0x20F are sources, 0x100 to 0x10F destinations. -/
def streamSource (e : Nat) : Bool := decide (e ≤ 0x17) || (decide (0x200 ≤ e) && decide (e ≤ 0x20F))
def streamDest (e : Nat) : Bool := decide (0x100 ≤ e) && decide (e ≤ 0x10F)

/-- The flow an endpoint is bound to (R315). -/
def State.boundFlow (s : State) (e : Nat) : Option Nat :=
  if e ≤ 0x17 then
    some (if s.on (Reg.PCV_CTL e) F.PCV_CTL_RING_MODE then s.get (Reg.PCV_FLOW e) F.PCV_FLOW_FLOW else 8128 + e)
  else if streamDest e then
    (if s.get (Reg.STO_CTL (e - 0x100)) F.STO_CTL_SRC = 0 then some (s.get (Reg.STO_FLOW (e - 0x100)) F.STO_FLOW_FLOW) else none)
  else some (8152 + (e - 0x200))

/-- The flow has ended by END, ERROR or STOP: a stimulus output that it feeds gets no further word (09 R239, R242). -/
def flowEnded (f : Nat) (s : State) : State :=
  (List.range 16).foldl (fun s n =>
    if s.boundFlow (0x100 + n) = some f then s.setSto n { s.sto n with flowEnd := true } else s) s

/-- The flow stops in ERROR at its program counter (R308, R309, R321). -/
def flowError (f cause : Nat) (s : State) : State :=
  let s := loadLastBad f cause (s.flowPc f) (s.bump Reg.DMA_BADCNT 1)
  flowEnded f (((s.setCause f cause).setFlowState f 5).setFlag Reg.DMA_FLAGS F.DMA_FLAGS_FLOW_ERROR)

/-- The status word of the MOVE at `pc` (R310). -/
def writeStatus (f pc result cause bytes : Nat) (s : State) : State :=
  let w := leBytes 8 (result + 256 * cause + 2 ^ 32 * bytes)
  if s.flowInMem f then memWrite (pc + 24) w s else s.pmemPuts (pc + 24) w

/-- PTR after a MOVE of `len` bytes in PTR mode (R314). A ring of size 0 leaves no modulus: the value is free. -/
def nextPtr (f len : Nat) (s : State) : State :=
  let p := s.flowPtr f
  if s.on (Reg.DMA_F_CTL f) F.DMA_F_CTL_RING then
    let b := s.rd64 (Reg.DMA_F_RING_BASE_LO f)
    let n := s.rn (Reg.DMA_F_RING_SIZE f)
    if n = 0 then (s.wr64 (Reg.DMA_F_PTR_LO f) (s.freeVal 12 % 2 ^ 41)).useFree
    else
      let q : Int := (b : Int) + ((p : Int) + (len : Int) - (b : Int)) % (n : Int)
      s.wr64 (Reg.DMA_F_PTR_LO f) (q.toNat % 2 ^ 41)
  else s.wr64 (Reg.DMA_F_PTR_LO f) ((p + len) % 2 ^ 41)

/-- A flow's bursts in flight, and bursts that wait to be issued, are no more. -/
def dropFlights (f : Nat) (s : State) : State :=
  { s with dma := { s.dma with flights := s.dma.flights.filter (fun p => p.1 != f), ready := s.dma.ready.filter (fun g => g != f) } }

/-- A MOVE ends with RESULT OK (cause 0) or BAD and `bytes` in BYTES; the program counter stays at it (R320, R321). -/
def endMove (f cause bytes : Nat) (v : DmaMove) (s : State) : State :=
  let s := writeStatus f v.pc (if cause = 0 then 1 else 2) cause bytes s
  let s := if v.ptr = 0 then s else nextPtr f v.len s
  let s := if cause = 0 then s else countBad f cause v.pc s
  dropFlights f (s.setFlow f { s.flow f with mv := none })

/-- A MOVE ends and the flow goes on behind it. -/
def finishMove (f cause bytes : Nat) (v : DmaMove) (s : State) : State := (endMove f cause bytes v s).setFlowPc f (v.pc + 32)

/-- The flow parks (R325): a MOVE in progress has its status word written. -/
def parkFlow (f : Nat) (needs : List Nat) (s : State) : State :=
  let s := match (s.flow f).mv with
    | none => s
    | some v => writeStatus f v.pc 3 0x0E v.done s
  let s := dropFlights f (s.setFlow f { s.flow f with park := none, needs := needs })
  (((s.bump Reg.PWR_PARKCNT 1).setFlowState f 3).setCause f 0x0E).setFlag Reg.DMA_FLAGS F.DMA_FLAGS_PARKED

/-- A domain is DOWNING or OFF. -/
def State.domDown (s : State) (d : Nat) : Bool := s.dom d == 0 || s.dom d == 3

/-- The domain that an address of a space needs (R460). -/
def spaceDomain (space addr : Nat) : List Nat :=
  if space = 0 then [domMem]
  else if space = 2 then
    (if addr ≤ 0x17 then [domPrec] else if streamDest addr then [domStim] else [])
  else []

/-- The MOVE at the program counter as its words give it (R310). -/
def State.moveAt (s : State) (f : Nat) : DmaMove :=
  let w0 := s.instrWord f 0
  let sm := bits w0 4 2
  let dm := bits w0 6 2
  { pc := s.flowPc f, ss := bits w0 8 2, ds := bits w0 10 2,
    src := if sm = 1 then s.flowPtr f else bits (s.instrWord f 1) 0 48,
    dst := if dm = 1 then s.flowPtr f else bits (s.instrWord f 2) 0 48,
    len := bits w0 32 32, ptr := if sm = 1 then 1 else if dm = 1 then 2 else 0,
    ring := if s.on (Reg.DMA_F_CTL f) F.DMA_F_CTL_RING ∧ (sm = 1 ∨ dm = 1) then
        some (s.rd64 (Reg.DMA_F_RING_BASE_LO f), s.rn (Reg.DMA_F_RING_SIZE f)) else none }

/-- The domains that keep the flow from its next instruction now (R460). -/
def State.blockedBy (s : State) (f : Nat) : List Nat :=
  let fetch := if s.flowInMem f ∧ s.fetched f = false then [domMem] else []
  let move := if s.opcode f = some 1 then
      let v := s.moveAt f
      spaceDomain v.ss v.src ++ spaceDomain v.ds v.dst
    else []
  if fetch.any s.domDown then fetch.filter s.domDown else move.filter s.domDown

/-- A running flow parks before an instruction that needs a domain that is down (R460). Answers whether it did. -/
def parkIfBlocked (f : Nat) (s : State) : Bool × State :=
  if s.flowState f ≠ 1 ∨ (s.flow f).mv.isSome ∨ (s.flow f).park.isSome then (false, s)
  else
    let l := s.blockedBy f
    if l.isEmpty then (false, s) else (true, parkFlow f l s)

/-- An instruction's effect, where the flow has it before it, is not parked and its fetch need not wait. -/
def runInstr (f op : Nat) (act : State → State) (s : State) : State :=
  let r := parkIfBlocked f s
  if r.1 then r.2
  else if s.fetchWaits f = false ∧ (fetch f s).atOp f op then act (fetch f s)
  else s

/-! ### MOVE (R310 to R323) -/

/-- A field of the MOVE is illegal (R310, R315). -/
def State.moveIllegal (s : State) (f : Nat) : Bool :=
  let w0 := s.instrWord f 0
  let v := s.moveAt f
  let sm := bits w0 4 2
  let dm := bits w0 6 2
  decide (1 < sm) || decide (1 < dm) || v.ss == 3 || v.ds == 3 || (sm == 1 && dm == 1) || (sm == 1 && v.ss == 2) ||
    (dm == 1 && v.ds == 2) || (v.ss == 2 && v.ds == 2) || (v.ss == 2 && !streamSource v.src) || (v.ds == 2 && !streamDest v.dst)

/-- Bytes of a unit of an endpoint (R315). -/
def streamUnit (e : Nat) : Nat := if e ≤ 0x17 then 6 else if streamDest e then 2 else 16

/-- The first byte past the space. -/
def State.spaceEnd (s : State) (space : Nat) : Nat := if space = 0 then s.capacity else pmemSize

/-- The parts of a range, ring wrap taken into account (R314). -/
def segments (ring : Option (Nat × Nat)) (a n : Nat) : List (Nat × Nat) :=
  match ring with
  | none => [(a, n)]
  | some (b, m) => if a + n ≤ b + m then [(a, n)] else [(a, b + m - a), (b, n - (b + m - a))]

/-- The segments of the source and of the destination. -/
def DmaMove.srcSegs (v : DmaMove) : List (Nat × Nat) := segments (if v.ptr = 1 then v.ring else none) v.src v.len
def DmaMove.dstSegs (v : DmaMove) : List (Nat × Nat) := segments (if v.ptr = 2 then v.ring else none) v.dst v.len

/-- A range leaves its space or its ring (R314). -/
def State.moveRange (s : State) (v : DmaMove) : Bool :=
  (match v.ring with
    | some (b, m) =>
      let p := if v.ptr = 1 then v.src else v.dst
      decide (p < b) || decide (b + m ≤ p) || decide (m < v.len)
    | none => false) ||
  (v.ss != 2 && v.srcSegs.any (fun g => decide (g.1 + g.2 > s.spaceEnd v.ss))) ||
  (v.ds != 2 && v.dstSegs.any (fun g => decide (g.1 + g.2 > s.spaceEnd v.ds)))

/-- Source and destination overlap with the destination above the source (R317). -/
def DmaMove.overlap (v : DmaMove) : Bool :=
  v.ss != 2 && v.ss == v.ds && decide (v.src < v.dst) &&
    v.srcSegs.any (fun a => v.dstSegs.any (fun b => decide (a.1 < b.1 + b.2) && decide (b.1 < a.1 + a.2)))

/-- The cause with which a MOVE moves nothing; 0 where it starts. -/
def State.moveCheck (s : State) (f : Nat) : Nat :=
  let v := s.moveAt f
  let e := if v.ss = 2 then v.src else v.dst
  let str := v.ss == 2 || v.ds == 2
  if s.moveIllegal f then 0x07
  else if v.len = 0 then 0
  else if str && decide (s.boundFlow e ≠ some f) then 0x06
  else if str && decide (v.len % streamUnit e ≠ 0) then 0x08
  else if (v.ss == 0 || v.ds == 0) && !s.memReady then 0x05
  else if s.moveRange v then 0x01
  else if v.overlap then 0x09
  else 0

/-- The address of byte `i` of one side of a MOVE. -/
def sideAddr (ring : Option (Nat × Nat)) (a i : Nat) : Nat :=
  match ring with
  | none => a + i
  | some (b, m) => b + (a - b + i) % max 1 m

def DmaMove.srcAt (v : DmaMove) (i : Nat) : Nat := sideAddr (if v.ptr = 1 then v.ring else none) v.src i
def DmaMove.dstAt (v : DmaMove) (i : Nat) : Nat := sideAddr (if v.ptr = 2 then v.ring else none) v.dst i

/-- Bytes up to the end of a ring. -/
def ringLeft (ring : Option (Nat × Nat)) (a : Nat) : Nat :=
  match ring with
  | none => 4096
  | some (b, m) => b + m - a

/-- The length of the burst that begins at byte `i` (R318). -/
def DmaMove.burstLen (v : DmaMove) (i : Nat) : Nat :=
  let d := v.dstAt i
  let n := min (v.len - i) (if v.ds = 2 then 4096 else 4096 - d % 4096)
  min n (min (ringLeft (if v.ptr = 1 then v.ring else none) (v.srcAt i)) (ringLeft (if v.ptr = 2 then v.ring else none) d))

/-- Bytes with their poison marks. -/
abbrev Marked := List (Byte × Bool)

/-- Read a range of memory line by line with the marks of the lines (R291, R319). -/
def readMarked : Nat → Nat → Nat → State → Marked × State
  | 0, _, _, s => ([], s)
  | k + 1, a, n, s =>
    if n = 0 then ([], s)
    else
      let c := min n (64 - a % 64)
      let r := getSegment a c s
      let q := readMarked k (a + c) (n - c) r.2.2
      (r.1.map (fun b => (b, r.2.1)) ++ q.1, q.2)

/-- Bytes of one space, memory or program memory. -/
def readSpace (space a n : Nat) (s : State) : Marked × State :=
  if space = 0 then readMarked (n / 64 + 2) a n (settleRange a n (countRaw a n (noteRange a n s)))
  else ((s.pmemBytes a n).map (fun b => (b, false)), s)

/-- The whole source of a MOVE, segment by segment. -/
def readSource (v : DmaMove) (s : State) : Marked × State :=
  v.srcSegs.foldl (fun r g =>
    let q := readSpace v.ss g.1 g.2 r.2
    (r.1 ++ q.1, q.2)) ([], s)

/-- A wrapping ring lets the MOVE write bytes of its source before it has read them, with D ≤ S: they are to be copied as they were
(R317). -/
def DmaMove.eatsSource (v : DmaMove) : Bool :=
  v.ss != 2 && v.ss == v.ds && v.srcSegs.any (fun a => v.dstSegs.any (fun b => decide (a.1 < b.1 + b.2) && decide (b.1 < a.1 + a.2))) &&
    decide (2 < v.srcSegs.length + v.dstSegs.length)

/-- Units of a converter's stream without the first `n` bytes. -/
def dropBytes : Nat → List (List Byte) → List (List Byte)
  | _, [] => []
  | n, u :: t => if n < u.length then u.drop n :: t else dropBytes (n - u.length) t

/-- The bytes of a burst from its source: memory, program memory, or a converter's stream. -/
def readSide (v : DmaMove) (n : Nat) (s : State) : Marked × State :=
  match v.snap with
  | some l => ((l.drop v.done).take n, s)
  | none =>
    if v.ss = 2 then
      let h := s.pcv v.src
      ((h.stream.flatten.take n).map (fun b => (b, false)), s.setPcv v.src { h with stream := dropBytes n h.stream })
    else readSpace v.ss (v.srcAt v.done) n s

/-- Lines from address `a` up whose bytes are marked (R322). -/
def markedLines (a : Nat) (d : Marked) : List Nat :=
  ((List.range (d.length / 64 + 2)).filter (fun k =>
    ((List.range d.length).zip d).any (fun p => p.2.2 && (a + p.1) / 64 == a / 64 + k))).map (fun k => a / 64 + k)

/-- Little-endian 16-bit words with the marks of their bytes. -/
def wordsMarked : Marked → List (Nat × Bool)
  | a :: b :: t => (a.1.toNat + 256 * b.1.toNat, a.2 || b.2) :: wordsMarked t
  | _ => []

/-- Words reach a stimulus output; those from poisoned data are replaced (R322; 09 R242). -/
def deliverWords (n : Nat) (l : List (Nat × Bool)) (s : State) : State :=
  let got := (s.sto n).got
  let bad := ((List.range l.length).zip l).filter (fun p => p.2.2 && !(s.sto n).missing.contains (got + p.1))
  let s := stoDeliver n (l.map (fun p => p.1)) s
  if bad.isEmpty then s
  else
    let h := s.sto n
    let s := s.setSto n { h with missing := h.missing ++ bad.map (fun p => got + p.1) }
    (s.bump (Reg.STO_UNDERCNT n) bad.length).setFlag (Reg.STO_FLAGS n) F.STO_FLAGS_UNDERRUN

/-- The bytes of a burst reach their destination. -/
def writeSide (v : DmaMove) (d : Marked) (s : State) : State :=
  let a := v.dstAt v.done
  if v.ds = 0 then
    (markedLines a d).foldl (fun s l => s.setPoison l true) (memWrite a (d.map (fun p => p.1)) s)
  else if v.ds = 1 then s.pmemPuts a (d.map (fun p => p.1))
  else deliverWords (v.dst - 0x100) (wordsMarked (v.carry ++ d)) s

/-- The cause with which the burst of `n` bytes at byte `done` fails; 0 where it succeeds (R321). -/
def State.burstCause (s : State) (v : DmaMove) (n : Nat) : Nat :=
  let a := v.srcAt v.done
  let b := v.dstAt v.done
  let chans := (if v.ss = 0 then s.chansOf a n else []) ++ (if v.ds = 0 then s.chansOf b n else [])
  if (v.ss == 0 || v.ds == 0) && !s.memReady then 0x05
  else if chans.any (fun m => s.phase m == phFault) then 0x04
  else if v.ds == 0 && s.dikeProtected b n then 0x03
  else 0

/-- The MOVE waits on an endpoint whose unit has been disabled (R316). -/
def State.streamClosed (s : State) (v : DmaMove) : Bool :=
  (v.ss == 2 && s.closedEnds.contains v.src) || (v.ds == 2 && s.closedEnds.contains v.dst)

/-! ### The issue of bursts (R318, R326) -/

/-- Lengths of the flow's bursts in flight, oldest first. -/
def State.flightsOf (s : State) (f : Nat) : List Nat := (s.dma.flights.filter (fun p => p.1 == f)).map (fun p => p.2.1)

/-- Bytes that the stream side of a MOVE has or takes now; none where neither side is a stream (R316). -/
def State.streamRoom (s : State) (v : DmaMove) : Option Nat :=
  if v.ss = 2 then some (s.pcv v.src).stream.flatten.length
  else if v.ds = 2 then some (2 * s.stoRoom (v.dst - 0x100) - v.carry.length)
  else none

/-- The length of the burst that the flow's MOVE would issue next; 0 where it can issue none now. -/
def State.nextBurst (s : State) (f : Nat) (v : DmaMove) : Nat :=
  let sent := (s.flightsOf f).sum
  let n := v.burstLen (v.done + sent)
  match s.streamRoom v with
  | none => n
  | some k => min n (k - sent)

/-- The source of a burst lies on a channel that sleeps for STANDBY or holdover: the burst waits (11_acquisition_memory.md R299). -/
def State.burstSleeps (s : State) (v : DmaMove) (i n : Nat) : Bool := v.ss == 0 && v.snap.isNone && s.rangeSleeps (v.srcAt i) n

/-- The flow has a burst to issue: it runs a MOVE, is not to park, has fewer than four in flight, and waits for neither memory nor a
stream. -/
def State.issueable (s : State) (f : Nat) : Bool :=
  match (s.flow f).mv with
  | none => false
  | some v =>
    s.flowState f == 1 && (s.flow f).park.isNone && decide ((s.flightsOf f).length < 4) && !s.streamClosed v &&
      decide (s.nextBurst f v ≠ 0) && !s.burstSleeps v (v.done + (s.flightsOf f).sum) (s.nextBurst f v)

/-- Ticks in one µs: a rate in MB/s is bytes per µs, and this many parts of a byte per tick. -/
def bucketUnit : Nat := 163840

/-- The level of a flow's token bucket, in parts of a byte: it fills at RATE, to 16 KiB (R326). -/
def State.bucket (s : State) (f : Nat) : Nat :=
  let b := lookupD (fun _ => (0, 0)) s.dma.buckets f
  min (16384 * bucketUnit) (b.1 + s.rn (Reg.DMA_F_RATE f) * (s.rt - b.2))

/-- The flow's next burst is one of a planned flow whose bucket holds its length (R326). -/
def State.hasTokens (s : State) (f : Nat) : Bool :=
  match (s.flow f).mv with
  | none => false
  | some v => decide (s.rn (Reg.DMA_F_RATE f) ≠ 0) && decide (s.nextBurst f v * bucketUnit ≤ s.bucket f)

/-- The next burst of flow `f` is issued; where `planned`, its tokens are spent, else the flow has had its turn. -/
def issueBurst (planned : Bool) (f : Nat) (s : State) : State :=
  match (s.flow f).mv with
  | none => s
  | some v =>
    let n := s.nextBurst f v
    let d := { s.dma with flights := s.dma.flights ++ [(f, n, s.rt)], ready := s.dma.ready.filter (fun g => g != f) }
    { s with dma := if planned then
        { d with buckets := updateD (fun _ => (0, 0)) d.buckets f (s.bucket f - n * bucketUnit, s.rt) } else { d with turn := f } }

/-- Of flows, the first after `turn` in the round of flow numbers. -/
def nextInRound (turn : Nat) (l : List Nat) : Option Nat :=
  l.foldl (fun x f =>
    match x with
    | none => some f
    | some g => if (f + 8191 - turn) % 8192 < (g + 8191 - turn) % 8192 then some f else some g) none

/-- Bursts are issued while fewer than 64 are in flight: those of planned flows with tokens in arrival order, then the others, one per
flow per turn (R326); `fuel` bounds them. -/
def issueSome : Nat → State → State
  | 0, s => s
  | k + 1, s =>
    if 64 ≤ s.dma.flights.length then s
    else
      let can := (s.flows.map (fun p => p.1)).filter s.issueable
      let s := { s with dma := { s.dma with ready := s.dma.ready.filter can.contains ++ can.filter (fun f => !s.dma.ready.contains f) } }
      match s.dma.ready.find? s.hasTokens with
      | some f => issueSome k (issueBurst true f s)
      | none =>
        match nextInRound s.dma.turn can with
        | some f => issueSome k (issueBurst false f s)
        | none => s

def issueBursts (s : State) : State := issueSome 64 s

/-! ### Execution of a MOVE -/

/-- MOVE (R310): the checks; then the MOVE is in progress, its bursts issued. -/
def dmaMove (f : Nat) (s : State) : State :=
  runInstr f 1 (fun s =>
    let v := s.moveAt f
    let c := s.moveCheck f
    if c ≠ 0 then finishMove f c 0 v s
    else if v.len = 0 then finishMove f 0 0 v s
    else
      let e := if v.ss = 2 then v.src else v.dst
      let s := { s with closedEnds := s.closedEnds.filter (fun x => !(v.ss == 2 || v.ds == 2) || x != e) }
      let r := if v.eatsSource then readSource v s else ([], s)
      let v := if v.eatsSource then { v with snap := some r.1 } else v
      issueBursts (r.2.setFlow f { r.2.flow f with mv := some v })) s

/-- MOVE (R310). -/
def execMove (f : Fin 8192) (s : State) : Host.Outcome State Fault Refusal := .next (dmaMove f s)

/-- One burst's read and write. -/
def doBurst (v : DmaMove) (n : Nat) (s : State) : DmaMove × State :=
  let r := readSide v n s
  let s := writeSide v r.1 r.2
  let all := v.carry ++ r.1
  ({ v with done := v.done + n, poisoned := v.poisoned || r.1.any (fun p => p.2),
            carry := if v.ds = 2 then all.drop (all.length / 2 * 2) else [] }, s)

/-- The bursts issued after a failing one: each whose accesses succeed is written whole (R323). -/
def trailing : List Nat → DmaMove → State → State
  | [], _, s => s
  | n :: t, v, s =>
    if s.burstCause v n = 0 then
      let r := doBurst v n s
      trailing t r.1 r.2
    else trailing t { v with done := v.done + n } s

/-- The oldest burst in flight of flow `f`, of `n` bytes, completes (R318, R320, R322, R323). -/
def burstStep (f n : Nat) (v : DmaMove) (s : State) : State :=
  let c := s.burstCause v n
  if c ≠ 0 then
    let s := if v.ss = 2 ∨ v.ds = 2 then s else trailing ((s.flightsOf f).drop 1) { v with done := v.done + n } s
    finishMove f c v.done v s
  else
    let r := doBurst v n s
    let s := r.2.setFlow f { r.2.flow f with mv := some r.1 }
    let s := { s with dma := { s.dma with flights := s.dma.flights.eraseP (fun p => p.1 == f) } }
    if r.1.len ≤ r.1.done then finishMove f (if r.1.poisoned then 2 else 0) r.1.len r.1 s else s

/-- Channels that hold bytes of the memory sides of a burst of `n` bytes at byte `i` of a MOVE. -/
def State.burstChans (s : State) (v : DmaMove) (i n : Nat) : List Nat :=
  (if v.ss = 0 then s.chansOf (v.srcAt i) n else []) ++ (if v.ds = 0 then s.chansOf (v.dstAt i) n else [])

/-- TST_MEMLAT delays the completion of the flow's oldest burst: ADD × 10 ns from its issue on a channel of CHMASK
(19_monitoring_and_test.md R486). -/
def State.burstLate (s : State) (f : Nat) (v : DmaMove) (n : Nat) : Bool :=
  s.on Reg.TST_MEMLAT F.TST_MEMLAT_EN &&
    (s.burstChans v v.done n).any (fun m => bitOf (s.get Reg.TST_MEMLAT F.TST_MEMLAT_CHMASK) m) &&
    match s.dma.flights.find? (fun p => p.1 == f) with
    | none => false
    | some p => decide (s.rt * 100 < p.2.2 * 100 + s.get Reg.TST_MEMLAT F.TST_MEMLAT_ADD * tickUs)

/-- BURST_COMPLETE (R318): the flow's oldest burst in flight completes, unless it waits for its channel or TST_MEMLAT delays it; a MOVE with none in flight
whose endpoint has been disabled ends (R316). -/
def burstComplete (f : Nat) (s : State) : State :=
  let s := issueBursts s
  match (s.flow f).mv with
  | none => s
  | some v =>
    if s.flowState f ≠ 1 then s
    else if s.streamClosed v then issueBursts (finishMove f 0x0A v.done v s)
    else
      match s.flightsOf f with
      | [] => s
      | n :: _ => if s.burstSleeps v v.done n ∨ s.burstLate f v n then s else issueBursts (burstStep f n v s)

def execBurstComplete (f : Fin 8192) (s : State) : Host.Outcome State Fault Refusal := .next (burstComplete f s)

/-! ### The other instructions (R311 to R313) -/

/-- The register and field of a loop counter. -/
def loopReg (f c : Nat) : Nat := if c < 2 then Reg.DMA_F_LOOP_A f else Reg.DMA_F_LOOP_B f
def loopFld (c : Nat) : Fld := ⟨16 * (c % 2), 16⟩
def loopActFld (c : Nat) : Fld := ⟨16 + c, 1⟩

/-- LOOP (R311). -/
def dmaLoop (f : Nat) (s : State) : State :=
  runInstr f 2 (fun s =>
    let w := s.instrWord f 0
    let c := bits w 4 2
    let count := bits w 32 16
    let target := sext 24 (bits w 8 24)
    let pc := s.flowPc f
    let back := ((pc : Int) + target) % ((2 ^ 41 : Nat) : Int)
    if target % 16 ≠ 0 then flowError f 0x07 s
    else
      let act := s.on (Reg.DMA_F_STATUS f) (loopActFld c)
      let s := if act then s
        else
          let s := s.put (Reg.DMA_F_STATUS f) (loopActFld c) 1
          if count = 0 then s else s.put (loopReg f c) (loopFld c) (count - 1)
      let l := s.get (loopReg f c) (loopFld c)
      if count = 0 then (discardAhead f s).setFlowPc f back.toNat
      else if 0 < l then (discardAhead f (s.put (loopReg f c) (loopFld c) (l - 1))).setFlowPc f back.toNat
      else (s.put (Reg.DMA_F_STATUS f) (loopActFld c) 0).setFlowPc f (pc + 16)) s

/-- LOOP (R311). -/
def execLoop (f : Fin 8192) (s : State) : Host.Outcome State Fault Refusal := .next (dmaLoop f s)

/-- The semaphore of a flow. -/
def State.sem (s : State) (f : Nat) : Nat := s.get (Reg.DMA_F_SEM f) F.DMA_F_SEM_COUNT

/-- The condition of the WAIT at the program counter is met (R312). -/
def State.waitMet (s : State) (f : Nat) : Bool :=
  if bits (s.instrWord f 0) 4 2 = 0 then decide (1 ≤ s.sem f)
  else !s.on Reg.CKS_STATUS F.CKS_STATUS_FROZEN && decide (0 ≤ tickDiff s.tick (s.instrWord f 1))

/-- The flow passes its WAIT. -/
def passWait (f : Nat) (s : State) : State :=
  let s := if bits (s.instrWord f 0) 4 2 = 0 then s.put (Reg.DMA_F_SEM f) F.DMA_F_SEM_COUNT (s.sem f - 1) else s
  ((discardAhead f s).setFlowPc f (s.flowPc f + 16)).setFlowState f 1

/-- WAIT (R312). -/
def dmaWait (f : Nat) (s : State) : State :=
  runInstr f 3 (fun s =>
    if 1 < bits (s.instrWord f 0) 4 2 then flowError f 0x07 s
    else if s.waitMet f then passWait f s
    else s.setFlowState f 2) s

/-- WAIT (R312). -/
def execWait (f : Fin 8192) (s : State) : Host.Outcome State Fault Refusal := .next (dmaWait f s)

/-- WAIT_SATISFIED (R312). -/
def waitSatisfied (f : Nat) (s : State) : State :=
  if s.flowState f = 2 ∧ (s.flow f).park.isNone ∧ s.waitMet f then passWait f s else s

def execWaitSatisfied (f : Fin 8192) (s : State) : Host.Outcome State Fault Refusal := .next (waitSatisfied f s)

/-- Add to a semaphore, saturating (R313). -/
def semAdd (f n : Nat) (s : State) : State :=
  let x := s.sem f + n
  let s := s.setFlagIf (decide (0xFFFF < x)) Reg.DMA_FLAGS F.DMA_FLAGS_SEM_SAT
  s.put (Reg.DMA_F_SEM f) F.DMA_F_SEM_COUNT (min 0xFFFF x)

/-- Event source DMA_SIG*l* (14 R349). -/
def sendSig (en : Bool) (l : Nat) (s : State) : State := if en then s.sendLine (22 + l) true else s

/-- SIGNAL (R313). -/
def dmaSignal (f : Nat) (s : State) : State :=
  runInstr f 4 (fun s =>
    let w := s.instrWord f 0
    let s := if bits w 4 1 = 1 then semAdd (bits w 16 13) 1 s else s
    (sendSig (bits w 5 1 == 1) (bits w 8 5) s).setFlowPc f (s.flowPc f + 16)) s

/-- SIGNAL (R313). -/
def execSignal (f : Fin 8192) (s : State) : Host.Outcome State Fault Refusal := .next (dmaSignal f s)

/-- END (R313). -/
def dmaEnd (f : Nat) (s : State) : State :=
  runInstr f 5 (fun s =>
    let w := s.instrWord f 0
    flowEnded f ((sendSig (bits w 4 1 == 1) (bits w 8 5) s).setFlowState f 4)) s

/-- END (R313). -/
def execEnd (f : Fin 8192) (s : State) : Host.Outcome State Fault Refusal := .next (dmaEnd f s)

/-- FETCH_FAILURE (R308): the fetch fails; an opcode that names no instruction ends the flow the same way with cause ENCODING
(R309). -/
def fetchFailure (f : Nat) (s : State) : State :=
  let r := parkIfBlocked f s
  if r.1 then r.2
  else if s.flowState f ≠ 1 ∨ (s.flow f).mv.isSome ∨ (s.flow f).park.isSome ∨ s.fetchWaits f then s
  else
    let s := fetch f s
    match s.opcode f with
    | none => flowError f 0x0F s
    | some op => if op = 0 ∨ 5 < op then flowError f 0x07 s else s

def execFetchFailure (f : Fin 8192) (s : State) : Host.Outcome State Fault Refusal := .next (fetchFailure f s)

/-! ### Commands (R306, R324, R325, R327) -/

/-- START (R306, R460). -/
def flowStart (f : Nat) (s : State) : State :=
  let s := s.setFlowPc f (s.rd64 (Reg.DMA_F_ENTRY_LO f))
  let s := ((s.wr (Reg.DMA_F_LOOP_A f) 0#32).wr (Reg.DMA_F_LOOP_B f) 0#32).put (Reg.DMA_F_STATUS f) F.DMA_F_STATUS_LOOPACT 0
  (parkIfBlocked f ((s.setFlow f {}).setFlowState f 1)).2

/-- Bursts in flight complete, up to one that fails; the MOVE as far as they took it. -/
def drainBursts : List Nat → DmaMove → State → DmaMove × State
  | [], v, s => (v, s)
  | n :: t, v, s =>
    if s.burstCause v n ≠ 0 then (v, s)
    else
      let r := doBurst v n s
      drainBursts t r.1 r.2

/-- The flow's bursts in flight complete (R318, R324), its executing MOVE is written BAD with `cause`, and the flow becomes IDLE
(R305). -/
def flowIdle (f cause : Nat) (s : State) : State :=
  if s.flowActive f = false then s
  else
    let s := match (s.flow f).mv with
      | none => s
      | some v => (fun r : DmaMove × State => (endMove f cause r.1.done r.1 r.2).setFlowPc f v.pc) (drainBursts (s.flightsOf f) v s)
    ((s.setFlow f {}).setFlowState f 0)

/-- STOP (R324). -/
def flowStop (f : Nat) (s : State) : State := if s.flowActive f then flowEnded f (flowIdle f 0x0B s) else s

/-- A parked flow resumes (R325). -/
def flowResume (f : Nat) (s : State) : State :=
  (s.setFlow f { s.flow f with needs := [], park := none, ahead := none }).setFlowState f 1

/-- Every domain that a parked flow needs is ON. -/
def State.needsOn (s : State) (f : Nat) : Bool := (s.flow f).needs.all s.domOn

/-- A stimulus output restarts its flow (R305; 09 R238): as STOP and START, the cause being RESTARTED. -/
def flowRestart (f : Nat) (s : State) : State := if reservedFlow f then s else flowStart f (flowIdle f 0x0C s)

/-- A park request for a power-down of the listed domains (R325; 18 R459). -/
def parkRequest (l : List Nat) (s : State) (f : Nat) : State :=
  if s.flowState f = 1 ∨ s.flowState f = 2 then
    match (s.flow f).park with
    | none => s.setFlow f { s.flow f with park := some (l, s.rt) }
    | some (k, t) => s.setFlow f { s.flow f with park := some (k ++ l, t) }
  else s

/-- At the end of a control cycle the flows that are to park and have no burst in flight park (R325, R328). -/
def parkIdle (s : State) : State :=
  s.flows.foldl (fun s p =>
    match (s.flow p.1).park with
    | none => s
    | some (l, _) => if (s.flightsOf p.1).isEmpty then parkFlow p.1 l s else s) s

/-- The time for parking has run out: the MOVE ends with DOMAIN_LOST and the flow goes on (18 R459). -/
def parkLost (s : State) (f : Nat) : State :=
  match (s.flow f).park with
  | none => s
  | some _ =>
    let s := s.setFlow f { s.flow f with park := none }
    let s := s.bump Reg.PWR_LOSTCNT 1
    match (s.flow f).mv with
    | none => s
    | some v => finishMove f 0x0D v.done v s

/-- Flows that have a context in use: those whose status differs from its reset word. -/
def State.flowList (s : State) : List Nat :=
  (s.regs.filter (fun p => decide (Reg.DMA_F_STATUS 0 ≤ p.1) && decide (p.1 < Reg.DMA_F_STATUS 8192) &&
    decide ((p.1 - Reg.DMA_F_STATUS 0) % 0x40 = 0))).map (fun p => (p.1 - Reg.DMA_F_STATUS 0) / 0x40)

/-- Parked flows whose domains are all ON resume where AUTO_RESUME = 1 (R325; 18 R461). -/
def autoResume (s : State) : State :=
  s.flowList.foldl (fun s f =>
    if s.flowState f = 3 ∧ s.needsOn f ∧ (s.on (Reg.DMA_F_CTL f) F.DMA_F_CTL_AUTO_RESUME ∨ reservedFlow f) then flowResume f s
    else s) s

/-- The check of a write of DMA_CMD (R304, R325, R327). -/
def dmaCmdCheck (op f : Nat) (s : State) : WStat :=
  firstOf [(decide (3 < op) || reservedFlow f, .valueRefused),
    (op == 1 && s.flowActive f, .stateRefused),
    (op == 3 && s.flowState f == 3 && !s.needsOn f, .stateRefused)]

/-- An accepted write of DMA_CMD. -/
def dmaCmd (op f : Nat) (s : State) : State :=
  if op = 1 then flowStart f s
  else if op = 2 then flowStop f s
  else if op = 3 then (if s.flowState f = 3 then flowResume f s else s)
  else s

/-- A write of DMA_CMD. -/
def writeDmaCmd (op f : Nat) (s : State) : WStat × State := s.writeIf Reg.DMA_CMD (dmaCmdCheck op f s) (dmaCmd op f)

/-- DMA_START (R306). -/
def execDmaStart (f : Fin 8192) (s : State) : Host.Outcome State Fault Refusal := .next (writeDmaCmd 1 f s).2

/-- DMA_STOP (R324). -/
def execDmaStop (f : Fin 8192) (s : State) : Host.Outcome State Fault Refusal := .next (writeDmaCmd 2 f s).2

/-- DMA_RESUME (R325). -/
def execDmaResume (f : Fin 8192) (s : State) : Host.Outcome State Fault Refusal := .next (writeDmaCmd 3 f s).2

/-- A write of DMA_SEM_ADD (R304, R327). -/
def writeSemAdd (f n : Nat) (s : State) : WStat × State :=
  s.writeIf Reg.DMA_SEM_ADD (firstOf [(reservedFlow f, .valueRefused)]) (semAdd f n)

/-- SEM_ADD (R327). -/
def execSemAdd (f : Fin 8192) (n : BitVec 16) (s : State) : Host.Outcome State Fault Refusal := .next (writeSemAdd f n.toNat s).2

/-- DMA_BADCNT and every flow's BADCNT (R329). -/
def dmaCntClr (s : State) : State :=
  let s := s.clearCounts [Reg.DMA_BADCNT]
  let flow (a : Nat) : Bool := decide (Reg.DMA_F_BADCNT 0 ≤ a) && decide (a < Reg.DMA_F_BADCNT 8192) &&
    decide ((a - Reg.DMA_F_BADCNT 0) % 0x40 = 0)
  let s := { s with regs := s.regs.filter (fun p => !flow p.1) }
  s.clearCounts ((s.cycNow.counts.map (fun p => p.1)).filter flow)

/-- DMA_CNTCLR (R329). -/
def execDmaCntclr (s : State) : Host.Outcome State Fault Refusal := .next (dmaCntClr s)

/-- Bursts in flight (R318, R326, R329). -/
def State.slots (s : State) : Nat := s.dma.flights.length

/-- DMA_STATUS as it reads (R329). -/
def State.dmaStatus (s : State) : Nat := 65536 * s.flowList.countP s.flowActive + s.slots

/-- The check of a write of a DMA register (R306, R327, R330). -/
def dmaCheck (a : Nat) (v : Word) (s : State) : WStat :=
  if a = Reg.DMA_CMD then dmaCmdCheck (fldGet F.DMA_CMD_OP v) (fldGet F.DMA_CMD_FLOW v) s
  else if a = Reg.DMA_SEM_ADD then firstOf [(reservedFlow (fldGet F.DMA_SEM_ADD_FLOW v), .valueRefused)]
  else if Reg.DMA_F_CTL 0 ≤ a then
    let f := (a - Reg.DMA_F_CTL 0) / 0x40
    if reservedFlow f then .ok
    else firstOf [
      (a == Reg.DMA_F_CTL f && decide (1 < fldGet F.DMA_F_CTL_PSPACE v), .valueRefused),
      (a == Reg.DMA_F_RING_SIZE f && (decide (v.toNat = 0) || decide (0x80000000 < v.toNat)), .valueRefused),
      (s.flowActive f, .gated)]
  else .ok

/-- An accepted write of a DMA register. -/
def dmaApply (a : Nat) (v : Word) (s : State) : State :=
  if a = Reg.DMA_CMD then dmaCmd (fldGet F.DMA_CMD_OP v) (fldGet F.DMA_CMD_FLOW v) s
  else if a = Reg.DMA_SEM_ADD then semAdd (fldGet F.DMA_SEM_ADD_FLOW v) (fldGet F.DMA_SEM_ADD_COUNT v) s
  else if a = Reg.DMA_CNTCLR then (if v.toNat % 2 = 1 then dmaCntClr s else s)
  else if Reg.DMA_F_CTL 0 ≤ a ∧ reservedFlow ((a - Reg.DMA_F_CTL 0) / 0x40) then s
  else s.applyFields a v

/-- A write of a register of the DMA block. -/
def writeDma (a : Nat) (v : Word) (s : State) : WStat × State := s.writeIf a (dmaCheck a v s) (dmaApply a v)

end Sys2Proof.Machine
end

