-- ==== Sys2Proof/Machine/Stim.lean ====
section
/-! DEFINITION. Stimulus outputs: enable, priming, commands, plays, underrun, registers (09_stimulus_and_timing_ports.md R230,
R238 to R243, R252). -/
namespace Sys2Proof.Machine

/-- The output's flow is restarted at its first instruction (R238; 12 R305). -/
def stoRestartFlow (n : Nat) (s : State) : State :=
  if s.get (Reg.STO_CTL n) F.STO_CTL_SRC = 0 then flowRestart (s.get (Reg.STO_FLOW n) F.STO_FLOW_FLOW) s else s

/-- Priming begins anew: the buffer is empty and the flow restarts. -/
def stoReprime (n : Nat) (s : State) : State :=
  let h := s.sto n
  stoRestartFlow n (s.setSto n { h with prime := [], base := 0, got := 0, flowEnd := false, missing := [] })

/-- Every output in PRIMING starts to prime: after relock, and when the stimulus domain is powered again (R243; 18 R461). -/
def stoReturn (s : State) : State :=
  (List.range 16).foldl (fun s n => if s.stoState n = 1 then stoReprime n s else s) s

/-- Every output moves to mid-scale, ending in PRIMING: loss of lock, STANDBY, domain power-down (R243). -/
def stoAllSafe (s : State) : State := (List.range 16).foldl (fun s n => stoSafe n 1 s) s

/-- ENABLE goes from 0 to 1: PRIMING; in device FAULT and while UNCONFIGURED the output stays OFF (R235, R238, R243). -/
def stoEnable (n : Nat) (s : State) : State :=
  if s.dev = devFault ∨ s.unconf then s
  else (s.setSto n { stoClear (s.sto n) with e1 := 0, e2 := 0 }).setStoState n 1

/-- PRIMING ends; while the sample synthesiser's lock is lost it does not (R238, R243). -/
def primeComplete (n : Nat) (s : State) : State :=
  let full := s.stoGen n || decide (s.primeNeed n ≤ (s.sto n).got)
  if s.stoState n = 1 ∧ full ∧ s.domOn domStim ∧ s.dev ≠ devStandby ∧ s.timebaseRuns then
    (s.setSto n { s.sto n with forced := false }).setStoState n 2
  else s

/-- PRIME_COMPLETE (R238). -/
def execPrimeComplete (n : Fin 16) (s : State) : Host.Outcome State Fault Refusal := .next (primeComplete n s)

/-- Command START (R230, R240). -/
def stoStart (n : Nat) (s : State) : State := stoAccept n (placeOf (s.now256 : Nat)) 0xFE s

/-- Command START_AT (R230). -/
def stoStartAt (n : Nat) (s : State) : State :=
  let t := s.rd64 (Reg.STO_AT_TS_LO n)
  if tickDiff t s.tick < (atTicks : Int) then (stoAccept n (placeOf (s.now256 : Nat)) 0xFD s).setFlag (Reg.STO_FLAGS n) F.STO_FLAGS_LATE
  else stoAccept n t 0xFD s

/-- Command STOP (R241): takes effect at round(*a* + *L*); a pending one stands. An output that is OFF has nothing to stop. -/
def stoStop (n : Nat) (s : State) : State :=
  let h := s.sto n
  if s.stoState n = 0 ∨ h.stopAt.isSome then s else s.setSto n { h with stopAt := some (placeOf (s.now256 : Nat)) }

/-- STO_START (R230). -/
def execStoStart (n : Fin 16) (s : State) : Host.Outcome State Fault Refusal :=
  .next (s.hostReg (Reg.STO_CMD n) (stoStart n s))

/-- START_AT (R230). -/
def execStartAt (n : Fin 16) (s : State) : Host.Outcome State Fault Refusal :=
  .next (s.hostReg (Reg.STO_CMD n) (stoStartAt n s))

/-- STO_STOP (R241). -/
def execStoStop (n : Fin 16) (s : State) : Host.Outcome State Fault Refusal :=
  .next (s.hostReg (Reg.STO_CMD n) (stoStop n s))

/-- The earliest play of a list. -/
def firstPlay : List Play → Option Play
  | [] => none
  | p :: t => match firstPlay t with
    | none => some p
    | some q => if tickBefore q.place p.place then some q else some p

/-- The next accepted play whose instant has come begins; the one before it is abandoned (R229, R240). -/
def playStart (n : Nat) (s : State) : State :=
  let h := s.sto n
  match firstPlay h.next with
  | none => s
  | some p =>
    if tickBefore s.tick p.place then s
    else s.setSto n { h with cur := some p, next := h.next.erase p, hold := none, stopped := none, ended := none }

/-- PLAY_START (R229). -/
def execPlayStart (n : Fin 16) (s : State) : Host.Outcome State Fault Refusal := .next (playStart n s)

/-- The play at the output ends (R238, R239). -/
def playEnd (n : Nat) (s : State) : State :=
  let h := s.sto n
  match h.cur with
  | none => s
  | some p =>
    match s.playEndAt n p with
    | none => s
    | some e =>
      if tickBefore s.tick e then s
      else
        let last := if s.stoLen n ≠ 0 then s.stoLen n else h.got
        let keep := s.on (Reg.STO_CTL n) F.STO_CTL_END && h.stopped.isNone && decide (0 < last)
        let hold := if keep then some (stoWord s n p ((last - 1 : Nat) : Int)) else none
        let s := s.setSto n { h with cur := none, stopped := none, hold := hold, ended := some p }
        if h.next.isEmpty = false then s
        else if s.rearms n then s.setStoState n 2
        else stoReprime n (s.setStoState n 1)

/-- PLAY_END (R239). -/
def execPlayEnd (n : Fin 16) (s : State) : Host.Outcome State Fault Refusal := .next (playEnd n s)

/-- A stop takes effect (R241): plays placed at or after it are cancelled; what has been triggered ends counted from it. -/
def stopEffect (n : Nat) (s : State) : State :=
  match (s.sto n).stopAt with
  | none => s
  | some st =>
    if tickBefore s.tick st then s
    else
      let before := (s.sto n).next.filter (fun p => tickBefore p.place st)
      let h := (before.foldl (fun s _ => playStart n s) s).sto n
      let late := h.next.filter (fun p => !tickBefore p.place st)
      let cur := match h.cur with
        | some p => some p
        | none => late.head?
      s.setSto n { h with stopAt := none, cur := cur, stopped := if cur.isSome || h.hold.isSome then some st else none,
                          next := h.next.filter (fun p => tickBefore p.place st) }

/-- STOP_TAKES_EFFECT (R241). -/
def execStopTakesEffect (n : Fin 16) (s : State) : Host.Outcome State Fault Refusal := .next (stopEffect n s)

/-- A due word that the flow has not delivered is replaced (R242). -/
def stoUnderrun (n : Nat) (s : State) : State :=
  match s.dueMissing n with
  | none => s
  | some j =>
    let s := s.setSto n { s.sto n with missing := (s.sto n).missing ++ [j] }
    stoBad n ((s.bump (Reg.STO_UNDERCNT n) 1).setFlag (Reg.STO_FLAGS n) F.STO_FLAGS_UNDERRUN)

/-- UNDERRUN (R242). -/
def execUnderrun (n : Fin 16) (s : State) : Host.Outcome State Fault Refusal := .next (stoUnderrun n s)

/-- The four counts (R252). -/
def stoCntClr (n : Nat) (s : State) : State :=
  s.clearCounts [Reg.STO_TRIGCNT n, Reg.STO_DROPCNT n, Reg.STO_UNDERCNT n, Reg.STO_SATCNT n]

/-- STO_CNTCLR (R252). -/
def execStoCntclr (n : Fin 16) (s : State) : Host.Outcome State Fault Refusal :=
  .next (s.hostReg (Reg.STO_CNTCLR n) (stoCntClr n s))

/-- A PULSE generator with the given period and width is illegal (R237). -/
def pulseBad (period width : Nat) : Bool := period == 0 || width == 0 || decide (period ≤ width)

/-- The word that a write would leave in a register. -/
def State.wouldBe (s : State) (a : Nat) (v : Word) : Word :=
  match rowOf a with
  | none => s.rd a
  | some r => mergeWord r (s.rd a) v

/-- The checks of a write of a STO register (R232, R233, R237, R252). -/
def stoCheck (n a : Nat) (v : Word) (s : State) : WStat :=
  let pulse := s.get (Reg.STO_GEN_CTL n) F.STO_GEN_CTL_TYPE == 3
  let freq := s.rn (Reg.STO_GEN_FREQ n)
  let phase := s.rn (Reg.STO_GEN_PHASE n)
  let running := s.unitRunning (Reg.STO_STATUS n)
  let changes := s.wouldBe a v != s.rd a && s.stoState n != 0
  if a = Reg.STO_CTL n then
    firstOf [
      (fldGet F.STO_CTL_NS v == 3 || decide (10 < fldGet F.STO_CTL_LOG2_I v) || decide (1 < fldGet F.STO_CTL_SRC v), .valueRefused),
      (running, .gated),
      ((s.wouldBe a v ||| 1#32) != (s.rd a ||| 1#32) && s.stoState n != 0, .stateRefused)]
  else if a = Reg.STO_FLOW n then
    firstOf [(reservedFlow (fldGet F.STO_FLOW_FLOW v), .valueRefused), (running, .gated), (changes, .stateRefused)]
  else if a = Reg.STO_GEN_CTL n then
    firstOf [(decide (4 < fldGet F.STO_GEN_CTL_TYPE v) || (fldGet F.STO_GEN_CTL_TYPE v == 3 && pulseBad freq phase), .valueRefused),
      (running, .gated), (changes, .stateRefused)]
  else if a = Reg.STO_GEN_FREQ n then
    firstOf [(pulse && pulseBad v.toNat phase, .valueRefused), (running, .gated), (changes, .stateRefused)]
  else if a = Reg.STO_GEN_PHASE n then
    firstOf [(pulse && pulseBad freq v.toNat, .valueRefused), (running, .gated), (changes, .stateRefused)]
  else if a = Reg.STO_LENGTH n ∨ a = Reg.STO_GEN_AMP n ∨ a = Reg.STO_GEN_RATE n then
    firstOf [(running, .gated), (changes, .stateRefused)]
  else if a = Reg.STO_CMD n then firstOf [(decide (3 < fldGet F.STO_CMD_OP v), .valueRefused)]
  else .ok

/-- An accepted write of STO_CTL. -/
def stoCtlApply (n : Nat) (v : Word) (s : State) : State :=
  let was := s.on (Reg.STO_CTL n) F.STO_CTL_ENABLE
  let s := s.applyFields (Reg.STO_CTL n) v
  let now := s.on (Reg.STO_CTL n) F.STO_CTL_ENABLE
  if now && !was then stoEnable n s
  else if now then s
  else stoOff n s

/-- An accepted write of a STO register. -/
def stoApply (n a : Nat) (v : Word) (s : State) : State :=
  if a = Reg.STO_CTL n then stoCtlApply n v s
  else if a = Reg.STO_CMD n then
    match fldGet F.STO_CMD_OP v with
    | 1 => stoStart n s
    | 2 => stoStartAt n s
    | 3 => stoStop n s
    | _ => s
  else if a = Reg.STO_CNTCLR n then (if v.toNat % 2 = 1 then stoCntClr n s else s)
  else s.applyFields a v

/-- A write of a register of STO[n]. -/
def writeSto (n a : Nat) (v : Word) (s : State) : WStat × State := s.writeIf a (stoCheck n a v s) (stoApply n a v)

/-- STO_ENABLE (R238): a write of STO_CTL that sets ENABLE. -/
def execStoEnable (n : Fin 16) (v : Word) (s : State) : Host.Outcome State Fault Refusal :=
  .next (s.hostReg (Reg.STO_CTL n) ((writeSto n (Reg.STO_CTL n) (v ||| 1#32) s).2))

/-- STO_DISABLE (R243): a write of STO_CTL that clears ENABLE. -/
def execStoDisable (n : Fin 16) (v : Word) (s : State) : Host.Outcome State Fault Refusal :=
  .next (s.hostReg (Reg.STO_CTL n) ((writeSto n (Reg.STO_CTL n) (v &&& ~~~ 1#32) s).2))

end Sys2Proof.Machine
end

