-- ==== Sys2Proof/Machine/Clock.lean ====
section
/-! DEFINITION. Clock synthesis: loss of sample-synthesiser lock, freeze, relock and release, reference control, the memory
loops, the host-link PLL, registers (10_clock_synthesis.md R254 to R275). -/
namespace Sys2Proof.Machine

/-- The shared timebase follows the clock (16 R412): on the root TB_ALIGNED is LOCKED; elsewhere it falls when the reference
leaves the chain. In STANDBY that raises no flag (R270). -/
def tbRefresh (s : State) : State :=
  let was := s.on Reg.CHN_STATUS F.CHN_STATUS_TB_ALIGNED
  let awake := s.dev != devStandby
  if s.on Reg.CHN_STATUS F.CHN_STATUS_ROOT then
    let now := s.on Reg.CKS_STATUS F.CKS_STATUS_LOCKED
    let s := s.put Reg.CHN_STATUS F.CHN_STATUS_TB_ALIGNED (b2n now)
    let s := s.setFlagIf (now && !was && awake) Reg.CHN_FLAGS F.CHN_FLAGS_ALIGNED
    s.setFlagIf (was && !now && awake) Reg.CHN_FLAGS F.CHN_FLAGS_ALIGN_LOST
  else if was && !s.on Reg.CKS_STATUS F.CKS_STATUS_ACTIVE_SRC then
    (s.put Reg.CHN_STATUS F.CHN_STATUS_TB_ALIGNED 0).setFlagIf awake Reg.CHN_FLAGS F.CHN_FLAGS_ALIGN_LOST
  else s

/-- Triggers that no group has taken at a loss of lock, and conditions still undelivered, are not accepted (06 R162, R163): their groups
go to FAULT, or run no longer. -/
def dropUndelivered (s : State) : State :=
  s.trigQ.foldl (fun s p =>
    let s := p.2.foldl (fun s t =>
      (s.bump (Reg.TRU_NACCCNT t.unit) 1).setFlag (Reg.TRU_FLAGS t.unit) F.TRU_FLAGS_NOT_ACCEPTED) s
    { s with trigQ := updateD (fun _ => []) s.trigQ p.1 [] }) (settleLost s)

/-- The outputs are held low by a loss or a relock, and not only for a step of the counter (R264; 16_eweone_chain.md R412). -/
def State.lossGated (s : State) : Bool := s.on Reg.CKS_STATUS F.CKS_STATUS_GATED && s.clk.stepHold.isNone

/-- *D* of a loss or of a commanded relock at the present tick (R265, R269, R270). A relock commanded between a *D* and its *G*
leaves them, and the tags of the words between them, as they are. -/
def spllDrop (commanded : Bool) (s : State) : State :=
  let frozen := s.on Reg.CKS_STATUS F.CKS_STATUS_FROZEN
  let g := if frozen then s.tick else nextBoundary s.tick
  let s := s.put Reg.CKS_STATUS F.CKS_STATUS_LOCKED 0
  let s := s.put Reg.CKS_STATUS F.CKS_STATUS_RELOCKING 1
  let held := frozen || s.lossGated || !s.clk.released
  let d := if held then none else some (s.clk.lossD.getD s.tick)
  let flt := !commanded || (s.clk.lossD.isSome && s.clk.lossFlt)
  let s := { s with clk := { s.clk with lossD := d, lossFlt := flt, lossRt := s.rt, runRt := s.rt, timedOut := false } }
  if s.dev = devStandby then tbRefresh s
  else
    let s := (List.range 16).foldl (fun s k => faultGroup k 4 ((g * 256 : Nat) : Int) s) s
    let s := stoAllSafe s
    let s := (List.range 16).foldl (fun s p => abandonTrains p s) s
    let s := (List.range 16).foldl (fun s q => abandonStep q s) s
    tbRefresh (dropUndelivered (pcvLockLost s))

/-- With SRC = CHAIN, FALLBACK = 1 and no chain reference the loop relocks to REFCLK (R268); in STANDBY no flag sets (R270). -/
def fallBack (s : State) : State :=
  if s.on Reg.CKS_REF_CTL F.CKS_REF_CTL_SRC ∧ s.on Reg.CKS_REF_CTL F.CKS_REF_CTL_FALLBACK ∧
      s.on Reg.CKS_STATUS F.CKS_STATUS_CHREF_OK = false then
    tbRefresh ((s.put Reg.CKS_STATUS F.CKS_STATUS_ACTIVE_SRC 0).setFlagIf (s.dev != devStandby) Reg.CKS_FLAGS F.CKS_FLAGS_REF_FALLBACK)
  else s

/-- What is known of REFCLK, with REF_OK, which tells whether it lies at the frequency that REFSEL names (R261). -/
def setRefNow (x : Option Nat) (s : State) : State :=
  State.put { s with clk := { s.clk with refNow := x } } Reg.CKS_STATUS F.CKS_STATUS_REF_OK
    (b2n (x == some (s.get Reg.CKS_REF_CTL F.CKS_REF_CTL_REFSEL)))

/-- The period of the reference in use, in ticks (R254). -/
def State.refPeriod (s : State) : Nat :=
  if s.on Reg.CKS_STATUS F.CKS_STATUS_ACTIVE_SRC then 1024
  else match s.get Reg.CKS_REF_CTL F.CKS_REF_CTL_REFSEL with
    | 0 => 16384
    | 1 => 4096
    | 2 => 2048
    | _ => 1024

/-- The reference in use is missing or off frequency. -/
def refGone (s : State) : State :=
  if s.on Reg.CKS_STATUS F.CKS_STATUS_ACTIVE_SRC then s.put Reg.CKS_STATUS F.CKS_STATUS_CHREF_OK 0 else setRefNow none s

/-- What a loss outside STANDBY records (R265). -/
def recordLoss (back : Nat) (lost : Bool) (s : State) : State :=
  let s := s.wr64 Reg.CKS_LOSS_TS_LO ((s.tick + 2 ^ 64 - back) % 2 ^ 64)
  let s := (s.bump Reg.CKS_LOSSCNT 1).setFlag Reg.CKS_FLAGS F.CKS_FLAGS_SPLL_LOSS
  let s := s.setFlagIf lost Reg.CKS_FLAGS F.CKS_FLAGS_REF_LOST
  s.addLog 0x30 ((flagSource Reg.CKS_FLAGS F.CKS_FLAGS_SPLL_LOSS.lo).getD 0) (s.rn Reg.CKS_LOSSCNT) (s.rd64 Reg.CKS_LOSS_TS_LO)

/-- Loss of SPLL lock is declared (R265): its onset lies `back` ticks ago, at most the 16 reference cycles of R261; `lost` tells
that the reference was missing or off frequency. In STANDBY the loss freezes the counter and has no other effect (R270). -/
def spllLoss (back : Nat) (lost : Bool) (s : State) : State :=
  if s.on Reg.CKS_STATUS F.CKS_STATUS_LOCKED = false ∨ 16 * s.refPeriod < back then s
  else
    let s := if s.dev = devStandby then s else recordLoss back lost s
    fallBack (spllDrop false (if lost then refGone s else s))

/-- SPLL_LOSS (R265). -/
def execSpllLoss (back : BitVec 24) (lost : Bool) (s : State) : Host.Outcome State Fault Refusal :=
  .next (spllLoss back.toNat lost s)

/-- A running port's stream ends at *G*; the port goes on at *G* + 8,192 with GAP (R265, R267). -/
def freezePort (g : Nat) (s : State) (n : Nat) : State :=
  let h := s.fch n
  if s.fchState n ≠ 2 ∨ h.stopping then s
  else (s.setFch n { h with nextFrame := (g + 8192) % 2 ^ 64, gapFirst := true, hold := false, holdTo := none }).publish n .endStream

/-- A pending snapshot is cancelled (19 R478); `tell`: the flag sets, as it does not at a loss of lock in STANDBY (R270). -/
def snapCancel (tell : Bool) (s : State) : State :=
  if s.get Reg.MON_SNAP_STAT F.MON_SNAP_STAT_STATE = 1 then
    let s := s.configured.foldl (fun s c => s.put (Reg.MON_CNT_SNAP_HI c) F.MON_CNT_SNAP_HI_VALID 0) s
    (s.put Reg.MON_SNAP_STAT F.MON_SNAP_STAT_STATE 3).setFlagIf tell Reg.MON_FLAGS F.MON_FLAGS_SNAP_CANCELLED
  else s

/-- The nine outputs are held low or run (R257, R265). -/
def gateOuts (g : Bool) (s : State) : State := (List.range 9).foldl (fun s o => s.put (Reg.CKS_OUT o) F.CKS_OUT_GATED (b2n g)) s

/-- A step of the counter holds the outputs low for 1,024 ticks (R263; 16_eweone_chain.md R412). -/
def holdOuts (s : State) : State :=
  gateOuts true (State.put { s with clk := { s.clk with stepHold := some (s.rt + 1024) } } Reg.CKS_STATUS F.CKS_STATUS_GATED 1)

/-- They are released once that time is over. -/
def holdOver (s : State) : State :=
  match s.clk.stepHold with
  | none => s
  | some t =>
    if s.rt < t then s
    else gateOuts false (State.put { s with clk := { s.clk with stepHold := none } } Reg.CKS_STATUS F.CKS_STATUS_GATED 0)

/-- MREF goes low under an MDLL that is acquiring lock to it: under AUTO it goes on to the HKO, and with MREF = SPLL it waits for
MREF (R259, R272). -/
def mrefGone (s : State) (m : Nat) : State :=
  if s.mdllState m ≠ 1 ∨ (s.mdll m).hko then s
  else if s.get (Reg.CKS_MDLL_CTL m) F.CKS_MDLL_CTL_MREF = 1 then s.setMdllState m 4
  else
    let s := s.setMdllState m 1
    s.setMdll m { s.mdll m with hko := true }

/-- The tick counter freezes at *G* (R265), once the frame that ends there has been handed over. -/
def freezeAt (g : Nat) (conv : List (Nat × List Sample)) (s : State) : State :=
  let s := if (s.lastFrame + frameTicks) % 2 ^ 64 = g then frameBoundary conv s else s
  if tickBefore s.lastFrame g then s
  else
    let s := (s.wr64 Reg.CKS_FREEZE_TS_LO g).put Reg.CKS_STATUS F.CKS_STATUS_FROZEN 1
    let s := (List.range 8).foldl mrefGone (gateOuts true (s.put Reg.CKS_STATUS F.CKS_STATUS_GATED 1))
    let s := { s with clk := { s.clk with lossD := none, lossFlt := false, freezeRt := s.rt, stepHold := none } }
    let s := snapCancel (s.dev != devStandby) ((List.range 16).foldl (freezePort g) s)
    drainEnds ((List.range 16).foldl (fun s p => s.setTpt p { s.tpt p with gapBefore := true }) s)

/-- TIMEBASE_FREEZE (R265); before the frame boundary *G* that follows a loss is reached there is no effect. -/
def timebaseFreeze (conv : List (Nat × List Sample)) (s : State) : State :=
  match s.clk.lossD with
  | none => s
  | some d => if tickBefore s.tick (nextBoundary d) then s else freezeAt (nextBoundary d) conv s

def execTimebaseFreeze (conv : List (Nat × List Sample)) (s : State) : Host.Outcome State Fault Refusal :=
  .next (timebaseFreeze conv s)

/-- REFCLK, where it is the reference, is known to lie at another frequency than REFSEL names, and the SPLL does not lock to it
(R261). -/
def State.refOff (s : State) : Bool :=
  !s.on Reg.CKS_STATUS F.CKS_STATUS_ACTIVE_SRC &&
    (match s.clk.refNow with
      | some r => r != s.get Reg.CKS_REF_CTL F.CKS_REF_CTL_REFSEL
      | none => false)

/-- REFCLK, where it is the reference, is missing (R274). -/
def State.refMissing (s : State) : Bool :=
  !s.on Reg.CKS_STATUS F.CKS_STATUS_ACTIVE_SRC && s.on Reg.CKS_STATUS F.CKS_STATUS_HL_HOLDOVER

/-- The SPLL declares lock, after 4,096 good cycles of its reference (R262): not before stage CLOCKS of boot, nor before the
outputs are gated. -/
def spllLock (s : State) : State :=
  let stage := s.get Reg.DEV_BOOT_STAT F.DEV_BOOT_STAT_STAGE
  if s.on Reg.CKS_STATUS F.CKS_STATUS_LOCKED ∨ stage < 3 ∨ stage = 0xFF ∨
      (s.clk.released ∧ s.lossGated = false) ∨ s.refOff ∨ s.refMissing ∨ s.rt < s.clk.runRt + 4096 * s.refPeriod then s
  else
    let s := if s.on Reg.CKS_STATUS F.CKS_STATUS_ACTIVE_SRC then s.put Reg.CKS_STATUS F.CKS_STATUS_CHREF_OK 1
      else setRefNow (some (s.get Reg.CKS_REF_CTL F.CKS_REF_CTL_REFSEL)) s
    let s := s.put Reg.CKS_STATUS F.CKS_STATUS_LOCKED 1
    tbRefresh { s with clk := { s.clk with lockRt := s.rt } }

/-- SPLL_LOCK (R262). -/
def execSpllLock (s : State) : Host.Outcome State Fault Refusal := .next (spllLock s)

/-- Availability: a port that was running adds the freeze, in frames rounded up, to both counts (19 R483). -/
def freezeAccount (frames : Nat) (s : State) (n : Nat) : State :=
  if s.fchState n = 2 then (s.avUp n frames).avDown n frames else s

/-- MREF returns: MDLLs that wait for it count their budget from here (R272), and one that is acquiring lock to it counts its good cycles
from here (R262). -/
def mrefBack (s : State) (m : Nat) : State :=
  if s.mdllState m = 1 ∧ (s.mdll m).hko = false then s.setMdllState m 1
  else if s.mdllState m = 4 ∧ s.get (Reg.CKS_MDLL_CTL m) F.CKS_MDLL_CTL_MREF = 1 then s.setMdll m { s.mdll m with budget := s.rt } else s

/-- The SPLL outputs are released (R264, R267, R275). Words named before the loss that chains and trigger units have still to take are
taken first, so that what they bring about meets a lost timebase (06 R163). -/
def spllRelease (s : State) : State :=
  let held := s.lossGated || !s.clk.released
  if s.on Reg.CKS_STATUS F.CKS_STATUS_LOCKED = false ∨ held = false ∨ s.rt < s.clk.lockRt + 256 * s.refPeriod then s
  else
    let s := (settleLost (takeWords s)).put Reg.CKS_STATUS F.CKS_STATUS_GATED 0
    let s := (s.put Reg.CKS_STATUS F.CKS_STATUS_FROZEN 0).put Reg.CKS_STATUS F.CKS_STATUS_RELOCKING 0
    let s := gateOuts false s
    if s.clk.released = false then { s with tick := 0, lastFrame := 0, clk := { s.clk with released := true, relRt := s.rt } }
    else
      let dur := s.rt - s.clk.freezeRt
      let s := (s.wn Reg.CKS_EPOCH (s.rn Reg.CKS_EPOCH + 1)).wn Reg.CKS_FREEZE_US (min 0xFFFFFFFF (dur / 16384))
      let s := (List.range 8).foldl mrefBack s
      if s.dev = devStandby then s
      else pcvRelocked (stoReturn ((List.range 16).foldl (freezeAccount ((dur + 1023) / 1024)) s))

/-- SPLL_RELEASE (R267). -/
def execSpllRelease (s : State) : Host.Outcome State Fault Refusal := .next (spllRelease s)

/-- 10 ms without lock (R262); in STANDBY no flag sets (R270). -/
def relockTimeout (s : State) : State :=
  if s.dev ≠ devStandby ∧ s.on Reg.CKS_STATUS F.CKS_STATUS_LOCKED = false ∧ s.on Reg.CKS_STATUS F.CKS_STATUS_RELOCKING ∧ s.clk.timedOut = false ∧
      s.clk.lossRt + 10000 * tickUs ≤ s.rt then
    { s with clk := { s.clk with timedOut := true } }.setFlag Reg.CKS_FLAGS F.CKS_FLAGS_RELOCK_TIMEOUT
  else s

/-- RELOCK_TIMEOUT (R262). -/
def execRelockTimeout (s : State) : Host.Outcome State Fault Refusal := .next (relockTimeout s)

/-- A commanded relock to the source that SRC names (R269, R271), or to REFCLK under FALLBACK (R268). -/
def commandedRelock (s : State) : State :=
  let src := s.get Reg.CKS_REF_CTL F.CKS_REF_CTL_SRC
  let s := spllDrop true { s with clk := { s.clk with chainMoved := true } }
  fallBack (tbRefresh (s.put Reg.CKS_STATUS F.CKS_STATUS_ACTIVE_SRC src))

/-- Command MREF_RETURN (R273). One that finds another under way goes on with every other channel in index order from the present one
(DEDUCED, log 139). -/
def mrefReturn (s : State) : State :=
  if s.on Reg.CKS_STATUS F.CKS_STATUS_LOCKED = false ∨ s.anyOnHko = false then s
  else
    match s.clk.mrefQ, s.mrefBusy with
    | k :: _, true => { s with clk := { s.clk with mrefQ := k :: ((List.range 8).filter (fun m => decide (k < m)) ++ List.range k) } }
    | _, _ => mrefNext (List.range 8) s

/-- The check of a write of CKS_CMD (R269, R275). -/
def cksCmdCheck (op : Nat) (s : State) : WStat := firstOf [(op == 3, .valueRefused), (op == 1 && s.anyRunning, .gated)]

/-- An accepted write of CKS_CMD. -/
def cksCmd (op : Nat) (s : State) : State := if op = 1 then commandedRelock s else if op = 2 then mrefReturn s else s

/-- A write of CKS_CMD. -/
def writeCksCmd (op : Nat) (s : State) : WStat × State := s.writeIf Reg.CKS_CMD (cksCmdCheck op s) (cksCmd op)

/-- RELOCK (R269). -/
def execRelock (s : State) : Host.Outcome State Fault Refusal := .next (writeCksCmd 1 s).2

/-- MREF_RETURN (R273). -/
def execMrefReturn (s : State) : Host.Outcome State Fault Refusal := .next (writeCksCmd 2 s).2

/-- A write changes SRC or REFSEL (R269). -/
def refMoves (v : Word) (s : State) : Bool :=
  fldGet F.CKS_REF_CTL_SRC v != s.get Reg.CKS_REF_CTL F.CKS_REF_CTL_SRC ||
    fldGet F.CKS_REF_CTL_REFSEL v != s.get Reg.CKS_REF_CTL F.CKS_REF_CTL_REFSEL

/-- An accepted write of CKS_REF_CTL (R269, R271). -/
def refCtlApply (v : Word) (s : State) : State :=
  let moves := refMoves v s
  let s := s.applyFields Reg.CKS_REF_CTL v
  let s := setRefNow s.clk.refNow { s with clk := { s.clk with chainMoved := true } }
  if moves then commandedRelock s else s

/-- A write of CKS_REF_CTL. -/
def writeRefCtl (v : Word) (s : State) : WStat × State :=
  s.writeIf Reg.CKS_REF_CTL (firstOf [(refMoves v s && s.anyRunning, .gated)]) (refCtlApply v)

/-- REF_CTL_WRITE (R269). -/
def execRefCtlWrite (v : Word) (s : State) : Host.Outcome State Fault Refusal := .next (writeRefCtl v s).2

/-- CHAIN_REFERENCE_MOVE (R271): the one relock to the chain after each reset of the CKS block, when it is due. -/
def chainMove (s : State) : State :=
  if s.clk.chainMoved = false ∧ s.clk.released ∧ s.on Reg.CKS_REF_CTL F.CKS_REF_CTL_SRC ∧
      s.on Reg.CKS_STATUS F.CKS_STATUS_CHREF_OK ∧ s.anyRunning = false then
    commandedRelock s
  else s

def execChainReferenceMove (s : State) : Host.Outcome State Fault Refusal := .next (chainMove s)

/-- The check of a write of CKS_MDLL*m*_CTL (R258, R259, R273, R275). -/
def mdllCtlCheck (m : Nat) (v : Word) (s : State) : WStat :=
  let mult := fldGet F.CKS_MDLL_CTL_MULT v
  let mx := fldGet F.CKS_MDLL_CTL_MAXMULT v
  let mref := fldGet F.CKS_MDLL_CTL_MREF v
  let a := Reg.CKS_MDLL_CTL m
  let moves := mult != s.get a F.CKS_MDLL_CTL_MULT || mref != s.get a F.CKS_MDLL_CTL_MREF
  let idle := s.phase m == phSr || s.phase m == phOff || (s.phase m == phFault && !(s.mch m).wasReady)
  firstOf [
    (!legalMult mult || !legalMult mx || mref == 3 || decide (mx < mult) || decide ((s.mch m).maxLoaded < mx), .valueRefused),
    (moves && !idle, .stateRefused)]

/-- An accepted write of CKS_MDLL*m*_CTL: a change of multiplier or reference relocks the loop (R264, R273). In a holdover the sequence
of R272 goes on with that relock. -/
def mdllCtlApply (m : Nat) (v : Word) (s : State) : State :=
  let a := Reg.CKS_MDLL_CTL m
  let old := s.rd a
  let s := showCeil (s.applyFields a v)
  let mref := s.get a F.CKS_MDLL_CTL_MREF
  let oldRef := fldGet F.CKS_MDLL_CTL_MREF old
  let moves := fldGet F.CKS_MDLL_CTL_MULT old != s.get a F.CKS_MDLL_CTL_MULT || oldRef != mref
  if moves && s.mdllState m != 0 then
    let s := s.setMdllState m 1
    let held := s.phase m == phSr && (s.mch m).srCause == 4
    s.setMdll m { s.mdll m with budget := if held then (s.mdll m).budget else s.rt, plain := !held, toMref := false,
                                hko := s.takesHko m (oldRef == 0) }
  else s

/-- A write of CKS_MDLL*m*_CTL. -/
def writeMdllCtl (m : Nat) (v : Word) (s : State) : WStat × State :=
  s.writeIf (Reg.CKS_MDLL_CTL m) (mdllCtlCheck m v s) (mdllCtlApply m v)

/-- MDLL_CTL_WRITE (R273). -/
def execMdllCtlWrite (m : Fin 8) (v : Word) (s : State) : Host.Outcome State Fault Refusal := .next (writeMdllCtl m v s).2

/-- MDLL *m* loses lock (R272), whose declaration may also fall before its clock is released. -/
def mdllLoss (m : Nat) (s : State) : State :=
  if s.mdllState m ≠ 2 ∧ s.mdllState m ≠ 3 then s
  else
    let a := Reg.CKS_MDLL_STAT m
    let s := s.bumpFld a F.CKS_MDLL_STAT_LOSSCNT 1
    let s := s.setFlag Reg.CKS_FLAGS F.CKS_FLAGS_MDLL_LOSS
    mdllHoldover m (s.setMdll m { s.mdll m with toMref := false })

/-- MDLL_LOSS (R272). -/
def execMdllLoss (m : Fin 8) (s : State) : Host.Outcome State Fault Refusal := .next (mdllLoss m s)

/-- The reference that a relock after holdover takes (R259, R272, R273): the HKO or not; none while it must wait. -/
def State.relockRef (s : State) (m : Nat) : Option Bool :=
  match s.get (Reg.CKS_MDLL_CTL m) F.CKS_MDLL_CTL_MREF with
  | 2 => some true
  | 1 => if s.mrefGood then some false else none
  | _ =>
    if (s.mdll m).toMref ∧ s.mrefGood then some false
    else some (s.on (Reg.CKS_MDLL_STAT m) F.CKS_MDLL_STAT_ON_HKO || !s.mrefGood)

/-- The 2 µs of holdover end and the loop relocks (R272). -/
def mdllHoldoverEnd (m : Nat) (s : State) : State :=
  if s.mdllState m ≠ 4 ∨ s.rt < (s.mdll m).since + 2 * tickUs then s
  else match s.relockRef m with
    | none => s
    | some hko =>
      let s := s.setMdllState m 1
      s.setMdll m { s.mdll m with hko := hko, toMref := false }

/-- MDLL_HOLDOVER_END (R272). -/
def execMdllHoldoverEnd (m : Fin 8) (s : State) : Host.Outcome State Fault Refusal := .next (mdllHoldoverEnd m s)

/-- MDLL *m* declares lock, after 1,024 good cycles of its 40 MHz reference (R262): 4,194,304 ticks. -/
def mdllLock (m : Nat) (s : State) : State :=
  if s.mdllState m = 1 ∧ ((s.mdll m).hko ∨ s.mrefGood) ∧ (s.mdll m).since + 4194304 ≤ s.rt then
    (s.put (Reg.CKS_MDLL_STAT m) F.CKS_MDLL_STAT_ON_HKO (b2n (s.mdll m).hko)).setMdllState m 2
  else s

/-- MDLL_LOCK (R262). -/
def execMdllLock (m : Fin 8) (s : State) : Host.Outcome State Fault Refusal := .next (mdllLock m s)

/-- The clock is released after 256 cycles of its reference, 6.4 µs, and the reduced retrain begins (R264, R272). -/
def mdllRelease (m : Nat) (s : State) : State :=
  if s.mdllState m ≠ 2 ∨ s.rt < (s.mdll m).since + 1048576 then s
  else
    let s := s.setMdllState m 3
    if (s.mdll m).plain ∨ s.phase m ≠ phSr ∨ (s.mch m).srCause ≠ 4 then s
    else srRetrain m false s

/-- MDLL_RELEASE (R264). -/
def execMdllRelease (m : Fin 8) (s : State) : Host.Outcome State Fault Refusal := .next (mdllRelease m s)

/-- The budget of R272 is exceeded. -/
def State.mdllLate (s : State) (m : Nat) : Bool :=
  !(s.mdll m).plain && decide ((s.mdll m).budget + 150 * tickUs < s.rt) &&
    (s.phase m == phRetrain || (s.phase m == phSr && (s.mch m).srCause == 4)) &&
    (s.mdllState m != 4 || (s.relockRef m).isSome)

/-- MDLL_FAIL (R272). -/
def mdllFail (m : Nat) (s : State) : State :=
  if s.mdllLate m = false then s
  else
    let s := s.setFlag Reg.CKS_FLAGS F.CKS_FLAGS_MDLL_FAIL
    let s := s.addLog 0x31 ((flagSource Reg.CKS_FLAGS F.CKS_FLAGS_MDLL_FAIL.lo).getD 0) m 0
    mrefDone (channelFault m 4 s)

def execMdllFail (m : Fin 8) (s : State) : Host.Outcome State Fault Refusal := .next (mdllFail m s)

/-- REFCLK is lost: the host-link PLL enters holdover (R274). -/
def hlHoldover (s : State) : State :=
  if s.on Reg.CKS_STATUS F.CKS_STATUS_HL_HOLDOVER then s
  else
    (setRefNow none (s.put Reg.CKS_STATUS F.CKS_STATUS_HL_HOLDOVER 1)).setFlag Reg.CKS_FLAGS F.CKS_FLAGS_HL_HOLDOVER

/-- HL_HOLDOVER (R274). -/
def execHlHoldover (s : State) : Host.Outcome State Fault Refusal := .next (hlHoldover s)

/-- REFCLK returns at the frequency that the host-link PLL took, and that PLL relocks without loss of the link (R271, R274). A loop that
acquires lock to REFCLK counts its good cycles from here (R262). -/
def hlRelock (s : State) : State :=
  if s.on Reg.CKS_STATUS F.CKS_STATUS_HL_HOLDOVER then
    let s := setRefNow (some s.clk.hlRef) (s.put Reg.CKS_STATUS F.CKS_STATUS_HL_HOLDOVER 0)
    if s.on Reg.CKS_STATUS F.CKS_STATUS_ACTIVE_SRC then s else { s with clk := { s.clk with runRt := s.rt } }
  else s

/-- HL_RELOCK (R274). -/
def execHlRelock (s : State) : Host.Outcome State Fault Refusal := .next (hlRelock s)

/-- A write of a register of the CKS block. -/
def writeCks (a : Nat) (v : Word) (s : State) : WStat × State :=
  if a = Reg.CKS_REF_CTL then writeRefCtl v s
  else if a = Reg.CKS_CMD then writeCksCmd (fldGet F.CKS_CMD_OP v) s
  else if Reg.CKS_MDLL_CTL 0 ≤ a ∧ a ≤ Reg.CKS_MDLL_CTL 7 then writeMdllCtl ((a - Reg.CKS_MDLL_CTL 0) / 4) v s
  else s.writeIf a .ok (fun s => s.applyFields a v)

end Sys2Proof.Machine
end

