-- ==== Sys2Proof/Machine/Compress.lean ====
section
/-! DEFINITION. Record compression: the stream format, jobs, chunks of block reads, registers (13_compression.md R331 to
R347). -/
namespace Sys2Proof.Machine

/-! ### The stream format (R334 to R340) -/

/-- Bits of a stored sample, and width *w* of a sample value (R336). -/
def elemBits (e : Nat) : Nat := [12, 18, 24].getD e 24
def elemWidth (e : Nat) : Nat := [12, 18, 18].getD e 18

/-- Stored sample `i` of a byte string read as one little-endian bit string (R86, R87). -/
def storedAt (e : Nat) (str : Nat) (i : Nat) : Nat := str / 2 ^ (elemBits e * i) % 2 ^ elemBits e

/-- Value and tag bits of a stored sample. -/
def sampleVal (e x : Nat) : Int := if e = 2 then sext 18 (x / 64) else sext (elemWidth e) x
def sampleTag (e x : Nat) : Nat := if e = 2 then x % 64 else 0

/-- The codec state of R338. -/
structure Codec where
  x1 : Int := 0
  x2 : Int := 0
  k  : Nat := 0
  deriving DecidableEq, Repr

/-- The coding of one sample: field value, field bits, next state (R338). -/
def codeSample (w mode : Nat) (c : Codec) (x : Int) : Nat × Nat × Codec :=
  let p : Int := if mode = 0 then 0 else if mode = 1 then c.x1 else 2 * c.x1 - c.x2
  let r := sext w (unsx w (x - p))
  let u := (if r ≥ 0 then 2 * r else -2 * r - 1).toNat
  let q := u / 2 ^ c.k
  let k := if q ≥ 2 ∧ c.k < w - 1 then c.k + 1 else if c.k > 0 ∧ u < 2 ^ (c.k - 1) then c.k - 1 else c.k
  let f := if q < 16 then (2 ^ q - 1 + u % 2 ^ c.k * 2 ^ (q + 1), q + 1 + c.k) else (2 ^ 16 - 1 + u * 2 ^ 16, 16 + w)
  (f.1, f.2, ⟨x, c.x1, k⟩)

/-- The bit string of a run of samples, as a number and its length, and the state after it. -/
def codeSamples (w mode : Nat) : List Int → Nat × Nat → Codec → (Nat × Nat) × Codec
  | [], acc, c => (acc, c)
  | x :: t, acc, c =>
    let f := codeSample w mode c x
    codeSamples w mode t (acc.1 + f.1 * 2 ^ acc.2, acc.2 + f.2.1) f.2.2

/-- The candidates of R339, in order of preference at equal length: KVAL of KSET = 1, and MODE. -/
def candidates (w : Nat) : List (Option Nat × Nat) :=
  (List.range 3).map (fun m => (none, m)) ++
    (List.range 3).flatMap (fun m => (List.range w).map (fun k => (some k, m)))

/-- A coded group under a candidate: its bytes and the state after it (R337). -/
def codeGroupAs (e : Nat) (vals : List Int) (tags : List Nat) (c : Codec) (cand : Option Nat × Nat) : List Byte × Codec :=
  let w := elemWidth e
  let c := match cand.1 with
    | none => c
    | some k => { c with k := k }
  let same := tags.all (fun t => t == tags.headD 0)
  let pre := if e = 2 ∧ same = false then (ofLeBits tags, 6 * tags.length) else (0, 0)
  let r := codeSamples w cand.2 vals pre c
  let h := cand.2 * 64 + (match cand.1 with
    | none => 0
    | some k => 32 + k)
  let t := if e ≠ 2 then [] else if same then [BitVec.ofNat 8 (128 + tags.headD 0)] else [0#8]
  (BitVec.ofNat 8 h :: t ++ leBytes ((r.1.2 + 7) / 8) r.1.1, r.2)
where
  /-- Tag bits of the samples in order, 6 bits each. -/
  ofLeBits : List Nat → Nat
    | [] => 0
    | t :: r => t % 64 + 64 * ofLeBits r

/-- The shortest of a list of coded groups, the first at equal length. -/
def shortest : List (List Byte × Codec) → Option (List Byte × Codec)
  | [] => none
  | g :: t => match shortest t with
    | none => some g
    | some b => if b.1.length < g.1.length then some b else some g

/-- A group as R339 codes it: bytes, state, whether it is verbatim. -/
def codeGroup (e n : Nat) (input : List Byte) (c : Codec) : List Byte × Codec × Bool :=
  let str := ofLe input
  let xs := (List.range n).map (storedAt e str)
  let vals := xs.map (sampleVal e)
  let verb := 0xC0#8 :: input
  let last (i : Nat) : Int := vals.getD (n - i) 0
  let vst : Codec := ⟨last 1, if n = 1 then c.x1 else last 2, c.k⟩
  match shortest ((candidates (elemWidth e)).map (codeGroupAs e vals (xs.map (sampleTag e)) c)) with
  | none => (verb, vst, true)
  | some g => if g.1.length < verb.length then (g.1, g.2, false) else (verb, vst, true)

/-- Bytes of `n` samples of a format. -/
def elemBytes (e n : Nat) : Nat := elemBits e * n / 8

/-- The stream header and trailer (R335). -/
def streamHeader (e n : Nat) : List Byte := leBytes 2 0x5A43 ++ [0x01#8, BitVec.ofNat 8 e] ++ leBytes 4 n
def streamTrailer (crc vg : Nat) : List Byte := leBytes 4 (Nat.xor crc 0xFFFFFFFF) ++ leBytes 4 vg

/-- The groups and the trailer of a whole input; `fuel` bounds the groups. -/
def codeAll (e : Nat) : Nat → Nat → List Byte → Codec → Nat → Nat → List Byte
  | 0, _, _, _, crc, vg => streamTrailer crc vg
  | f + 1, n, input, c, crc, vg =>
    if n = 0 then streamTrailer crc vg
    else
      let m := min 64 n
      let b := elemBytes e m
      let g := codeGroup e m (input.take b) c
      g.1 ++ codeAll e f (n - m) (input.drop b) g.2.1 ((input.take b).foldl crc32Byte crc) (vg + b2n g.2.2)

/-- The stream of an input of `n` samples (R334). -/
def codeStream (e n : Nat) (input : List Byte) : List Byte := streamHeader e n ++ codeAll e (n / 64 + 1) n input {} 0xFFFFFFFF 0

/-! ### Jobs (R331 to R344) -/

def State.cmp (s : State) (n : Nat) : CmpHid := lookupD (fun _ => {}) s.cmps n
def State.setCmp (s : State) (n : Nat) (x : CmpHid) : State := { s with cmps := updateD (fun _ => {}) s.cmps n x }

/-- The engine works on a job or a chunk. -/
def State.cmpBusy (s : State) (n : Nat) : Bool := (s.cmp n).run.isSome || (s.cmp n).coding.isSome

/-- CMP_STATUS and CMP_CUR follow the engine (R347). -/
def cmpShow (n : Nat) (s : State) : State :=
  let h := s.cmp n
  let cur := match h.run with
    | none => 0
    | some r => r.addr
  (s.wn (Reg.CMP_STATUS n) (256 * h.queue.length + b2n (s.cmpBusy n))).wr64 (Reg.CMP_CUR_LO n) cur

/-- Status codes of R333. -/
def cmpOk : Nat := 0x01
def cmpIncompressible : Nat := 0x02
def cmpNotSmaller : Nat := 0x03
def cmpOutFull : Nat := 0x04
def cmpAborted : Nat := 0x05
def cmpEncoding : Nat := 0x06
def cmpRange : Nat := 0x07
def cmpOverlap : Nat := 0x08
def cmpPoison : Nat := 0x09
def cmpChannel : Nat := 0x0A
def cmpProtected : Nat := 0x0B
def cmpNotReady : Nat := 0x0C
def cmpRunning : Nat := 0x0D

/-- Every status that is not a completion counts and flags (R344). -/
def cmpError (n : Nat) (s : State) : State := (s.bump (Reg.CMP_ERRCNT n) 1).setFlag (Reg.CMP_FLAGS n) F.CMP_FLAGS_ERROR

/-- The context of R331 from STATUS on. -/
def CmpRun.context (r : CmpRun) (status : Nat) : List Byte :=
  leBytes 1 status ++ leBytes 1 r.k ++ leBytes 2 0 ++ leBytes 4 r.inDone ++ leBytes 4 (unsx 32 r.x1) ++ leBytes 4 (unsx 32 r.x2) ++
    leBytes 4 r.outDone ++ leBytes 4 r.crc ++ leBytes 4 r.vgroups ++ leBytes 4 r.total

/-- The running job ends with an error status and its context. -/
def jobStop (n status : Nat) (r : CmpRun) (s : State) : State :=
  let s := memWrite (r.addr + 0x20) (r.context status) s
  cmpShow n (s.setCmp n { s.cmp n with run := none }) |> cmpError n

/-- The input of a job in bytes. -/
def CmpRun.inBytes (r : CmpRun) : Nat := elemBytes r.elem r.nsamp

/-- The job that a descriptor describes. -/
def jobOf (addr : Nat) (resume : Bool) (d : List Byte) : CmpRun :=
  let r : CmpRun := { addr := addr, elem := leAt d 0 1, opts := leAt d 1 1, minRatio := leAt d 2 2, nsamp := leAt d 4 4,
                      inA := leAt d 8 8 % 2 ^ 41, outA := leAt d 16 8 % 2 ^ 41, outMax := leAt d 24 4 }
  if resume then
    { r with k := leAt d 0x21 1, inDone := leAt d 0x24 4, x1 := sext 32 (leAt d 0x28 4), x2 := sext 32 (leAt d 0x2C 4),
             crc := leAt d 0x34 4, vgroups := leAt d 0x38 4, total := leAt d 0x3C 4 }
  else r

/-- The check that a job fails; none where it passes (R332). -/
def jobCheck (s : State) (r : CmpRun) (resume : Bool) (status : Nat) : Option Nat :=
  let packs := [16, 32, 1].getD r.elem 1
  if r.elem > 2 ∨ r.nsamp = 0 ∨ r.nsamp % packs ≠ 0 then some cmpEncoding
  else if r.outMax < 209 then some cmpEncoding
  else if s.capacity < r.inA + r.inBytes ∨ s.capacity < r.outA + r.outMax then some cmpRange
  else if r.inA < r.outA + r.outMax ∧ r.outA < r.inA + r.inBytes then some cmpOverlap
  else if resume ∧ status ≠ cmpOutFull ∧ status ≠ cmpAborted then some cmpEncoding
  else if s.memReady = false then some cmpNotReady
  else none

/-- A channel fault on a byte of a range (R333). -/
def State.rangeFault (s : State) (a n : Nat) : Bool := (s.chansOf a n).any (fun m => s.phase m == phFault)

/-- The engine may take a job now: idle, enabled, powered; a waiting chunk goes first unless a chunk went last (R345, R347). -/
def State.jobTurn (s : State) (n : Nat) : Bool :=
  let h := s.cmp n
  !s.cmpBusy n && s.on (Reg.CMP_CTL n) F.CMP_CTL_ENABLE && s.domOn domFab && s.dev != devStandby && !h.queue.isEmpty &&
    (h.slot.isNone || h.lastChunk)

/-- Bytes that open the stream of a job that starts afresh: written in place (R341). -/
def startStream (n : Nat) (resume : Bool) (r : CmpRun) (s : State) : State :=
  if resume then cmpShow n (s.setCmp n { s.cmp n with run := some r })
  else if s.rangeFault r.outA 8 then jobStop n cmpChannel r s
  else if s.dikeProtected r.outA 8 then jobStop n cmpProtected r s
  else
    let s := memWrite r.outA (streamHeader r.elem r.nsamp) s
    cmpShow n (s.setCmp n { s.cmp n with run := some { r with outDone := 8, total := 8 } })

/-- The engine takes its next job (R332). A descriptor outside memory ends the job unread. -/
def jobStart (n : Nat) (s : State) : State :=
  let h := s.cmp n
  match h.queue with
  | [] => s
  | (addr, resume) :: t =>
    if s.jobTurn n = false ∨ (addr + 64 ≤ s.capacity ∧ s.rangeSleeps addr 64) then s
    else
      let s := s.setCmp n { h with queue := t, lastChunk := false }
      if s.capacity < addr + 64 then cmpError n (cmpShow n s)
      else
        let d := memRead addr 64 s
        let r := jobOf addr resume d.1
        match jobCheck d.2.2 r resume (leAt d.1 0x20 1) with
        | some st => cmpError n (cmpShow n (memWrite (addr + 0x20) [BitVec.ofNat 8 st] d.2.2))
        | none => startStream n resume r (memWrite (addr + 0x20) [BitVec.ofNat 8 cmpRunning] d.2.2)

/-- JOB_START (R332). -/
def execJobStart (n : Fin 8) (s : State) : Host.Outcome State Fault Refusal := .next (jobStart n s)

/-- A group boundary is reached: a pending ABORT stops the job unless its trailer is committed (R343). -/
def groupBoundary (n : Nat) (r : CmpRun) (s : State) : State :=
  if r.abort.isSome ∧ r.trailer = false then jobStop n cmpAborted r s else s.setCmp n { s.cmp n with run := some r }

/-- An ABORT accepted in an earlier control cycle keeps the trailer from following the last group (R343). -/
def State.aborted (s : State) (r : CmpRun) : Bool :=
  match r.abort with
  | none => false
  | some t => decide (t < s.rt)

/-- The group of a job's next samples, coded: its bytes, the job after it, and the input's poison mark. -/
def nextGroup (r : CmpRun) (s : State) : (List Byte × CmpRun × Bool) × State :=
  let m := min 64 (r.nsamp - r.inDone)
  let b := elemBytes r.elem m
  let d := memRead (r.inA + elemBytes r.elem r.inDone) b s
  let g := codeGroup r.elem m d.1 ⟨r.x1, r.x2, r.k⟩
  ((g.1, { r with inDone := r.inDone + m, x1 := g.2.1.x1, x2 := g.2.1.x2, k := g.2.1.k, crc := d.1.foldl crc32Byte r.crc,
                  vgroups := r.vgroups + b2n g.2.2 }, d.2.1), d.2.2)

/-- Bytes are committed to the output of a job (R341). -/
def commitOut (n : Nat) (r r' : CmpRun) (d : List Byte) (s : State) : State :=
  let a := r.outA + r.outDone
  if s.rangeFault a d.length then jobStop n cmpChannel r s
  else if s.dikeProtected a d.length then jobStop n cmpProtected r s
  else
    let s := memWrite a d s
    let r' := { r' with outDone := r.outDone + d.length, total := r.total + d.length }
    groupBoundary n r' (memWrite (r.addr + 0x20) (r'.context cmpRunning) s)

/-- GROUP_COMMIT (R341): the next group, with the trailer behind the last one. It waits while a channel of its input sleeps for
holdover (11_acquisition_memory.md R299). -/
def groupCommit (n : Nat) (s : State) : State :=
  match (s.cmp n).run with
  | none => s
  | some r =>
    let at_ := r.inA + elemBytes r.elem r.inDone
    let b := elemBytes r.elem (min 64 (r.nsamp - r.inDone))
    if r.trailer ∨ s.rangeSleeps at_ b then s
    else if r.inDone = r.nsamp then
      if s.aborted r then jobStop n cmpAborted r s else
      let d := streamTrailer r.crc r.vgroups
      if r.outMax < r.outDone + d.length then jobStop n cmpOutFull r s
      else commitOut n r { r with trailer := true } d s
    else
      if s.rangeFault at_ b then jobStop n cmpChannel r s
      else
        let g := nextGroup r s
        let r' := g.1.2.1
        let last := decide (r'.inDone = r.nsamp) && !s.aborted r
        let d := g.1.1 ++ (if last then streamTrailer r'.crc r'.vgroups else [])
        if g.1.2.2 then jobStop n cmpPoison r g.2
        else if r.outMax < r.outDone + d.length then jobStop n cmpOutFull r g.2
        else commitOut n r { r' with trailer := last } d g.2

def execGroupCommit (n : Fin 8) (s : State) : Host.Outcome State Fault Refusal := .next (groupCommit n s)

/-- The status of a finished job and its flag (R344). -/
def CmpRun.verdict (r : CmpRun) : Nat × Fld :=
  if r.minRatio ≠ 0 ∧ r.inBytes * 256 < r.minRatio * r.total then (cmpNotSmaller, F.CMP_FLAGS_NOT_SMALLER)
  else if r.inBytes ≤ r.total then (cmpIncompressible, F.CMP_FLAGS_INCOMPRESSIBLE)
  else (cmpOk, F.CMP_FLAGS_OK)

/-- JOB_COMPLETE (R344): a job whose trailer is committed completes. -/
def jobComplete (n : Nat) (s : State) : State :=
  match (s.cmp n).run with
  | none => s
  | some r =>
    if r.trailer = false then s
    else
      let v := r.verdict
      let r := if v.1 = cmpNotSmaller then { r with outDone := 0, total := 0 } else r
      let s := memWrite (r.addr + 0x20) (r.context v.1) s
      let s := cmpShow n (s.setCmp n { s.cmp n with run := none })
      let s := (s.bump (Reg.CMP_JOBCNT n) 1).setFlag (Reg.CMP_FLAGS n) v.2
      s.setFlagIf (r.opts % 2 == 1) (Reg.CMP_FLAGS n) F.CMP_FLAGS_DONE

def execJobComplete (n : Fin 8) (s : State) : Host.Outcome State Fault Refusal := .next (jobComplete n s)

/-- ABORT: the running job stops at the next group boundary; accepted in the control cycle that commits the last group and trailer
it has no effect (R343). -/
def cmpAbort (n : Nat) (s : State) : State :=
  match (s.cmp n).run with
  | none => s
  | some r => if r.trailer ∨ r.abort.isSome then s else s.setCmp n { s.cmp n with run := some { r with abort := some s.rt } }

/-- CMP_ABORT (R343). -/
def execCmpAbort (n : Fin 8) (s : State) : Host.Outcome State Fault Refusal :=
  .next (s.hostReg (Reg.CMP_CMD n) (cmpAbort n s))

/-- A queued descriptor is marked ABORTED with IN_DONE = 0 (R343). -/
def flushOne (n : Nat) (s : State) (q : Nat × Bool) : State :=
  let s := cmpError n s
  if s.capacity < q.1 + 64 then s else memWrite (q.1 + 0x24) (leBytes 4 0) (memWrite (q.1 + 0x20) (leBytes 1 cmpAborted) s)

/-- FLUSH (R343). -/
def cmpFlush (n : Nat) (s : State) : State :=
  let q := (s.cmp n).queue
  let s := cmpAbort n s
  cmpShow n (q.foldl (flushOne n) (s.setCmp n { s.cmp n with queue := [] }))

/-- CMP_FLUSH (R343). -/
def execCmpFlush (n : Fin 8) (s : State) : Host.Outcome State Fault Refusal :=
  .next (s.hostReg (Reg.CMP_CMD n) (cmpFlush n s))

/-- Entry to STANDBY: the running job stops as under ABORT, here at the boundary it stands at (18 R463). -/
def cmpStandby (s : State) : State :=
  (List.range 8).foldl (fun s n =>
    match (s.cmp n).run with
    | none => s
    | some r => if r.trailer then jobComplete n s else jobStop n cmpAborted r s) s

/-- The two counts (R347). -/
def cmpCntClr (n : Nat) (s : State) : State := s.clearCounts [Reg.CMP_JOBCNT n, Reg.CMP_ERRCNT n]

/-- CMP_CNTCLR (R347). -/
def execCmpCntclr (n : Fin 8) (s : State) : Host.Outcome State Fault Refusal :=
  .next (s.hostReg (Reg.CMP_CNTCLR n) (cmpCntClr n s))

/-- The check of a write of CMP_SUBMIT_HI (R332, R347). -/
def submitCheck (n op : Nat) (s : State) : WStat :=
  firstOf [(decide (1 < op), .valueRefused), (decide (16 ≤ (s.cmp n).queue.length), .stateRefused)]

/-- A write of CMP_SUBMIT_HI (R332): the job is queued, or refused with QUEUE_FULL. -/
def writeSubmit (n op hi : Nat) (s : State) : WStat × State :=
  let s := if op ≤ 1 ∧ 16 ≤ (s.cmp n).queue.length then s.setFlag (Reg.CMP_FLAGS n) F.CMP_FLAGS_QUEUE_FULL else s
  s.writeIf (Reg.CMP_SUBMIT_HI n) (submitCheck n op s) (fun s =>
    let h := s.cmp n
    cmpShow n (s.setCmp n { h with queue := h.queue ++ [(h.lo + 2 ^ 32 * (hi % 2 ^ 9), op == 1)] }))

/-- CMP_SUBMIT_START (R332). -/
def execCmpSubmitStart (n : Fin 8) (hi : BitVec 9) (s : State) : Host.Outcome State Fault Refusal :=
  .next (s.hostReg (Reg.CMP_SUBMIT_HI n) ((writeSubmit n 0 hi.toNat s).2))

/-- CMP_SUBMIT_RESUME (R342). -/
def execCmpSubmitResume (n : Fin 8) (hi : BitVec 9) (s : State) : Host.Outcome State Fault Refusal :=
  .next (s.hostReg (Reg.CMP_SUBMIT_HI n) ((writeSubmit n 1 hi.toNat s).2))

/-! ### Chunks of block reads (R345) -/

/-- Samples of a chunk, and the chunks of a compressed read (15 R390). -/
def chunkSamples : Nat := 65536
def BlkStream.samples (b : BlkStream) : Nat := b.len * 8 / elemBits b.elem
def BlkStream.chunks (b : BlkStream) : Nat := (b.samples + chunkSamples - 1) / chunkSamples
def BlkStream.chunkAt (b : BlkStream) (i : Nat) : Chunk :=
  ⟨b.sess, b.id, i, b.addr + elemBytes b.elem (chunkSamples * i), min chunkSamples (b.samples - chunkSamples * i), b.elem⟩

/-- The engine that takes the next chunk: the next enabled one with a free slot after the latest taker. -/
def State.chunkTaker (s : State) : Option Nat :=
  ((List.range 8).map (fun i => (s.cmpTurn + 1 + i) % 8)).find? (fun n =>
    (s.cmp n).slot.isNone && s.on (Reg.CMP_CTL n) F.CMP_CTL_ENABLE)

/-- A stream has a chunk to hand out; at most eight chunks run ahead of the frames sent. -/
def BlkStream.chunkDue (b : BlkStream) : Bool :=
  b.mode == 1 && b.last.isNone && b.fail.isNone && decide (b.handed < b.chunks) && decide (b.handed < b.chunk + 8)

/-- Replace a stream. -/
def State.setBlk (s : State) (b : BlkStream) : State :=
  { s with blks := s.blks.map (fun c => if c.sess = b.sess ∧ c.id = b.id then b else c) }

/-- Hand one chunk of the first stream that has one to the engine whose turn it is. -/
def handChunk (s : State) : State :=
  match s.chunkTaker, s.blks.find? BlkStream.chunkDue with
  | some n, some b =>
    let s := s.setCmp n { s.cmp n with slot := some (b.chunkAt b.handed) }
    { s.setBlk { b with handed := b.handed + 1 } with cmpTurn := n }
  | _, _ => s

/-- An engine that is disabled gives up the chunk in its slot, which moves to another enabled engine. -/
def moveSlots (s : State) : State :=
  (List.range 8).foldl (fun s n =>
    match (s.cmp n).slot, s.chunkTaker with
    | some c, some m =>
      if s.on (Reg.CMP_CTL n) F.CMP_CTL_ENABLE then s
      else { (s.setCmp n { s.cmp n with slot := none }).setCmp m { s.cmp m with slot := some c } with cmpTurn := m }
    | _, _ => s) s

/-- Hand out chunks while there are takers, at most one for each slot; chunks that wait in the slot of a disabled engine first. -/
def handChunks (s : State) : State := (List.range 8).foldl (fun s _ => handChunk s) (moveSlots s)

/-- The chunks of a stream that has ended leave the engines. -/
def dropChunks (sess id : Nat) (s : State) : State :=
  handChunks ((List.range 8).foldl (fun s n =>
    let mine (c : Option Chunk) : Bool := match c with
      | none => false
      | some c => c.sess == sess && c.id == id
    let h := s.cmp n
    if mine h.slot || mine h.coding then
      cmpShow n (s.setCmp n { h with slot := if mine h.slot then none else h.slot, coding := if mine h.coding then none else h.coding })
    else s) s)

/-- The engine may take the chunk in its slot now. -/
def State.chunkTurn (s : State) (n : Nat) : Bool :=
  let h := s.cmp n
  !s.cmpBusy n && s.on (Reg.CMP_CTL n) F.CMP_CTL_ENABLE && s.domOn domFab && s.dev != devStandby && h.slot.isSome &&
    (h.queue.isEmpty || !h.lastChunk)

/-- CHUNK_START (R345). -/
def chunkStart (n : Nat) (s : State) : State :=
  if s.chunkTurn n then
    let h := s.cmp n
    handChunks (cmpShow n (s.setCmp n { h with slot := none, coding := h.slot, lastChunk := true }))
  else s

def execChunkStart (n : Fin 8) (s : State) : Host.Outcome State Fault Refusal := .next (chunkStart n s)

/-- The stream that a chunk belongs to, while it is being sent. -/
def State.blkOf (s : State) (sess id : Nat) : Option BlkStream := s.blks.find? (fun b => b.sess == sess && b.id == id)

/-- CHUNK_COMPLETE (R345): the chunk is coded from memory into the host link's buffer; a channel fault ends its stream. -/
def chunkComplete (n : Nat) (s : State) : State :=
  match (s.cmp n).coding with
  | none => s
  | some c =>
    if s.rangeSleeps c.addr (elemBytes c.elem c.nsamp) then s else
    let s := cmpShow n (s.setCmp n { s.cmp n with coding := none })
    match s.blkOf c.sess c.id with
    | none => s
    | some b =>
      let len := elemBytes c.elem c.nsamp
      if s.rangeFault c.addr len then handChunks (s.setBlk { b with fail := some 0x0009 })
      else
        let d := memRead c.addr len s
        d.2.2.setBlk { b with coded := b.coded ++ [⟨c.idx, codeStream c.elem c.nsamp d.1, d.2.1⟩] }

def execChunkComplete (n : Fin 8) (s : State) : Host.Outcome State Fault Refusal := .next (chunkComplete n s)

/-! ### Registers (R347) -/

/-- The check of a write of a CMP register. -/
def cmpCheck (n a : Nat) (v : Word) (s : State) : WStat :=
  if a = Reg.CMP_SUBMIT_HI n then submitCheck n (fldGet F.CMP_SUBMIT_HI_OP v) s
  else if a = Reg.CMP_CMD n then firstOf [(fldGet F.CMP_CMD_OP v == 3, .valueRefused)]
  else .ok

/-- An accepted write of a CMP register. -/
def cmpApply (n a : Nat) (v : Word) (s : State) : State :=
  if a = Reg.CMP_SUBMIT_LO n then s.setCmp n { s.cmp n with lo := v.toNat / 64 * 64 }
  else if a = Reg.CMP_CMD n then
    match fldGet F.CMP_CMD_OP v with
    | 1 => cmpAbort n s
    | 2 => cmpFlush n s
    | _ => s
  else if a = Reg.CMP_CNTCLR n then (if v.toNat % 2 = 1 then cmpCntClr n s else s)
  else if a = Reg.CMP_CTL n then handChunks (s.applyFields a v)
  else s.applyFields a v

/-- A write of a register of CMP[n]. -/
def writeCmp (n a : Nat) (v : Word) (s : State) : WStat × State :=
  if a = Reg.CMP_SUBMIT_HI n then writeSubmit n (fldGet F.CMP_SUBMIT_HI_OP v) (v.toNat % 2 ^ 9) s
  else s.writeIf a (cmpCheck n a v s) (cmpApply n a v)

end Sys2Proof.Machine
end

