-- ==== Sys2Proof/Machine/PowerBase.lean ====
section
/-! DEFINITION. Power domains as other units see them: states and the start of a wake (18_power_reset_boot.md R455, R464). -/
namespace Sys2Proof.Machine

/-- Move domain `d` to a state: 0 OFF, 1 POWERING, 2 ON, 3 DOWNING (R472). -/
def State.setDom (s : State) (d x : Nat) : State :=
  let s := s.put Reg.PWR_DOM_STAT (domFld d) x
  { s with pwr := { s.pwr with since := updateD (fun _ => 0) s.pwr.since d s.rt } }

/-- The target of a host-switched domain in PWR_DOM_CTL; FAB and MEM have none and count as on. -/
def State.domTarget (s : State) (d : Nat) : Bool := decide (5 < d) || bitOf (s.rn Reg.PWR_DOM_CTL) d

/-- A wake from STANDBY begins: FAB, MEM and the domains of PWR_DOM_CTL are powered, and the last target is
requested from the regulator again (R464; 02_handshake_fabric.md R65). -/
def startWake (cmd : Bool) (s : State) : State :=
  if s.dev ≠ devStandby ∨ s.pwr.waking.isSome then s
  else
    let s := ((List.range 8).filter s.domTarget).foldl (fun s d => s.setDom d 1) s
    let s := avsWrite s (s.get Reg.FAB_VDDC F.FAB_VDDC_TARGET)
    let s := { s with fab := { s.fab with tries := 0 } }
    { s with pwr := { s.pwr with waking := some (s.rt, cmd) } }

end Sys2Proof.Machine
end

