-- ==== Sys2Proof/Machine/Event.lean ====
section
/-! DEFINITION. The event controller: set pulses and line falls, pending, claims, completes, sleep and wake, registers
(14_event_controller.md R348 to R367). Targets: 0 MGC, 1 HNT, 2 CHF. -/
namespace Sys2Proof.Machine

/-- Numbers that name a source (R349, and the assignments of HLK, CHN, CFG, PWR and MON). -/
def isSource (n : Nat) : Bool :=
  (decide (1 ≤ n) && decide (n ≤ 1343)) || (decide (1344 ≤ n) && decide (n ≤ 1352)) || (decide (1360 ≤ n) && decide (n ≤ 1363)) ||
  (decide (1376 ≤ n) && decide (n ≤ 1389)) || (decide (1408 ≤ n) && decide (n ≤ 1416)) ||
  (decide (1424 ≤ n) && decide (n ≤ 1430)) || (decide (1440 ≤ n) && decide (n ≤ 1448))

/-- DMA_SIG0 to DMA_SIG31 have set pulses only (R348). -/
def pulseOnly (n : Nat) : Bool := decide (22 ≤ n) && decide (n ≤ 53)

/-- Fields of a source. -/
def evcEn (t : Nat) : Fld := ⟨8 + t, 1⟩
def evcPend (t : Nat) : Fld := ⟨1 + t, 1⟩
def evcLatch (t : Nat) : Fld := ⟨4 + t, 1⟩
def evcInsvc (t : Nat) : Fld := ⟨8 + t, 1⟩

def State.srcPri (s : State) (n : Nat) : Nat := s.get (Reg.EVC_SRC_CFG n) F.EVC_SRC_CFG_PRI
def State.srcLevel (s : State) (n : Nat) : Bool := s.on (Reg.EVC_SRC_CFG n) F.EVC_SRC_CFG_LEVEL
def State.srcPend (s : State) (n t : Nat) : Bool := s.on (Reg.EVC_SRC_STAT n) (evcPend t)
def State.srcInsvc (s : State) (n t : Nat) : Bool := s.on (Reg.EVC_SRC_STAT n) (evcInsvc t)

/-- EN of a source for a target; on the chain root nothing is enabled for CHF (R363). -/
def State.srcEn (s : State) (n t : Nat) : Bool :=
  s.on (Reg.EVC_SRC_CFG n) (evcEn t) && (t != 2 || !s.on Reg.CHN_STATUS F.CHN_STATUS_ROOT)

/-- The source may pend for the target (R351). -/
def State.srcOpen (s : State) (n t : Nat) : Bool := s.srcEn n t && decide (s.srcPri n ≠ 0)

/-- The tick at which the line of a source last rose, and the pending tick for a target. -/
def State.setTick (s : State) (n : Nat) : Nat := lookupD (fun _ => 0) s.evc.sets n
def State.pendTick (s : State) (n t : Nat) : Nat := lookupD (fun _ => 0) s.evc.pend (4 * n + t)
def State.setPendTick (s : State) (n t x : Nat) : State :=
  { s with evc := { s.evc with pend := updateD (fun _ => 0) s.evc.pend (4 * n + t) x } }

/-- The source pends for the target, its set having come at `tick` (R356). -/
def pendFor (n t tick : Nat) (s : State) : State :=
  let s := (s.put (Reg.EVC_SRC_STAT n) (evcPend t) 1).setPendTick n t tick
  { s with cyc := { s.cycNow with pends := (n, t) :: s.cycNow.pends } }

/-- A line's fall ends the pending state of a LEVEL source for a target (R353). -/
def endPend (n : Nat) (s : State) (t : Nat) : State :=
  let x := (n, t)
  let s := if s.srcPend n t ∧ s.cycNow.pends.contains x = false then { s with cyc := { s.cycNow with falls := x :: s.cycNow.falls } } else s
  let s := { s with cyc := { s.cycNow with pends := s.cycNow.pends.filter (fun y => y != x) } }
  s.put (Reg.EVC_SRC_STAT n) (evcPend t) 0

/-- The pending state as it stood at the start of the present cycle, less what a write or a claim has ended since (R351, R354). -/
def State.pendStart (s : State) (n t : Nat) : Bool :=
  (s.srcPend n t && !s.cycNow.pends.contains (n, t)) || (s.cycNow.falls.contains (n, t) && s.srcOpen n t)

/-- The domain of the block behind a source (R349; 18 R455); none where it is always on. -/
def sourceDom (n : Nat) : Option Nat :=
  if 15 ≤ n ∧ n ≤ 17 then some domFab
  else if 54 ≤ n ∧ n ≤ 55 then some domPrec
  else if 56 ≤ n ∧ n ≤ 119 then some ((n - 56) / 16)
  else if 120 ≤ n ∧ n ≤ 127 then some ((n - 120) / 2)
  else if 128 ≤ n ∧ n ≤ 207 then some ((n - 128) / 20)
  else if 208 ≤ n ∧ n ≤ 751 then some domFab
  else if 752 ≤ n ∧ n ≤ 991 then some domPrec
  else if 992 ≤ n ∧ n ≤ 1103 then some domStim
  else if 1216 ≤ n ∧ n ≤ 1295 then some domMem
  else if 1296 ≤ n ∧ n ≤ 1343 then some domFab
  else none

/-- The line of a source is held low: its block's domain is OFF (R357), or it has set pulses only (R348). -/
def State.lineLow (s : State) (n : Nat) : Bool :=
  pulseOnly n || (match sourceDom n with
    | none => false
    | some d => s.dom d == 0)

/-- What a set pulse does for one target (R352, R353); answers whether it merged. A pulse that finds an EDGE source in service latches,
whatever EN and PRI are by then. -/
def pulseFor (n t : Nat) (s : State) : Bool × State :=
  if s.srcLevel n then
    (false, if s.srcOpen n t = false ∨ s.srcInsvc n t ∨ s.srcPend n t ∨ s.lineLow n then s else pendFor n t s.tick s)
  else if s.srcInsvc n t then
    if s.on (Reg.EVC_SRC_STAT n) (evcLatch t) then (false, s)
    else (false, (s.put (Reg.EVC_SRC_STAT n) (evcLatch t) 1).setPendTick n t s.tick)
  else if s.srcOpen n t = false then (false, s)
  else if s.srcPend n t then (true, s)
  else (false, pendFor n t s.tick s)

/-- The source has WAKE = 1 and no enabled target (R364). -/
def State.wakeOnly (s : State) (n : Nat) : Bool :=
  s.on (Reg.EVC_SRC_CFG n) F.EVC_SRC_CFG_WAKE && !(s.srcEn n 0 || s.srcEn n 1 || s.srcEn n 2)

/-- The source lies in the device's wake set (R364). -/
def State.inDevWake (s : State) (n : Nat) : Bool :=
  s.on (Reg.EVC_SRC_CFG n) F.EVC_SRC_CFG_WAKE &&
    (s.srcPend n 0 || s.srcPend n 1 || s.srcPend n 2 ||
      (s.wakeOnly n && decide (s.srcPri n ≠ 0) && (if s.srcLevel n then s.lineHigh n else s.evc.wakes.contains n)))

/-- A source that enters a sleeper's wake set wakes it (R366); in the control cycle in which the MGC's sleep was accepted it refuses that
instead (R365). One that enters the device's set during entry to STANDBY wakes the device as soon as that is reached. -/
def wakeSleepers (n : Nat) (s : State) : State :=
  let s := if s.get Reg.EVC_SLEEP_STAT F.EVC_SLEEP_STAT_MGC = 1 ∧ s.srcPend n 0 then
      if s.evc.slept = some s.rt then s.put Reg.EVC_SLEEP_STAT F.EVC_SLEEP_STAT_MGC 2
      else (s.put Reg.EVC_SLEEP_STAT F.EVC_SLEEP_STAT_MGC 3).put Reg.EVC_WAKE_SRC F.EVC_WAKE_SRC_MGC n
    else s
  if s.get Reg.EVC_SLEEP_STAT F.EVC_SLEEP_STAT_DEV = 1 ∧ s.inDevWake n then
    if s.dev = devStandby then
      startWake false ((s.put Reg.EVC_SLEEP_STAT F.EVC_SLEEP_STAT_DEV 3).put Reg.EVC_WAKE_SRC F.EVC_WAKE_SRC_DEV n)
    else { s with evc := { s.evc with woke := s.evc.woke ++ [n] } }
  else s

/-- A set pulse of source `n` merges with a pending one (R352). -/
def mergePulse (n : Nat) (s : State) : State :=
  (((s.put (Reg.EVC_SRC_STAT n) F.EVC_SRC_STAT_MERGED 1).noteSet (Reg.EVC_SRC_STAT n) F.EVC_SRC_STAT_MERGED.lo).bump
    Reg.EVC_MERGECNT 1).setFlag Reg.EVC_FLAGS F.EVC_FLAGS_MERGED

/-- A set pulse of source `n` reaches the controller (R352, R353, R356, R364; 19 R473). -/
def pulseSource (n : Nat) (s : State) : State :=
  if isSource n = false then s
  else
    let s := if s.lineLow n then s else countPulse n s.tick s
    let s := if s.lineHigh n then s else { s with evc := { s.evc with sets := updateD (fun _ => 0) s.evc.sets n s.tick } }
    let s := if s.lineLow n then s else s.put (Reg.EVC_SRC_STAT n) F.EVC_SRC_STAT_LIVE 1
    let s := { s with cyc := { s.cycNow with pulses := n :: s.cycNow.pulses } }
    let r0 := pulseFor n 0 s
    let r1 := pulseFor n 1 r0.2
    let r2 := pulseFor n 2 r1.2
    let s := r2.2
    let s := if r0.1 ∨ r1.1 ∨ r2.1 then mergePulse n s else s
    let s := if s.evc.standby ∧ s.wakeOnly n ∧ s.srcLevel n = false ∧ s.evc.wakes.contains n = false then
        { s with evc := { s.evc with wakes := n :: s.evc.wakes } }
      else s
    wakeSleepers n s

/-- Pending state follows the configuration for one target (R351, R353). -/
def reconfigure (n : Nat) (s : State) (t : Nat) : State :=
  if s.srcOpen n t = false then s.put (Reg.EVC_SRC_STAT n) (evcPend t) 0
  else if s.srcLevel n ∧ s.lineHigh n ∧ s.srcPend n t = false ∧ s.srcInsvc n t = false then pendFor n t (s.setTick n) s
  else s

/-- The LEVEL of an EVENTS entry that waited applies once the source is neither pending nor in service for any target
(17_configuration_images.md R431). -/
def applyLevel (n : Nat) (s : State) : State :=
  match s.cfg.levels.find? (fun p => p.1 == n) with
  | none => s
  | some p =>
    if (List.range 3).any (fun t => s.srcPend n t || s.srcInsvc n t) then s
    else
      let s := { s with cfg := { s.cfg with levels := s.cfg.levels.filter (fun q => q.1 != n) } }
      (List.range 3).foldl (reconfigure n) (s.put (Reg.EVC_SRC_CFG n) F.EVC_SRC_CFG_LEVEL p.2)

/-- The line of source `n` falls at the controller (R353). -/
def fallSource (n : Nat) (s : State) : State :=
  if isSource n = false then s
  else
    let s := s.put (Reg.EVC_SRC_STAT n) F.EVC_SRC_STAT_LIVE 0
    if s.srcLevel n then applyLevel n ((List.range 3).foldl (endPend n) s) else s

/-- SET_PULSE (R352): the pulse next in line arrives; with none next there is no effect. -/
def setPulse (s : State) : State :=
  match s.lines with
  | e :: t => if e.rise then pulseSource e.src { s with lines := t } else s
  | [] => s

def execSetPulse (s : State) : Host.Outcome State Fault Refusal := .next (setPulse s)

/-- LINE_FALL (R353): the fall next in line arrives; with none next there is no effect. -/
def lineFall (s : State) : State :=
  match s.lines with
  | e :: t => if e.rise then s else fallSource e.src { s with lines := t }
  | [] => s

def execLineFall (s : State) : Host.Outcome State Fault Refusal := .next (lineFall s)

/-- What is on its way to the controller arrives, in order, up to the last fall; `fuel` bounds it. A host write that clears a flag is
complete only then (R353; 15_host_link.md R383). -/
def settleLines : Nat → State → State
  | 0, s => s
  | k + 1, s =>
    if s.lines.any (fun e => !e.rise) then
      match s.lines with
      | [] => s
      | e :: t =>
        let s := { s with lines := t }
        settleLines k (if e.rise then pulseSource e.src s else fallSource e.src s)
    else s

def settleFalls (s : State) : State := settleLines (2 * s.lines.length) s

/-! ### Claim and complete (R354, R355, R359) -/

/-- RUNPRI of the MGC. -/
def State.runPri (s : State) : Nat := match s.evc.run with
  | [] => 0
  | (_, p) :: _ => p

/-- Sources whose state register differs from its reset word, in rising order. -/
def State.liveSources (s : State) : List Nat :=
  (s.regs.filter (fun p => decide (Reg.EVC_SRC_STAT 1 ≤ p.1) && decide (p.1 ≤ Reg.EVC_SRC_STAT 1471))).map
    (fun p => (p.1 - Reg.EVC_SRC_STAT 0) / 4)

/-- Source `n` is deliverable for target `t` (R354): pending at the start of the present cycle, by the registers as they stand. -/
def State.deliverable (s : State) (t n : Nat) : Bool :=
  s.pendStart n t && decide (s.get (Reg.EVC_T_CTL t) F.EVC_T_CTL_THRESH < s.srcPri n) && (t != 0 || decide (s.runPri < s.srcPri n)) &&
    !s.on (Reg.EVC_T_CTL t) F.EVC_T_CTL_MASK && !s.on Reg.EVC_CTL F.EVC_CTL_GLOBAL_DISABLE

/-- The source of highest priority, of those the lowest number. -/
def bestSource (s : State) : List Nat → Option Nat
  | [] => none
  | n :: l => match bestSource s l with
    | none => some n
    | some m => if s.srcPri n < s.srcPri m ∨ (s.srcPri n = s.srcPri m ∧ m < n) then some m else some n

/-- The source that a claim of target `t` returns. -/
def State.claimable (s : State) (t : Nat) : Option Nat :=
  bestSource s ((s.liveSources ++ s.cycNow.falls.map (fun x => x.1)).filter (s.deliverable t))

/-- Source `n` is claimed for target `t` (R354, R356, R359). -/
def claimSource (t n : Nat) (s : State) : State :=
  let s := (s.put (Reg.EVC_SRC_STAT n) (evcPend t) 0).put (Reg.EVC_SRC_STAT n) (evcInsvc t) 1
  let s := s.wr64 (Reg.EVC_T_CLAIM_TS_LO t) (s.pendTick n t)
  let s := { s with cyc := { s.cycNow with falls := s.cycNow.falls.filter (fun x => x != (n, t)) } }
  if t = 0 then { s with evc := { s.evc with run := (n, s.srcPri n) :: s.evc.run } } else s

/-- A claim (R354): what EVC_T*t*_CLAIM returns, and the state. -/
def claim (t : Nat) (s : State) : Nat × State :=
  match s.claimable t with
  | none => (0, s)
  | some n => (65536 * s.srcPri n + n, claimSource t n s)

/-- A claim by a command of its own, which is kept for the writes of its control cycle. -/
def claimNoted (t : Nat) (s : State) : State :=
  let c : ClaimRec := { target := t, src := s.claimable t, tsOld := s.rd64 (Reg.EVC_T_CLAIM_TS_LO t) }
  let u := (claim t s).2
  { u with cyc := { u.cycNow with claims := c :: u.cycNow.claims } }

/-- A noted claim stands while the source that it took has not been completed. -/
def State.claimOpen (s : State) (c : ClaimRec) : Bool := match c.src with
  | none => true
  | some n => s.srcInsvc n c.target

/-- The state as it would be without a noted claim: its source pends, or its line has fallen since. -/
def undoClaim (s : State) (c : ClaimRec) : State := match c.src with
  | none => s
  | some n =>
    let s := (s.put (Reg.EVC_SRC_STAT n) (evcInsvc c.target) 0).wr64 (Reg.EVC_T_CLAIM_TS_LO c.target) c.tsOld
    let s := if c.target = 0 then { s with evc := { s.evc with run := s.evc.run.filter (fun p => p.1 != n) } } else s
    if s.srcLevel n ∧ s.lineHigh n = false then
      { s with cyc := { s.cycNow with falls := (n, c.target) :: s.cycNow.falls } }
    else s.put (Reg.EVC_SRC_STAT n) (evcPend c.target) 1

/-- A noted claim is made again. A pulse that had latched at the source that it then took meets it pending, where it does not take it
now. -/
def redoClaim (s : State) (c : ClaimRec) : State :=
  let s := claimNoted c.target s
  match c.src with
  | none => s
  | some n =>
    if s.srcInsvc n c.target ∨ s.on (Reg.EVC_SRC_STAT n) (evcLatch c.target) = false then s
    else
      let s := s.put (Reg.EVC_SRC_STAT n) (evcLatch c.target) 0
      if s.srcPend n c.target then mergePulse n s else s

/-- A write of PRI, THRESH, MASK or GLOBAL_DISABLE applies before the claims of its own control cycle (R354). -/
def beforeClaims (write : State → State) (s : State) : State :=
  let cs := s.cycNow.claims.filter s.claimOpen
  let s := write (cs.foldl undoClaim { s with cyc := { s.cycNow with claims := [] } })
  cs.reverse.foldl redoClaim s

/-- COMPLETE of source `n` for target `t` (R355, R359). -/
def complete (t n : Nat) (s : State) : State :=
  if isSource n = false ∨ s.srcInsvc n t = false then s.setFlag Reg.EVC_FLAGS F.EVC_FLAGS_BAD_COMPLETE
  else
    let s := s.put (Reg.EVC_SRC_STAT n) (evcInsvc t) 0
    let s := if t = 0 then { s with evc := { s.evc with run := s.evc.run.filter (fun p => p.1 != n) } } else s
    let latched := s.on (Reg.EVC_SRC_STAT n) (evcLatch t)
    let s := s.put (Reg.EVC_SRC_STAT n) (evcLatch t) 0
    let s := if s.srcOpen n t = false then s
      else if s.srcLevel n then (if s.lineHigh n then pendFor n t (s.setTick n) s else s)
      else if latched then pendFor n t (s.pendTick n t) s
      else s
    wakeSleepers n (applyLevel n s)

/-- A host read of EVC_T1_CLAIM (R362): in polling mode a claim, else 0. A claim whose value has left with a reply stands. -/
def claimRead (s : State) : Nat × State := if s.on (Reg.EVC_T_CTL 1) F.EVC_T_CTL_AUTO then (0, s) else claim 1 s

/-- CLAIM_READ (R362). -/
def execClaimRead (s : State) : Host.Outcome State Fault Refusal :=
  .next (if s.on (Reg.EVC_T_CTL 1) F.EVC_T_CTL_AUTO then s else claimNoted 1 s)

/-- MGC_CLAIM (R359): the management core claims. -/
def execMgcClaim (s : State) : Host.Outcome State Fault Refusal := .next (claimNoted 0 s)

/-- The host completes a source: the falls of its earlier writes have arrived by then (R353; 15_host_link.md R383). -/
def hostComplete (n : Nat) (s : State) : State := complete 1 n (settleFalls s)

/-- COMPLETE (R355): the claimant of MGC or HNT writes EVC_T*t*_COMPLETE; CHF completes by itself (R363). -/
def execComplete (t : Fin 3) (n : BitVec 11) (s : State) : Host.Outcome State Fault Refusal :=
  .next (if t.val = 2 then s else if t.val = 1 then hostComplete n.toNat s else complete 0 n.toNat s)

/-! ### Configuration, sleep, registers (R350, R351, R365, R367) -/

/-- The check of a write of EVC_SRC_CFG*s* (R350). -/
def srcCfgCheck (n : Nat) (v : Word) (s : State) : WStat :=
  let busy := (List.range 3).any (fun t => s.srcPend n t || s.srcInsvc n t)
  let lvl := fldGet F.EVC_SRC_CFG_LEVEL v
  firstOf [(lvl == 1 && pulseOnly n, .valueRefused), (lvl != s.get (Reg.EVC_SRC_CFG n) F.EVC_SRC_CFG_LEVEL && busy, .stateRefused)]

/-- An accepted write of EVC_SRC_CFG*s*; firmware's write also sets EN_MGC. -/
def srcCfgApply (fw : Bool) (n : Nat) (v : Word) (s : State) : State :=
  if isSource n = false then s
  else
    let s := s.applyFields (Reg.EVC_SRC_CFG n) v
    let s := if fw then s.put (Reg.EVC_SRC_CFG n) F.EVC_SRC_CFG_EN_MGC (fldGet F.EVC_SRC_CFG_EN_MGC v) else s
    wakeSleepers n (applyLevel n ((List.range 3).foldl (reconfigure n) s))

/-- A write of EVC_SRC_CFG*s*. -/
def writeSrcCfg (fw : Bool) (n : Nat) (v : Word) (s : State) : WStat × State :=
  s.writeIf (Reg.EVC_SRC_CFG n) (if isSource n then srcCfgCheck n v s else .ok) (beforeClaims (srcCfgApply fw n v))

/-- SRC_CFG_WRITE (R350): by the host, or by firmware (`fw`). -/
def execSrcCfgWrite (n : BitVec 11) (v : Word) (fw : Bool) (s : State) : Host.Outcome State Fault Refusal :=
  .next (writeSrcCfg fw n.toNat v s).2

/-- The MGC asks to sleep (R365). -/
def mgcSleep (s : State) : State :=
  State.put { s with evc := { s.evc with slept := some s.rt } } Reg.EVC_SLEEP_STAT F.EVC_SLEEP_STAT_MGC (if s.liveSources.any (fun n => s.srcPend n 0) then 2 else 1)

/-- MGC_SLEEP (R365). -/
def execMgcSleep (s : State) : Host.Outcome State Fault Refusal := .next (mgcSleep s)

/-- An EDGE source with WAKE and no enabled target had a set pulse in the present cycle (R364, R365). -/
def State.wakePulse (s : State) (n : Nat) : Bool := s.wakeOnly n && decide (s.srcPri n ≠ 0) && !s.srcLevel n

/-- The device's wake set is empty (R364, R365). -/
def State.devWakeEmpty (s : State) : Bool := !(s.liveSources.any s.inDevWake) && !(s.cycNow.pulses.any s.wakePulse)

/-- EVC_MERGECNT (R367). -/
def evcCntClr (s : State) : State := s.clearCounts [Reg.EVC_MERGECNT]

/-- EVC_CNTCLR (R367). -/
def execEvcCntclr (s : State) : Host.Outcome State Fault Refusal := .next (evcCntClr s)

/-- The device becomes or ceases to be chain root (R363). -/
def chfRoot (root : Bool) (s : State) : State :=
  if root then
    s.liveSources.foldl (fun s n => applyLevel n <|
      ((s.put (Reg.EVC_SRC_STAT n) (evcPend 2) 0).put (Reg.EVC_SRC_STAT n) (evcInsvc 2) 0).put (Reg.EVC_SRC_STAT n) (evcLatch 2) 0) s
  else s.liveSources.foldl (fun s n => wakeSleepers n (reconfigure n s 2)) s

/-- The flag registers that raise sources. -/
def flagRegs : List Nat :=
  flagRuns.flatMap (fun r => (List.range r.count).map (fun i => r.base + r.stride * i)) ++
    (List.range 24).map Reg.PCV_FLAGS ++ (List.range 8).map Reg.MCH_FLAGS

/-- The sources of a domain's blocks with a flag that reads 1. -/
def State.highSources (s : State) (d : Nat) : List Nat :=
  (flagRegs.filter (fun a => domainOf a == some d && decide (s.rn a ≠ 0))).flatMap (fun a =>
    ((List.range 32).filter (fun b => bitOf (s.rn a) b)).filterMap (flagSource a))

/-- A domain's blocks lose power: their lines are low (R357). -/
def domainLinesDown (d : Nat) (s : State) : State := (s.highSources d).foldl (fun s n => fallSource n s) s

/-- A domain's blocks have power again: the lines of flags that read 1 are high, without a pulse (R348, R357). -/
def domainLinesUp (d : Nat) (s : State) : State :=
  (s.highSources d).foldl (fun s n =>
    let s := s.put (Reg.EVC_SRC_STAT n) F.EVC_SRC_STAT_LIVE 1
    wakeSleepers n ((List.range 3).foldl (reconfigure n) s)) s

/-- EVC_STATUS and EVC_T*t*_STATUS as they read (R359, R367). -/
def State.nPend (s : State) : Nat := s.liveSources.countP (fun n => s.srcPend n 0 || s.srcPend n 1 || s.srcPend n 2)
def State.targetStatus (s : State) (t : Nat) : Nat :=
  65536 * s.liveSources.countP (fun n => s.srcInsvc n t) + (if t = 0 then s.runPri else 0)

/-- The check of a write of an EVC register (R367). -/
def evcCheck (a : Nat) (v : Word) : WStat :=
  if a = Reg.EVC_T_CTL 1 then
    let w := fldGet F.EVC_T_CTL_WINDOW v
    firstOf [(decide (w = 0) || decide (64 < w), .valueRefused)]
  else .ok

/-- An accepted host write of an EVC register other than EVC_SRC_CFG. -/
def evcApply (a : Nat) (v : Word) (s : State) : State :=
  if a = Reg.EVC_T_CTL 0 ∨ a = Reg.EVC_T_COMPLETE 0 ∨ a = Reg.EVC_T_COMPLETE 2 then s
  else if a = Reg.EVC_T_COMPLETE 1 then hostComplete (fldGet F.EVC_T_COMPLETE_SOURCE v) s
  else if a = Reg.EVC_CNTCLR then (if v.toNat % 2 = 1 then evcCntClr s else s)
  else if a = Reg.EVC_T_CTL 2 then (s.applyFields a v).put a F.EVC_T_CTL_AUTO 0
  else if a = Reg.EVC_T_CTL 1 ∨ a = Reg.EVC_CTL then beforeClaims (fun s => s.applyFields a v) s
  else if Reg.EVC_SRC_STAT 0 ≤ a ∧ isSource ((a - Reg.EVC_SRC_STAT 0) / 4) = false then s
  else s.applyFields a v

/-- Firmware's write of EVC_T0_CTL, which the host cannot write (R367); AUTO reads 0 there. -/
def firmwareCtl (v : Word) (s : State) : State :=
  beforeClaims (fun s => (s.applyFields (Reg.EVC_T_CTL 0) v).put (Reg.EVC_T_CTL 0) F.EVC_T_CTL_AUTO 0) s

/-- A host write of a register of the EVC block. -/
def writeEvc (a : Nat) (v : Word) (s : State) : WStat × State :=
  if Reg.EVC_SRC_CFG 1 ≤ a ∧ a ≤ Reg.EVC_SRC_CFG 1471 then writeSrcCfg false ((a - Reg.EVC_SRC_CFG 0) / 4) v s
  else s.writeIf a (evcCheck a v) (evcApply a v)

end Sys2Proof.Machine
end

