-- ==== Sys2Proof/Machine/Monitor.lean ====
section
/-! DEFINITION. Event counters, snapshots, temperature, health records, the error log, test unlock and injections
(19_monitoring_and_test.md R473 to R488). -/
namespace Sys2Proof.Machine

/-! ### Counters (R473, R474) -/

/-- The check of a write of MON_CNT*c*_CFG (R473). -/
def cntCfgCheck (v : Word) : WStat :=
  let mode := fldGet F.MON_CNT_CFG_MODE v
  let src := fldGet F.MON_CNT_CFG_SRC v
  firstOf [(decide (mode = 3) || (decide (mode ≠ 0) && !isSource src) || (decide (mode = 2) && pulseOnly src), .valueRefused)]

/-- The live count of counter `c` reads 0 (R474, R487). -/
def clearCount (s : State) (c : Nat) : State := (s.wr (Reg.MON_CNT_LIVE_LO c) 0#32).wr (Reg.MON_CNT_LIVE_HI c) 0#32

/-- An accepted write of MON_CNT*c*_CFG: a change of SRC or MODE clears the count, but for what the present cycle has
counted (00 R23), and the snapshot's VALID (R474). -/
def cntCfgApply (c : Nat) (v : Word) (s : State) : State :=
  let change := decide (fldGet F.MON_CNT_CFG_MODE v ≠ s.cntMode c) || decide (fldGet F.MON_CNT_CFG_SRC v ≠ s.cntSrc c)
  let s := s.applyFields (Reg.MON_CNT_CFG c) v
  if change then ((clearCount s c).clearCounts [Reg.MON_CNT_LIVE_LO c]).put (Reg.MON_CNT_SNAP_HI c) F.MON_CNT_SNAP_HI_VALID 0
  else s

/-- A write of MON_CNT*c*_CFG. -/
def writeCntCfg (c : Nat) (v : Word) (s : State) : WStat × State :=
  s.writeIf (Reg.MON_CNT_CFG c) (cntCfgCheck v) (cntCfgApply c v)

/-- MON_CNT_CFG_WRITE (R474). -/
def execMonCntCfgWrite (c : Fin 640) (v : Word) (s : State) : Host.Outcome State Fault Refusal :=
  .next (writeCntCfg c.val v s).2

/-- Every live count reads 0, but for what the present cycle has counted (00 R23); snapshots stand (R487). -/
def monClrCnt (s : State) : State := ((List.range 640).foldl clearCount s).clearCounts
  ((s.cycNow.counts.map (fun p => p.1)).filter (fun a =>
    decide (Reg.MON_CNT_LIVE_LO 0 ≤ a) && decide (a < Reg.MON_CNT_LIVE_LO 640) && decide ((a - Reg.MON_CNT_LIVE_LO 0) % 0x20 = 0)))

/-- MON_CLR_CNT (R487). -/
def execMonClrCnt (s : State) : Host.Outcome State Fault Refusal := .next (monClrCnt s)

/-- Every availability account reads 0, but for what the present cycle has counted (00 R23; R487). -/
def monClrAv (s : State) : State :=
  (List.range 144).foldl (fun s q => (s.wr64 (Reg.MON_AV_UP_LO q) (s.countNow (Reg.MON_AV_UP_LO q))).wr64
    (Reg.MON_AV_DOWN_LO q) (s.countNow (Reg.MON_AV_DOWN_LO q))) s

/-- MON_CLR_AV (R487). -/
def execMonClrAv (s : State) : Host.Outcome State Fault Refusal := .next (monClrAv s)

/-! ### Snapshots (R476 to R479) -/

/-- A snapshot is armed for instant `t` with a sequence number; a pending one is replaced (R476, R478). A later write of MON_SNAP_T_LO and
HI does not move it. -/
def armSnap (t seq : Nat) (s : State) : State :=
  let s := { s with mon := { s.mon with snapT := t } }
  let s := s.wn Reg.MON_SNAP_SEQ (seq % 2 ^ 32)
  let s := (List.range 640).foldl (fun s c => s.put (Reg.MON_CNT_SNAP_HI c) F.MON_CNT_SNAP_HI_VALID 0) s
  s.put Reg.MON_SNAP_STAT F.MON_SNAP_STAT_STATE 1

/-- *T* lies at least 2 µs after the present tick (R476). -/
def State.snapOk (s : State) : Bool := decide (327680 ≤ tickDiff (s.rd64 Reg.MON_SNAP_T_LO) s.tick)

/-- The check of MON_SNAP_CMD with operation `op` (R476, R479). -/
def snapCheck (op : Nat) (s : State) : WStat :=
  let root := s.on Reg.CHN_STATUS F.CHN_STATUS_ROOT && decide (s.get Reg.CHN_STATUS F.CHN_STATUS_STATE = 2)
  firstOf [((op == 1 || op == 2) && !s.snapOk, .stateRefused), (op == 2 && !root, .stateRefused)]

/-- An accepted MON_SNAP_CMD. -/
def snapApply (op : Nat) (s : State) : State :=
  match op with
  | 1 => armSnap (s.rd64 Reg.MON_SNAP_T_LO) (s.rn Reg.MON_SNAP_SEQ + 1) s
  | 2 =>
    let s := armSnap (s.rd64 Reg.MON_SNAP_T_LO) (s.rn Reg.MON_SNAP_SEQ + 1) s
    queueMsg false 1 0x40 s.chnAddr (leBytes 6 s.mon.snapT ++ leBytes 4 (s.rn Reg.MON_SNAP_SEQ)) s
  | 3 => snapCancel true s
  | _ => s

/-- MON_SNAP_CMD with operation `op`. -/
def writeSnap (op : Nat) (s : State) : WStat × State := s.writeIf Reg.MON_SNAP_CMD (snapCheck op s) (snapApply op)

/-- SNAPSHOT_ARM (R476). -/
def execSnapshotArm (s : State) : Host.Outcome State Fault Refusal := .next (writeSnap 1 s).2

/-- ARM_CHAIN (R479). -/
def execArmChain (s : State) : Host.Outcome State Fault Refusal := .next (writeSnap 2 s).2

/-- SNAPSHOT_CANCEL (R478). -/
def execSnapshotCancel (s : State) : Host.Outcome State Fault Refusal := .next (writeSnap 3 s).2

/-- A SNAP cell is received (R479). -/
def snapReceive (t seq : Nat) (s : State) : State :=
  if 32768 ≤ tickDiff t s.tick then armSnap t seq s
  else
    let s := (s.wn Reg.MON_SNAP_SEQ (seq % 2 ^ 32)).put Reg.MON_SNAP_STAT F.MON_SNAP_STAT_STATE 4
    s.setFlag Reg.MON_FLAGS F.MON_FLAGS_SNAP_MISSED

/-- At *T* the counters that no later event has copied are copied (R477). -/
def snapInstant (s : State) : State :=
  if s.snapDue s.tick = false then s
  else
    let s := s.configured.foldl snapCopy s
    (s.put Reg.MON_SNAP_STAT F.MON_SNAP_STAT_STATE 2).setFlag Reg.MON_FLAGS F.MON_FLAGS_SNAP_DONE

/-- SNAPSHOT_INSTANT (R477); no effect while none is pending or before *T*. -/
def execSnapshotInstant (s : State) : Host.Outcome State Fault Refusal := .next (snapInstant s)

/-! ### Temperature and health (R480, R481) -/

/-- A signed field of 16 bits. -/
def sext16 (x : Nat) : Int := sext 16 x

/-- Sensor `d` reads `t`, in 1/16 °C (R480). -/
def sensorUpdate (s : State) (d : Nat) (t : Int) : State :=
  let top := if s.mon.tempSeen then max t (sext16 (s.get (Reg.MON_TEMP d) F.MON_TEMP_MAX)) else t
  let s := s.wn (Reg.MON_TEMP d) (65536 * unsx 16 top + unsx 16 t)
  let s := { s with mon := { s.mon with highTemp := some (max t (s.mon.highTemp.getD t)) } }
  let lim : Int := 16 * (s.get Reg.MON_TEMP_WARN F.MON_TEMP_WARN_DEG : Nat)
  if s.mon.hot.contains d then
    if t ≤ lim - 32 then { s with mon := { s.mon with hot := s.mon.hot.filter (fun x => x != d) } } else s
  else if lim < t then
    let s := { s with mon := { s.mon with hot := d :: s.mon.hot } }
    (s.setFlag Reg.MON_FLAGS F.MON_FLAGS_TEMP_HIGH).addLog 0x50
      ((flagSource Reg.MON_FLAGS F.MON_FLAGS_TEMP_HIGH.lo).getD 0) d (unsx 64 t)
  else s

/-- The sensors' update is due, 1 ms of real time after the latest (R480). -/
def State.tempDue (s : State) : Bool := decide (s.mon.lastTemp + 1000 * tickUs ≤ s.rt)

/-- The eight sensors update (R480). -/
def temperatureUpdate (t : List (BitVec 16)) (s : State) : State :=
  let s := (List.range 8).foldl (fun s d =>
    match t[d]? with
    | some x => sensorUpdate s d (sext16 x.toNat)
    | none => s) s
  { s with mon := { s.mon with lastTemp := s.rt, tempSeen := true } }

/-- A new health interval begins at `rt` (R481): its extremes start from the values that stand. -/
def healthStart (rt : Nat) (s : State) : State :=
  let temps := (List.range 8).map (fun d => sext16 (s.get (Reg.MON_TEMP d) F.MON_TEMP_NOW))
  let top : Option Int := if s.mon.tempSeen then some (temps.foldl max (temps.headD 0)) else none
  let low := s.get Reg.FAB_STATUS F.FAB_STATUS_WORST_MARGIN
  let ref := sext16 (s.get (Reg.PCV_REF_DRIFT 0) F.PCV_REF_DRIFT_MARGIN)
  { s with mon := { s.mon with healthAt := some rt, lowMargin := some low, lowRef := some ref, highTemp := top } }

/-- HEALTH_H in ticks of real time. -/
def State.healthTicks (s : State) : Nat := s.get Reg.MON_CTL F.MON_CTL_HEALTH_H * 3600000000 * tickUs

/-- Real time of the next HEALTH record: the first after `t` that lies a whole number of HEALTH_H hours after the end of BOOT (R481). -/
def State.healthNext (s : State) (t : Nat) : Nat := s.mon.healthFrom + ((t - s.mon.healthFrom) / s.healthTicks + 1) * s.healthTicks

/-- A health record falls due: while HEALTH_EN = 1, every HEALTH_H hours counted from the end of BOOT (R481). -/
def healthRecord (s : State) : State :=
  match s.mon.healthAt with
  | none => s
  | some t =>
    if s.on Reg.MON_CTL F.MON_CTL_HEALTH_EN = false ∨ s.rt < s.healthNext t then s
    else
      let info := s.mon.lowMargin.getD 0 + 65536 * s.get Reg.FAB_VDDC F.FAB_VDDC_MAX_SEEN
      let data := unsx 16 (s.mon.lowRef.getD 0) + 65536 * unsx 16 (s.mon.highTemp.getD 0)
      let u := (s.setFlag Reg.MON_FLAGS F.MON_FLAGS_HEALTH).addLog 0x60
        ((flagSource Reg.MON_FLAGS F.MON_FLAGS_HEALTH.lo).getD 0) info data
      healthStart (s.healthNext t) u

/-- A write of MON_CTL (R481): the hours go on being counted from the end of BOOT, and records that fell due under another HEALTH_H or
while HEALTH_EN was 0 are not made up for. -/
def monCtlWrite (v : Word) (s : State) : State :=
  let t := s.applyFields Reg.MON_CTL v
  match s.mon.healthAt with
  | none => t
  | some _ =>
    if s.on Reg.MON_CTL F.MON_CTL_HEALTH_EN ∧ t.healthTicks = s.healthTicks then t
    else { t with mon := { t.mon with healthAt := some s.rt } }

/-- HEALTH_RECORD (R481). -/
def execHealthRecord (s : State) : Host.Outcome State Fault Refusal := .next (healthRecord s)

/-! ### Error log (R482) -/

/-- The log is emptied; SEQ runs on. -/
def logClear (s : State) : State := { s with log := [], logWrapped := false }

/-- LOG_CLEAR (R482). -/
def execLogClear (s : State) : Host.Outcome State Fault Refusal := .next (logClear s)

/-- The 32 bytes of an entry (R482). -/
def LogEntry.bytes (e : LogEntry) : List Byte :=
  leBytes 8 e.ts ++ leBytes 4 e.epoch ++ leBytes 4 e.seq ++ leBytes 2 e.code ++ leBytes 2 e.source ++ leBytes 4 e.info ++
    leBytes 8 e.data

/-- The entry that MON_LOG_SEL selects, where it is held. -/
def State.logSel (s : State) : Option LogEntry := s.log.find? (fun e => decide (e.seq = s.rn Reg.MON_LOG_SEL))

/-- MON_LOG_STAT and MON_LOG_W*w* as they read. -/
def State.logStat (s : State) : Nat := 2 ^ 31 * b2n s.logSel.isSome + s.log.length
def State.logWord (s : State) (w : Nat) : Nat :=
  match s.logSel with
  | none => 0
  | some e => leAt e.bytes (4 * w) 4

/-! ### MON registers (R487) -/

/-- The check of a write of a MON register. -/
def monCheck (a : Nat) (v : Word) (s : State) : WStat :=
  if a = Reg.MON_CTL then firstOf [(decide (fldGet F.MON_CTL_HEALTH_H v = 0), .valueRefused)]
  else if a = Reg.MON_SNAP_CMD then snapCheck (fldGet F.MON_SNAP_CMD_OP v) s
  else if a = Reg.MON_TEMP_WARN then
    let d := fldGet F.MON_TEMP_WARN_DEG v
    firstOf [(decide (d < 60) || decide (110 < d), .valueRefused)]
  else .ok

/-- An accepted write of a MON register other than MON_CNT*c*_CFG. -/
def monApply (a : Nat) (v : Word) (s : State) : State :=
  if a = Reg.MON_SNAP_CMD then snapApply (fldGet F.MON_SNAP_CMD_OP v) s
  else if a = Reg.MON_CNTCLR then
    let s := if fldGet F.MON_CNTCLR_CLR_CNT v = 1 then monClrCnt s else s
    if fldGet F.MON_CNTCLR_CLR_AV v = 1 then monClrAv s else s
  else if a = Reg.MON_CTL then monCtlWrite v s
  else if a = Reg.MON_LOG_CMD then (if fldGet F.MON_LOG_CMD_CLEAR v = 1 then logClear s else s)
  else s.applyFields a v

/-- A host write of a register of the MON block. -/
def writeMon (a : Nat) (v : Word) (s : State) : WStat × State :=
  if Reg.MON_CNT_CFG 0 ≤ a ∧ a < Reg.MON_CNT_CFG 640 ∧ (a - Reg.MON_CNT_CFG 0) % 0x20 = 0 then
    writeCntCfg ((a - Reg.MON_CNT_CFG 0) / 0x20) v s
  else s.writeIf a (monCheck a v s) (monApply a v)

/-! ### Test unlock and injections (R484 to R488) -/

/-- The block is unlocked. -/
def State.tstOpen (s : State) : Bool := s.on Reg.TST_STATUS F.TST_STATUS_UNLOCKED

/-- The word expected at step `n` of the sequence. -/
def unlockWord (s : State) (n : Nat) : Word :=
  match n with
  | 0 => 0x54455354#32
  | 1 => s.rd Reg.DEV_SERIAL_LO
  | _ => ~~~ s.rd Reg.DEV_SERIAL_HI

/-- A wrong word or a gap restarts the sequence (R484). -/
def unlockFail (s : State) : State :=
  let s := s.put Reg.TST_STATUS F.TST_STATUS_STEP 0
  let s := s.bumpFld Reg.TST_STATUS F.TST_STATUS_FAILCNT 1
  s.setFlag Reg.MON_FLAGS F.MON_FLAGS_UNLOCK_FAIL

/-- An unlock sequence has begun and 1 ms has passed since its latest word (R484). -/
def State.unlockLate (s : State) : Bool :=
  decide (0 < s.get Reg.TST_STATUS F.TST_STATUS_STEP) && decide (s.mon.unlockAt + 1000 * tickUs < s.rt)

/-- UNLOCK_GAP_EXPIRY (R484). -/
def execUnlockGapExpiry (s : State) : Host.Outcome State Fault Refusal := .next (if s.unlockLate then unlockFail s else s)

/-- Every TST register returns to its reset value and every injection ends (R485). -/
def tstReset (s : State) : State :=
  let s := s.zero ([Reg.TST_UNLOCK, Reg.TST_STATUS, Reg.TST_HSD, Reg.TST_BP, Reg.TST_MEMLAT, Reg.TST_CAPAR, Reg.TST_CHNERR] ++
    (List.range 8).map Reg.TST_SOFS)
  { s with mon := { s.mon with capar := none, chnerr := none } }

/-- A lock by write is logged (R485). -/
def testLock (s : State) : State := (tstReset s).addLog 0x71 0 0 0

/-- TEST_LOCK (R485). -/
def execTestLock (s : State) : Host.Outcome State Fault Refusal := .next (testLock s)

/-- A word that is not 0 written to TST_UNLOCK (R484), by session `sess` (0: none), authenticated or not. -/
def unlockStep (v : Word) (sess : Nat) (auth : Bool) (s : State) : State :=
  let s := if s.unlockLate then unlockFail s else s
  let n := s.get Reg.TST_STATUS F.TST_STATUS_STEP
  if v ≠ unlockWord s n ∨ (s.on Reg.HLK_STATUS F.HLK_STATUS_KEY_SET ∧ auth = false) then unlockFail s
  else if n < 2 then
    let s := s.put Reg.TST_STATUS F.TST_STATUS_STEP (n + 1)
    { s with mon := { s.mon with unlockAt := s.rt } }
  else
    let s := s.wn Reg.TST_STATUS 1
    (s.setFlag Reg.MON_FLAGS F.MON_FLAGS_TEST_UNLOCKED).addLog 0x70
      ((flagSource Reg.MON_FLAGS F.MON_FLAGS_TEST_UNLOCKED.lo).getD 0) sess 0

/-- A write of TST_UNLOCK. -/
def writeUnlock (v : Word) (sess : Nat) (auth : Bool) (s : State) : State :=
  if v = 0#32 then testLock s else unlockStep v sess auth s

/-- TST_UNLOCK_WRITE (R484): a word that is not 0; a word of 0 is TEST_LOCK. -/
def execTstUnlockWrite (v sess : Word) (auth : Bool) (s : State) : Host.Outcome State Fault Refusal :=
  .next (writeUnlock v sess.toNat auth s)

/-- A write of FIRE = 1 is kept for the present cycle: where the injection before it ends in that cycle, FIRE stays set (00 R22). -/
def noteFire (a : Nat) (f : Fld) (v : Word) (s : State) : State := if fldGet f v = 1 then s.noteSet a f.lo else s

/-- A write of TST_CAPAR: FIRE is ignored while one is pending, or for a channel that is not READY (R486, R488). -/
def caparApply (v : Word) (s : State) : State :=
  let m := fldGet F.TST_CAPAR_CHANNEL v
  let fire := decide (fldGet F.TST_CAPAR_FIRE v = 1) && s.mon.capar.isNone && decide (s.phase m = phReady)
  let held := s.get Reg.TST_CAPAR F.TST_CAPAR_FIRE
  let s := noteFire Reg.TST_CAPAR F.TST_CAPAR_FIRE v ((s.applyFields Reg.TST_CAPAR v).put Reg.TST_CAPAR F.TST_CAPAR_FIRE held)
  if fire then
    let c := some (m, fldGet F.TST_CAPAR_REPEAT v)
    { s with mon := { s.mon with capar := c } }.put Reg.TST_CAPAR F.TST_CAPAR_FIRE 1
  else s

/-- The check of a write of TST_CHNERR. -/
def chnerrCheck (v : Word) : WStat :=
  firstOf [(decide (fldGet F.TST_CHNERR_KIND v = 3) || decide (fldGet F.TST_CHNERR_COUNT v = 0), .valueRefused)]

/-- An accepted write of TST_CHNERR. -/
def chnerrApply (v : Word) (s : State) : State :=
  let fire := decide (fldGet F.TST_CHNERR_FIRE v = 1) && s.mon.chnerr.isNone
  let held := s.get Reg.TST_CHNERR F.TST_CHNERR_FIRE
  let s := noteFire Reg.TST_CHNERR F.TST_CHNERR_FIRE v ((s.applyFields Reg.TST_CHNERR v).put Reg.TST_CHNERR F.TST_CHNERR_FIRE held)
  if fire then
    let c := some (fldGet F.TST_CHNERR_PORT v, fldGet F.TST_CHNERR_KIND v, fldGet F.TST_CHNERR_COUNT v)
    { s with mon := { s.mon with chnerr := c } }.put Reg.TST_CHNERR F.TST_CHNERR_FIRE 1
  else s

/-- The check of a write of a TST register other than TST_UNLOCK (R484, R488). -/
def tstCheck (a : Nat) (v : Word) (s : State) : WStat :=
  if s.tstOpen = false then .testLocked else if a = Reg.TST_CHNERR then chnerrCheck v else .ok

/-- An accepted write of one. -/
def tstApply (a : Nat) (v : Word) (s : State) : State :=
  if a = Reg.TST_CAPAR then caparApply v s else if a = Reg.TST_CHNERR then chnerrApply v s else s.applyFields a v

/-- A write of a register of the TST block by session `sess` (0: none), authenticated or not. -/
def writeTst (a : Nat) (v : Word) (sess : Nat) (auth : Bool) (s : State) : WStat × State :=
  if a = Reg.TST_UNLOCK then (.ok, writeUnlock v sess auth s) else s.writeIf a (tstCheck a v s) (tstApply a v)

/-- TST_CAPAR_FIRE (R486): a write of TST_CAPAR with FIRE = 1. -/
def execTstCaparFire (v : Word) (s : State) : Host.Outcome State Fault Refusal :=
  .next (writeTst Reg.TST_CAPAR (fldSet F.TST_CAPAR_FIRE v 1) 0 false s).2

/-- TST_CHNERR_FIRE (R486): a write of TST_CHNERR with FIRE = 1. -/
def execTstChnerrFire (v : Word) (s : State) : Host.Outcome State Fault Refusal :=
  .next (writeTst Reg.TST_CHNERR (fldSet F.TST_CHNERR_FIRE v 1) 0 false s).2

end Sys2Proof.Machine
end

