-- ==== Sys2Proof/Machine/HostBase.lean ====
section
/-! DEFINITION. The host link's messages, sessions and replies, as every request and notice uses them (15_host_link.md R369 to
R384, R400). -/
namespace Sys2Proof.Machine

/-! ### Boot-loaded registers in force, interfaces -/

/-- The registers of R400 whose writes act at the next RELINK. -/
def hlkBootRegs : List Nat :=
  [Reg.HLK_CTL, Reg.HLK_UDP_PORT] ++
    (List.range 4).flatMap (fun n => [Reg.HLK_IF_ADDR n, Reg.HLK_IF_MASK n, Reg.HLK_IF_GW n, Reg.HLK_IF_CFG n]) ++
    (List.range 4).map Reg.HLK_IPV6_W

/-- They come into force (R369, R400). -/
def hlkLoad (s : State) : State := { s with hlk := { s.hlk with active := hlkBootRegs.map (fun a => (a, s.rd a)) } }

/-- A field of such a register as in force. -/
def State.act (s : State) (a : Nat) (f : Fld) : Nat := fldGet f (lookupD resetWord s.hlk.active a)
def State.actWord (s : State) (a : Nat) : Word := lookupD resetWord s.hlk.active a

/-- Interface `n` exists in the mode in force (R368, R400). -/
def State.ifExists (s : State) (n : Nat) : Bool := n == 0 || s.act Reg.HLK_CTL F.HLK_CTL_MODE == 2

def State.hif (s : State) (n : Nat) : HlkIf := lookupD (fun _ => {}) s.hlk.ifs n
def State.setHif (s : State) (n : Nat) (x : HlkIf) : State :=
  { s with hlk := { s.hlk with ifs := updateD (fun _ => {}) s.hlk.ifs n x } }

/-- The link of interface `n` is up. -/
def State.hlkUp (s : State) (n : Nat) : Bool := bitOf (s.get Reg.HLK_STATUS F.HLK_STATUS_LINK) n

/-- An IP datagram reaches the device's stack on interface `n`: the link is up, BOOT has ended (18 R469), and the interface has an
address of that family (R372). -/
def State.reachable (s : State) (n : Nat) (v6 : Bool) : Bool :=
  s.ifExists n && s.hlkUp n && s.dev != devBoot && (if v6 then n == 0 else (s.hif n).held)

/-- A frame leaves, or waits for the end of a pause of its interface (R370). -/
def State.emitFrame (s : State) (x : FrameOut) : State :=
  if s.rt < (s.hif x.iface).pause ∨ s.hlk.held.any (fun y => y.iface == x.iface) then
    { s with hlk := { s.hlk with held := s.hlk.held ++ [x] } }
  else { s with hlk := { s.hlk with out := s.hlk.out ++ [x] } }

/-- A frame that is no UDP datagram leaves. -/
def State.emit (s : State) (iface kind : Nat) (data : List Byte) : State := s.emitFrame { iface := iface, kind := kind, data := data }

/-- Frames whose pause has ended leave (R370). -/
def releaseFrames (s : State) : State :=
  let free (x : FrameOut) : Bool := decide ((s.hif x.iface).pause ≤ s.rt)
  { s with hlk := { s.hlk with out := s.hlk.out ++ s.hlk.held.filter free, held := s.hlk.held.filter (fun x => !free x) } }

/-- The record of frames sent starts anew. -/
def State.noOut (s : State) : State := { s with hlk := { s.hlk with out := [] } }

/-! ### Sessions (R377) -/

/-- The session in slot `k`. -/
def State.session (s : State) (k : Nat) : Option Session :=
  match s.hlk.sess.find? (fun p => p.1 == k) with
  | none => none
  | some p => some p.2

/-- The slot of the open session with an identifier. -/
def State.sessSlot (s : State) (id : Nat) : Option Nat :=
  match s.hlk.sess.find? (fun p => p.2.id == id) with
  | none => none
  | some p => some p.1

/-- HLK_STATUS and HLK_S*s* follow the sessions and streams (R400). -/
def showSession (s : State) (k : Nat) : State :=
  match s.session k with
  | none => (s.wr (Reg.HLK_S_ID k) 0#32).wr (Reg.HLK_S_INFO k) 0#32
  | some x =>
    let n := s.blks.countP (fun b => b.sess == k)
    (s.wn (Reg.HLK_S_ID k) x.id).wn (Reg.HLK_S_INFO k)
      (2 ^ 31 + 2 ^ 30 * b2n x.auth + 2 ^ 29 * b2n x.events + 2 ^ 24 * x.iface + 2 ^ 20 * n)

def showSessions (s : State) : State :=
  let s := (List.range 8).foldl showSession s
  let s := s.put Reg.HLK_STATUS F.HLK_STATUS_NSESS s.hlk.sess.length
  let s := s.put Reg.HLK_STATUS F.HLK_STATUS_NSTREAM s.blks.length
  s.put Reg.HLK_STATUS F.HLK_STATUS_EVT_SESSION (b2n (s.hlk.sess.any (fun p => p.2.events)))

/-- Replace the session in slot `k`. -/
def State.setSession (s : State) (k : Nat) (x : Session) : State :=
  { s with hlk := { s.hlk with sess := insertKey k x (eraseKey k s.hlk.sess) } }

/-- Replace it where the slot holds one. -/
def State.modSession (s : State) (k : Nat) (f : Session → Session) : State :=
  match s.session k with
  | none => s
  | some x => s.setSession k (f x)

/-! ### Messages (R375, R379) -/

/-- Status codes of R384 that the host link itself gives. -/
def stRange : Nat := 0x05
def stProtected : Nat := 0x06
def stPoison : Nat := 0x08
def stChannel : Nat := 0x09
def stAuthRequired : Nat := 0x0A
def stNoSession : Nat := 0x0B
def stSessionLimit : Nat := 0x0C
def stMalformed : Nat := 0x0D
def stUnsupported : Nat := 0x0E
def stBusy : Nat := 0x0F
def stStaleSeq : Nat := 0x10
def stCancelled : Nat := 0x11
def stTimeout : Nat := 0x12
def stImageRefused : Nat := 0x13
def stWakePending : Nat := 0x17

/-- The 24 bytes of a header (R375). -/
def btpHeader (typ flags len sess seq ack status dstate gstate : Nat) : List Byte :=
  leBytes 2 0x5442 ++ leBytes 1 1 ++ leBytes 1 typ ++ leBytes 2 flags ++ leBytes 2 len ++ leBytes 4 sess ++ leBytes 4 seq ++
    leBytes 4 ack ++ leBytes 2 status ++ leBytes 1 dstate ++ leBytes 1 gstate

/-- The tag of a message under a session key (R379). -/
def btpTag (key msg : List Byte) : List Byte := (hmac key msg).take 16

/-- The bytes of a message, with its tag in an authenticated session. -/
def btpMessage (auth : Bool) (key : List Byte) (typ sess seq ack status dstate gstate : Nat) (payload : List Byte) : List Byte :=
  let m := btpHeader typ (b2n auth) payload.length sess seq ack status dstate gstate ++ payload
  if auth then m ++ btpTag key m else m

/-- The port of BTP (R375). -/
def State.btpPort (s : State) : Nat := s.act Reg.HLK_UDP_PORT F.HLK_UDP_PORT_PORT

/-- A BTP message leaves (R373, R375, R400 TXCNT). -/
def sendBytes (iface : Nat) (v6 : Bool) (m : List Byte) (s : State) : State :=
  (s.bump Reg.HLK_TXCNT 1).emitFrame { iface := iface, kind := 0, data := m, port := s.btpPort, df := !v6 }

/-- A message of `payload` bytes to a session of this kind fits its MTU (R373). -/
def State.fits (s : State) (iface : Nat) (v6 auth : Bool) (payload : Nat) : Bool :=
  decide ((if v6 then 40 else 20) + 8 + 24 + payload + 16 * b2n auth ≤ s.act (Reg.HLK_IF_CFG iface) F.HLK_IF_CFG_MTU)

/-- An answer outside any session (R375 to R378). -/
def sendBare (iface : Nat) (v6 : Bool) (typ sess seq status : Nat) (payload : List Byte) (s : State) : State :=
  sendBytes iface v6 (btpMessage false [] (typ + 0x80) sess seq 0 status s.dev 0x0F payload) s

/-- The reply to request *E* of the session in slot `k`: sent and cached; *E* advances (R381). -/
def answer (k typ status gstate : Nat) (payload : List Byte) (s : State) : State :=
  match s.session k with
  | none => s
  | some x =>
    let e := (x.e + 1) % 2 ^ 32
    let m := btpMessage x.auth x.key (typ + 0x80) x.id x.e e status s.dev gstate payload
    let c := ((x.e, m) :: x.cache).take x.w
    sendBytes x.iface x.v6 m (s.setSession k { x with e := e, cache := c, busy := false })

/-- A message of the device's own accord in a session: DATA or EVENT (R376). -/
def notify (x : Session) (typ seq status : Nat) (payload : List Byte) (s : State) : State :=
  sendBytes x.iface x.v6 (btpMessage x.auth x.key typ x.id seq 0 status s.dev 0x0F payload) s

/-- The payload of a COMMAND reply (R395). -/
def commandReply (ts epoch group detail : Nat) : List Byte :=
  leBytes 8 ts ++ leBytes 4 epoch ++ leBytes 1 group ++ leBytes 1 detail ++ leBytes 2 0

/-- The group that the GSTATE of a group command's reply is about: the refusing group, else the lowest group named (R375). -/
def concerned (group mask : Nat) : Nat :=
  if group < 16 then group else ((List.range 16).find? (fun g => bitOf mask g)).getD 0xFF

/-- The reply to COMMAND *E* of slot `k`, accepted or refused at the present tick; `mask` holds the groups that it names. -/
def answerGroups (k status group mask detail : Nat) (s : State) : State :=
  let s := s.setFlagIf (status == 1) Reg.HLK_ERR F.HLK_ERR_STATE
  answer k 0x30 status (s.gst (concerned group mask)) (commandReply s.tick (s.rn Reg.CKS_EPOCH) group detail) s

/-- The reply to a COMMAND that names no groups. -/
def answerCommand (k status group detail : Nat) (s : State) : State := answerGroups k status group 0 detail s

/-- The reply to COMMAND *E* comes later (R383). -/
def deferReply (k : Nat) (s : State) : State := s.modSession k (fun x => { x with busy := true })

/-- The LAST frame of a block read with its final status (R390). -/
def lastFrame (b : BlkStream) (bytes : List Byte) (flags : Nat) (ofs : Nat) : List Byte :=
  leBytes 1 b.id ++ leBytes 1 (1 + flags) ++ leBytes 2 0 ++ leBytes 4 b.next ++ leBytes 8 ofs ++ leBytes 4 b.chunk ++
    leBytes 4 0 ++ bytes

/-- A stream of an ended session is cancelled (R377, R384). -/
def cancelStream (x : Session) (s : State) (b : BlkStream) : State :=
  match b.last with
  | some _ => s
  | none => notify x 0x21 b.seq stCancelled (lastFrame b [] 0 0) s

/-- The session in slot `k` ends (R377). -/
def endSession (k : Nat) (s : State) : State :=
  match s.session k with
  | none => s
  | some x =>
    let mine := s.blks.filter (fun b => b.sess == k)
    let s := mine.foldl (cancelStream x) s
    let s := { s with blks := s.blks.filter (fun b => b.sess != k) }
    let s := mine.foldl (fun s b => dropChunks k b.id s) s
    let s := { s with hlk := { s.hlk with sess := eraseKey k s.hlk.sess } }
    let held := s.liveSources.filter (fun n => s.srcInsvc n 1)
    let s := held.foldl (fun s n => complete 1 n s) s
    (showSessions s).setFlag Reg.HLK_FLAGS F.HLK_FLAGS_SESSION_END

/-- Every session ends (R369, R377). -/
def endSessions (s : State) : State := (List.range 8).foldl (fun s k => endSession k s) s

end Sys2Proof.Machine
end

