-- ==== Sys2Proof/Machine/Chain.lean ====
section
/-! DEFINITION. The Eweone chain: ports and cells, link reliability, enumeration, timebase alignment, triggers, events to the
root, group commands, mapping, registers (16_eweone_chain.md R401 to R425; 14_event_controller.md R363). Port 0 is upstream,
port 1 downstream. -/
namespace Sys2Proof.Machine

def State.root (s : State) : Bool := s.on Reg.CHN_STATUS F.CHN_STATUS_ROOT
def State.chnFormed (s : State) : Bool := decide (s.get Reg.CHN_STATUS F.CHN_STATUS_STATE = 2)

/-- The field of a port's link in CHN_STATUS and of its eye in CHN_EYE. -/
def linkFld (i : Nat) : Fld := if i = 0 then F.CHN_STATUS_UP_LINK else F.CHN_STATUS_DOWN_LINK
def eyeFld (i : Nat) : Fld := if i = 0 then F.CHN_EYE_UP else F.CHN_EYE_DOWN

/-- Free receive buffers of a port: those that forwarded cells do not fill, and on the root's downstream port only while the
remote event FIFO has room (R402, R405, R416). -/
def State.freeBuf (s : State) (i : Nat) : Nat :=
  let n := 16 - min 16 (s.port (1 - i)).msgQ.length
  if i = 1 ∧ s.root then min n (256 - s.chn.revt.length) else n

/-- A sequenced message cell with this LSEQ is accepted: in sequence, and a buffer is free (R405). -/
def acceptMsg (i : Nat) (lseq : Nat) (s : State) : Option State :=
  let p := s.port i
  if s.linkUp i = false ∨ lseq ≠ p.rxSeq ∨ s.freeBuf i = 0 then none
  else some (s.setPort i { p with rxSeq := (p.rxSeq + 1) % 256 })

/-- Run `f` where the cell is accepted. -/
def onMsg (i : Nat) (c : Cell) (s : State) (f : State → State) : Host.Outcome State Fault Refusal :=
  match acceptMsg i c.lseq.toNat s with
  | none => .next s
  | some s => .next (f s)

/-- A message goes on out of the port opposite the one on which it arrived, unchanged (R406). -/
def forward (i typ : Nat) (c : Cell) (s : State) : State := queueMsg false (1 - i) typ c.src.toNat c.data s

/-- A cell counts as discarded (R402). -/
def badCounted (s : State) : State := (s.bump Reg.CHN_CRCERR 1).setFlag Reg.CHN_FLAGS F.CHN_FLAGS_LINK_ERR

/-! ### Address and role (R408 to R410) -/

/-- A record is appended to the settings log (17_configuration_images.md R445); how many blocks it takes is not stated. A pass of the
log's 65,536 blocks leaves the live records alone. -/
def logBlocks (s : State) : State :=
  let n := s.nv.logBlocks + s.freeVal 445
  let nv := { s.nv with logBlocks := n }
  let nv := if s.nv.logBlocks / 65536 = n / 65536 then nv
    else { nv with past := [], pastAddr := [], pastKey := [], pastKeys := [] }
  showWear (State.useFree { s with nv := nv })

/-- The device takes an address; with STICKY = 1 a device that is not root stores it (R409, R410). -/
def setAddr (a : Nat) (s : State) : State :=
  let was := s.chnAddr
  let s := (s.put Reg.CHN_STATUS F.CHN_STATUS_ADDR a).setFlagIf (decide (was ≠ a)) Reg.CHN_FLAGS F.CHN_FLAGS_ADDR_CHANGED
  if s.root = false ∧ s.on Reg.CHN_CTL F.CHN_CTL_STICKY ∧ a ≠ 0 ∧ s.nv.addr ≠ some a then
    logBlocks { s with nv := { s.nv with addr := some a, pastAddr := s.nv.addr :: s.nv.pastAddr } }
  else s

/-- The device becomes chain root (R408, R412; 14 R363). With an active group it keeps its address (R424). -/
def becomeRoot (s : State) : State :=
  let s := (s.put Reg.CHN_STATUS F.CHN_STATUS_ROOT 1).wr Reg.CHN_HOP 0#32
  let s := (if s.anyRunning ∧ s.chnAddr ≠ 0 then s else setAddr 1 s).put Reg.CHN_STATUS F.CHN_STATUS_ALIGN_WAIT 0
  tbRefresh (chfRoot true { s with chn := { s.chn with claim := none, chfDone := [] } })

/-- It ceases to be root (R408, R424): its timebase is now unaligned. -/
def leaveRoot (s : State) : State :=
  if s.root = false then s
  else
    let s := (s.put Reg.CHN_STATUS F.CHN_STATUS_ROOT 0).put Reg.CHN_STATUS F.CHN_STATUS_STATE 0
    let s := { s with chn := { s.chn with enumAt := none, enumStep := 0, inRounds := 0, outRounds := 0 } }
    let was := s.on Reg.CHN_STATUS F.CHN_STATUS_TB_ALIGNED
    let s := (s.put Reg.CHN_STATUS F.CHN_STATUS_TB_ALIGNED 0).setFlagIf was Reg.CHN_FLAGS F.CHN_FLAGS_ALIGN_LOST
    chfRoot false s

/-! ### Enumeration (R409) -/

/-- CHN_HOP rounded up to whole ticks. -/
def State.hopTicks (s : State) : Nat := (s.rn Reg.CHN_HOP + 255) / 256

/-- GEN, COUNT and RELEASE are loaded; the chain is FORMED. -/
def loadConfig (gen count rel : Nat) (s : State) : State :=
  let s := (s.wn Reg.CHN_GEN (gen % 65536)).wn Reg.CHN_RELEASE (rel % 2 ^ 32)
  let s := (s.put Reg.CHN_STATUS F.CHN_STATUS_COUNT count).put Reg.CHN_STATUS F.CHN_STATUS_STATE 2
  { s with chn := { s.chn with enumStep := 0 } }.setFlag Reg.CHN_FLAGS F.CHN_FLAGS_FORMED

/-- The root has COUNT and DELAY_SUM: CHN_RELEASE of R415, and CONFIG to every device. -/
def finishEnum (gen count sum : Nat) (s : State) : State :=
  let rel := (2048 + sum + 3932 * (count - 1) + 1024) % 2 ^ 32
  let s := queueMsg false 1 0x05 s.chnAddr (leBytes 2 gen ++ leBytes 1 count ++ leBytes 4 rel) s
  loadConfig gen count rel s

/-- An enumeration begins on this device (R409, R423, R425). -/
def beginEnum (s : State) : State :=
  let s := (s.put Reg.CHN_STATUS F.CHN_STATUS_STATE 1).put Reg.CHN_PTP_CTL F.CHN_PTP_CTL_MAP_VALID 0
  { s with chn := { s.chn with mapParts := [] } }.setFlag Reg.CHN_FLAGS F.CHN_FLAGS_TOPO_CHANGE

/-- The root starts an enumeration with a new GEN; one that runs is abandoned. -/
def enumStart (s : State) : State :=
  let gen := (s.rn Reg.CHN_GEN + 1) % 65536
  let s := beginEnum (s.wn Reg.CHN_GEN gen)
  if s.linkUp 1 then
    queueMsg false 1 0x01 s.chnAddr (leBytes 8 2 ++ leBytes 2 gen) { s with chn := { s.chn with enumStep := 1 } }
  else finishEnum gen 1 0 s

/-- ROOT_SEARCH_END (R408, R409): 10 ms after the first release of the SPLL outputs without an upstream link. -/
def rootSearchEnd (s : State) : State :=
  if s.clk.released ∧ s.root = false ∧ s.linkUp 0 = false ∧ s.clk.relRt + 10000 * tickUs ≤ s.rt ∧
      s.get Reg.CHN_STATUS F.CHN_STATUS_STATE = 0 ∧ s.chnAddr = 0 then enumStart (becomeRoot s)
  else s

def execRootSearchEnd (s : State) : Host.Outcome State Fault Refusal := .next (rootSearchEnd s)

/-- ENUMERATION_START (R409): 1 ms after the last TOPO or change of its own downstream link, on the root. -/
def execEnumerationStart (s : State) : Host.Outcome State Fault Refusal :=
  .next (match s.chn.enumAt with
    | none => s
    | some t => if s.root ∧ t ≤ s.rt then enumStart { s with chn := { s.chn with enumAt := none } } else s)

/-- REENUM (R409): ignored unless root. -/
def reenum (s : State) : State := if s.root then enumStart s else s
def execReenum (s : State) : Host.Outcome State Fault Refusal := .next (reenum s)

/-- The claim of this device: an address, and whether a group is active. -/
def State.ownClaim (s : State) : Option (Nat × Bool) :=
  if s.anyRunning ∧ s.chnAddr ≠ 0 then some (s.chnAddr, true)
  else if s.on Reg.CHN_CTL F.CHN_CTL_STICKY then s.nv.addr.map (fun a => (a, s.anyRunning)) else none

/-- The claim that stands and the mask with it; `earlier` tells that an earlier claim of the same address was made with active
groups, which no field of the message says. -/
def makeClaim (mask : Nat) (earlier : Bool) (s : State) : Option (Nat × Bool) × Nat :=
  match s.ownClaim with
  | none => (none, mask)
  | some (a, act) =>
    if bitOf mask a then (if act && !earlier then some (a, act) else none, mask) else (some (a, act), mask + 2 ^ a)

/-- ENUM_CLAIM (R409). -/
def enumClaim (c : Cell) (earlier : Bool) (s : State) : State :=
  let gen := leAt c.data 8 2
  let r := makeClaim (leAt c.data 0 8) earlier s
  let s := beginEnum { s with chn := { s.chn with claim := r.1, claimGen := gen } }
  let data := leBytes 8 r.2 ++ leBytes 2 gen
  if s.linkUp 1 then queueMsg false 1 0x01 c.src.toNat data s else queueMsg false 0 0x02 s.chnAddr data s

def execEnumClaim (c : Cell) (earlier : Bool) (s : State) : Host.Outcome State Fault Refusal := onMsg 0 c s (enumClaim c earlier)

/-- ENUM_RETURN (R409): the root sends the final mask in ENUM_ASSIGN. -/
def enumReturn (c : Cell) (s : State) : State :=
  if s.root = false then forward 1 0x02 c s
  else if s.chn.enumStep = 1 ∧ leAt c.data 8 2 = s.rn Reg.CHN_GEN then
    queueMsg false 1 0x03 s.chnAddr c.data { s with chn := { s.chn with enumStep := 2 } }
  else s

def execEnumReturn (c : Cell) (s : State) : Host.Outcome State Fault Refusal := onMsg 1 c s (enumReturn c)

/-- The lowest address whose bit is clear; 0 where none is. -/
def lowestFree (mask : Nat) : Nat := (((List.range 64).drop 1).find? (fun a => !bitOf mask a)).getD 0

/-- The address this device takes at ASSIGN, and the mask with it; `displaced` tells that a claim made without active groups was
displaced. -/
def takeAddr (mask : Nat) (displaced : Bool) (claim : Option (Nat × Bool)) : Nat × Nat :=
  match claim with
  | some (a, act) =>
    if act || !displaced then (a, mask) else (lowestFree mask, mask + (if lowestFree mask = 0 then 0 else 2 ^ lowestFree mask))
  | none => (lowestFree mask, mask + (if lowestFree mask = 0 then 0 else 2 ^ lowestFree mask))

/-- ENUM_ASSIGN (R409, R410). -/
def enumAssign (c : Cell) (displaced : Bool) (s : State) : State :=
  let gen := leAt c.data 8 2
  if gen ≠ s.chn.claimGen then forward 0 0x03 c s
  else
    let r := takeAddr (leAt c.data 0 8) displaced s.chn.claim
    let s := setAddr r.1 { s with chn := { s.chn with claim := none } }
    let s := s.setFlagIf (decide (r.1 = 0)) Reg.CHN_FLAGS F.CHN_FLAGS_CHAIN_FULL
    if s.linkUp 1 then queueMsg false 1 0x03 c.src.toNat (leBytes 8 r.2 ++ leBytes 2 gen) s
    else queueMsg false 0 0x04 s.chnAddr (leBytes 1 1 ++ leBytes 4 s.hopTicks ++ leBytes 2 gen) s

def execEnumAssign (c : Cell) (displaced : Bool) (s : State) : Host.Outcome State Fault Refusal :=
  onMsg 0 c s (enumAssign c displaced)

/-- ENUM_DONE (R409). -/
def enumDone (c : Cell) (s : State) : State :=
  let count := leAt c.data 0 1 + 1
  let sum := leAt c.data 1 4
  let gen := leAt c.data 5 2
  if s.root = false then
    queueMsg false 0 0x04 c.src.toNat (leBytes 1 count ++ leBytes 4 (sum + s.hopTicks) ++ leBytes 2 gen) s
  else if s.chn.enumStep = 2 ∧ gen = s.rn Reg.CHN_GEN then finishEnum gen count sum s
  else s

def execEnumDone (c : Cell) (s : State) : Host.Outcome State Fault Refusal := onMsg 1 c s (enumDone c)

/-- CONFIG (R409). -/
def config (c : Cell) (s : State) : State :=
  loadConfig (leAt c.data 0 2) (leAt c.data 2 1) (leAt c.data 3 4) (forward 0 0x05 c s)

def execConfig (c : Cell) (s : State) : Host.Outcome State Fault Refusal := onMsg 0 c s (config c)

/-- A change below reaches the root: it enumerates 1 ms after the last one (R409). -/
def topoNoted (s : State) : State :=
  if s.root then { s with chn := { s.chn with enumAt := some (s.rt + 1000 * tickUs) } } else s

/-- TOPO (R409). -/
def topo (c : Cell) (s : State) : State := if s.root then topoNoted s else forward 1 0x06 c s

def execTopo (c : Cell) (s : State) : Host.Outcome State Fault Refusal := onMsg 1 c s (topo c)

/-- The device's own downstream link changed. -/
def downChanged (s : State) : State := if s.root then topoNoted s else queueMsg false 0 0x06 s.chnAddr [] s

/-! ### Links (R404, R405, R424) -/

/-- A chain link comes up (R404, R408), with the receive eye in 1/256 UI. EVENT cells of this device's own wait on. -/
def chainLinkUp (i : Nat) (eye : Nat) (s : State) : State :=
  if s.linkUp i ∨ (i = 1 ∧ s.on Reg.CHN_CTL F.CHN_CTL_DOWN_EN = false) then s
  else
    let s := (s.put Reg.CHN_STATUS (linkFld i) 1).put Reg.CHN_EYE (eyeFld i) eye
    let s := s.setPort i { msgQ := (s.port i).msgQ, ackSince := s.rt }
    if i = 0 then leaveRoot (s.put Reg.CKS_STATUS F.CKS_STATUS_CHREF_OK 1) else downChanged s


/-- TB_ALIGNED falls (R412). -/
def alignLost (s : State) : State :=
  if s.on Reg.CHN_STATUS F.CHN_STATUS_TB_ALIGNED ∧ s.root = false then
    (s.put Reg.CHN_STATUS F.CHN_STATUS_TB_ALIGNED 0).setFlag Reg.CHN_FLAGS F.CHN_FLAGS_ALIGN_LOST
  else s

/-- The time exchange with the upstream neighbour is forgotten. -/
def dropExchange (s : State) : State :=
  { s with chn := { s.chn with t1 := none, exch := 0, sumD := 0, sumO := 0, inRounds := 0, outRounds := 0 } }

/-- The upstream link is gone: a device that may fall back, or that is not on the chain's reference, becomes root (R404, R412). -/
def upstreamLost (s : State) : State :=
  let s := dropExchange (alignLost (s.put Reg.CKS_STATUS F.CKS_STATUS_CHREF_OK 0))
  let s := s.put Reg.CHN_STATUS F.CHN_STATUS_STATE 0
  if s.on Reg.CKS_REF_CTL F.CKS_REF_CTL_FALLBACK || !s.on Reg.CKS_STATUS F.CKS_STATUS_ACTIVE_SRC then topoNoted (becomeRoot s)
  else s

/-- A chain link goes down (R404, R412, R424). -/
def chainLinkDown (i : Nat) (s : State) : State :=
  if s.linkUp i = false then s
  else
    let p := s.port i
    let s := (s.put Reg.CHN_STATUS (linkFld i) 0).setPort i { msgQ := (p.unacked ++ p.msgQ).filter (fun m => m.own) }
    let s := s.setFlag Reg.CHN_FLAGS F.CHN_FLAGS_LINK_DOWN
    if i = 1 then downChanged s else upstreamLost s

/-- The narrowest eye of a port whose link is up is judged: below WARN it sets EYE_LOW where `new` (it is a new measurement, or was not
below WARN before), and below MIN the link goes down (R404). -/
def eyeJudge (i : Nat) (new : Bool) (s : State) : State :=
  let eye := s.get Reg.CHN_EYE (eyeFld i)
  let s := s.setFlagIf (new && decide (eye < s.get Reg.CHN_EYE_MIN F.CHN_EYE_MIN_WARN)) Reg.CHN_FLAGS F.CHN_FLAGS_EYE_LOW
  if eye < s.get Reg.CHN_EYE_MIN F.CHN_EYE_MIN_MIN then chainLinkDown i s else s

/-- The narrowest eye of a port is not below WARN. -/
def State.eyeHigh (s : State) (i : Nat) : Bool :=
  decide (s.get Reg.CHN_EYE_MIN F.CHN_EYE_MIN_WARN ≤ s.get Reg.CHN_EYE (eyeFld i))

/-- A port's receive eye as measured: the narrowest since link-up is kept and judged (R404). -/
def eyeSeen (i eye : Nat) (s : State) : State :=
  if s.linkUp i = false ∨ s.get Reg.CHN_EYE (eyeFld i) ≤ eye then s
  else eyeJudge i true (s.put Reg.CHN_EYE (eyeFld i) eye)

/-- A write of CHN_EYE_MIN: the eyes of the links that are up are judged by the new thresholds (R404). -/
def eyeMinWrite (v : Word) (s : State) : State :=
  let was := s.eyeHigh
  let s := s.applyFields Reg.CHN_EYE_MIN v
  [0, 1].foldl (fun s i => if s.linkUp i then eyeJudge i (was i) s else s) s

/-- CHAIN_LINK_UP: the eye with which the link comes up is judged at once (R404). -/
def execChainLinkUp (i : Fin 2) (eye : Byte) (s : State) : Host.Outcome State Fault Refusal :=
  .next (let t := chainLinkUp i.val eye.toNat s
    if s.linkUp i.val = false ∧ t.linkUp i.val then eyeJudge i.val true t else t)

def execChainLinkDown (i : Fin 2) (s : State) : Host.Outcome State Fault Refusal := .next (chainLinkDown i.val s)

/-- The cells before ACK are accepted by the neighbour (R405); accepted EVENT cells of this device's own await CHF_COMPLETE. -/
def ackCells (i ack : Nat) (s : State) : State :=
  let p := s.port i
  let n := (ack + 256 + p.unacked.length - p.txSeq) % 256
  if n = 0 ∨ p.unacked.length < n then s
  else
    let own := ((p.unacked.take n).filter (fun m => m.own)).map (fun m => leAt m.bytes 3 2 % 2048)
    let again := match p.again with
      | none => none
      | some k => if k < n then (if p.unacked.length = n then none else some 0) else some (k - n)
    let s := s.setPort i { p with unacked := p.unacked.drop n, again := again, rounds := 0, ackSince := s.rt }
    { s with chn := { s.chn with chfDone := s.chn.chfDone ++ own } }

/-- TB_ALIGNED sets (R412). -/
def alignJudge (s : State) : State :=
  if s.root = false ∧ s.linkUp 0 ∧ s.chn.up.peerAligned ∧ 16 ≤ s.chn.inRounds ∧
      s.on Reg.CKS_STATUS F.CKS_STATUS_ACTIVE_SRC ∧ s.on Reg.CHN_STATUS F.CHN_STATUS_TB_ALIGNED = false then
    (s.put Reg.CHN_STATUS F.CHN_STATUS_TB_ALIGNED 1).setFlag Reg.CHN_FLAGS F.CHN_FLAGS_ALIGNED
  else s

/-- IDLE_CELL (R402, R405, R412) with ACK, CREDIT, ALIGNED and the receive eye. -/
def idleCell (i ack credit : Nat) (aligned : Bool) (eye : Nat) (s : State) : State :=
  if s.linkUp i = false then s
  else
    let s := ackCells i ack s
    let s := s.setPort i { s.port i with credit := min 16 credit, peerAligned := aligned }
    let s := if i = 0 then (if aligned then alignJudge s else alignLost s) else s
    eyeSeen i eye s

def execIdleCell (i : Fin 2) (ack credit : Byte) (aligned : Bool) (eye : Byte) (s : State) : Host.Outcome State Fault Refusal :=
  .next (idleCell i.val ack.toNat credit.toNat aligned eye.toNat s)

/-- CELL_RESEND (R405): ACK has not advanced for 2 µs, so the cell slots to come send the unacknowledged cells again. -/
def cellResend (i : Nat) (s : State) : State :=
  let p := s.port i
  if s.linkUp i = false ∨ p.unacked.isEmpty ∨ s.rt < p.ackSince + 2 * tickUs then s
  else if 8 ≤ p.rounds then chainLinkDown i s
  else
    s.setPort i { p with again := some 0, rounds := p.rounds + 1, ackSince := s.rt }

def execCellResend (i : Fin 2) (s : State) : Host.Outcome State Fault Refusal := .next (cellResend i.val s)

/-- A bad cell at this moment: the link goes down on 16 among 256 (R404). -/
def badSeen (i : Nat) (s : State) : State :=
  let p := s.port i
  let l := s.rt :: p.bad.filter (fun t => decide (s.rt < t + 256 * 2048))
  let s := s.setPort i { p with bad := l }
  if 16 ≤ l.length then chainLinkDown i s else s

/-- BAD_CELL (R402, R406): an unknown K character or a bad CRC (`unlisted` none), or a good message cell of an unlisted TYPE with
its LSEQ, which is acknowledged and discarded. -/
def badCell (i : Nat) (unlisted : Option Byte) (s : State) : State :=
  if s.linkUp i = false then s
  else
    match unlisted with
    | none => badSeen i (badCounted s)
    | some l =>
      match acceptMsg i l.toNat s with
      | none => s
      | some s => badCounted s

def execBadCell (i : Fin 2) (unlisted : Option Byte) (s : State) : Host.Outcome State Fault Refusal :=
  .next (badCell i.val unlisted s)

/-! ### Triggers (R414, R415) -/

/-- TRIGGER_CELL: bytes 1 to 13 of a good trigger cell. -/
def triggerCell (i : Nat) (c : List Byte) (s : State) : State :=
  if s.linkUp i = false ∨ (s.port i).prevTrig = some c then s
  else
    let s := s.setPort i { s.port i with prevTrig := some c }
    let s := (queueTrig (1 - i) c s).bump Reg.CHN_TRIGRX 1
    let ts := extendTicks 40 (leAt c 3 5) s.tick
    let release := (ts + leAt c 9 4) % 2 ^ 64
    let s := s.setFlagIf (decide (tickDiff release s.tick < 0)) Reg.CHN_FLAGS F.CHN_FLAGS_TRIG_LATE
    awaitTrig ⟨leAt c 0 1 % 16, release, (ts * 256 + leAt c 8 1) % 2 ^ 72⟩ s

def execTriggerCell (i : Fin 2) (c : List Byte) (s : State) : Host.Outcome State Fault Refusal := .next (triggerCell i.val c s)

/-! ### Timebase alignment (R411, R412) -/

/-- TIME_EXCHANGE_START (R411): every 16 cells towards the upstream partner. -/
def timeExchangeStart (s : State) : State :=
  let p := s.port 0
  if s.linkUp 0 = false ∨ s.rt < s.chn.lastReq + 16 * 2048 then s
  else
    let s := { s with chn := { s.chn with lastReq := s.rt } }
    if p.timeQ.contains none then s else s.setPort 0 { p with timeQ := p.timeQ ++ [none] }

def execTimeExchangeStart (s : State) : Host.Outcome State Fault Refusal := .next (timeExchangeStart s)

/-- TIME_REQ (R411): stamped `back`/256 tick before the present tick count, and answered. -/
def timeReq (back : Nat) (s : State) : State :=
  if s.linkUp 1 = false then s
  else s.setPort 1 { s.port 1 with timeQ := (s.port 1).timeQ ++ [some ((s.now256 + 2 ^ 72 - back) % 2 ^ 72)] }

def execTimeReq (back : BitVec 16) (s : State) : Host.Outcome State Fault Refusal := .next (timeReq back.toNat s)

/-- TIME_RSP (R411): T2, T2_FRAC and RES, stamped on arrival `back`/256 tick before the present tick count. -/
def timeRsp (t2 frac res back : Nat) (s : State) : State :=
  match s.chn.t1 with
  | none => s
  | some t1 =>
    if s.linkUp 0 = false ∨ 256 ≤ s.chn.exch then s
    else
      let t4 : Nat := (s.now256 + 2 ^ 72 - back) % 2 ^ 72
      let d2 : Int := sext 72 (unsx 72 ((t4 : Int) - t1)) - res
      let t2' : Nat := extendTicks 40 t2 s.tick * 256 + frac
      let o2 : Int := 2 * sext 72 (unsx 72 ((t2' : Int) - t1)) - d2 - 2 * sext 16 (s.get Reg.CHN_ASYM F.CHN_ASYM_ASYM)
      { s with chn := { s.chn with t1 := none, exch := s.chn.exch + 1, sumD := s.chn.sumD + d2, sumO := s.chn.sumO + o2 } }

def execTimeRsp (t2 : BitVec 40) (frac : Byte) (res : BitVec 24) (back : BitVec 16) (s : State) :
    Host.Outcome State Fault Refusal := .next (timeRsp t2.toNat frac.toNat res.toNat back.toNat s)

/-- A mean of 256 measurements from the sum of their doubles; the direction of rounding is not stated and free. -/
def meanOf (sum2 : Int) (s : State) : Int :=
  let up := s.freeVal 411 % 2
  if sum2 % 512 = 0 then sum2 / 512 else sum2 / 512 + Int.ofNat up

/-- A running port goes on at the first frame boundary of the stepped counter behind the 1,024 ticks of the hold, with GAP; no instant before the step is compared with one
after it, so a replaced FCH_TS_ADJ is forgotten (17_configuration_images.md R440). -/
def stepPort (s : State) (n : Nat) : State :=
  let s := s.setFch n { s.fch n with adjFrom := none }
  if s.fchState n ≠ 2 then s
  else (s.setFch n { s.fch n with nextFrame := nextBoundary (s.tick + 1024), gapFirst := true }).publish n .endStream

/-- The step of R412 by `o` in 1/256 tick: the counter is loaded so that the offset becomes 0 to the tick, and the outputs are held. -/
def timeStep (o : Int) (s : State) : State :=
  let t := unsx 64 ((s.tick : Int) + roundShift 8 o)
  let s := snapCancel true ((s.wn Reg.CKS_EPOCH (s.rn Reg.CKS_EPOCH + 1)).put Reg.CHN_STATUS F.CHN_STATUS_ALIGN_WAIT 0)
  let s := { s with tick := t, lastFrame := t / 1024 * 1024 }
  let s := { s with chn := { s.chn with t1 := none, exch := 0, sumD := 0, sumO := 0, off := 0 } }
  holdOuts ((List.range 16).foldl stepPort (forgetStops (fun _ => true) s))

/-- The device is aligned to the chain (R411). -/
def State.chainLocked (s : State) : Bool :=
  !s.root && s.linkUp 0 && s.on Reg.CKS_STATUS F.CKS_STATUS_ACTIVE_SRC && s.on Reg.CKS_STATUS F.CKS_STATUS_LOCKED

/-- ALIGNMENT_ROUND_END (R411, R412): after 256 exchanges. -/
def roundEnd (s : State) : State :=
  if s.chn.exch < 256 then s
  else
    let o := meanOf s.chn.sumO s
    let d := meanOf s.chn.sumD s
    let s := ((s.wn Reg.CHN_HOP (unsx 32 d)).wn Reg.CHN_OFFSET (unsx 32 o)).useFree
    let s := { s with chn := { s.chn with exch := 0, sumD := 0, sumO := 0, off := o } }
    if s.chainLocked = false then { s with chn := { s.chn with inRounds := 0, outRounds := 0 } }
    else
      let s := if 256 ≤ o.natAbs then
          (if s.anyRunning then s.put Reg.CHN_STATUS F.CHN_STATUS_ALIGN_WAIT 1 else timeStep o s)
        else { s with chn := { s.chn with slew := max (-16) (min 16 o) } }
      let inR := if o.natAbs ≤ 32 then s.chn.inRounds + 1 else 0
      let outR := if 96 < o.natAbs then s.chn.outRounds + 1 else 0
      let s := { s with chn := { s.chn with inRounds := inR, outRounds := outR } }
      alignJudge (if 4 ≤ outR then alignLost s else s)

def execAlignmentRoundEnd (s : State) : Host.Outcome State Fault Refusal := .next (roundEnd s)

/-- DEFERRED_STEP (R412): taken at the first moment at which no group is active. -/
def deferredStep (s : State) : State :=
  if s.on Reg.CHN_STATUS F.CHN_STATUS_ALIGN_WAIT ∧ s.anyRunning = false ∧ s.chainLocked then timeStep s.chn.off s else s

def execDeferredStep (s : State) : Host.Outcome State Fault Refusal := .next (deferredStep s)

/-- REALIGN (R425): the alignment rounds start anew. -/
def realign (s : State) : State :=
  { s with chn := { s.chn with t1 := none, exch := 0, sumD := 0, sumO := 0, inRounds := 0, outRounds := 0 } }
def execRealign (s : State) : Host.Outcome State Fault Refusal := .next (realign s)

/-! ### Events to the root (R416, R417; 14 R363) -/

/-- CHF_CLAIM: off the root, with the upstream link up and an address, and fewer than 16 cells waiting there. -/
def chfClaim (s : State) : State :=
  if s.root ∨ s.linkUp 0 = false ∨ s.chnAddr = 0 ∨ 16 ≤ (s.port 0).msgQ.length then s
  else
    match s.claimable 2 with
    | none => s
    | some n =>
      let w := n + 2048 * b2n (s.lineHigh n) + 4096 * b2n (s.on (Reg.EVC_SRC_STAT n) F.EVC_SRC_STAT_MERGED)
      let p := s.srcPri n + 16 * (s.rn Reg.CKS_EPOCH % 16)
      let s := claimSource 2 n s
      queueMsg true 0 0x20 s.chnAddr (leBytes 2 w ++ leBytes 1 p ++ leBytes 7 (s.rd64 (Reg.EVC_T_CLAIM_TS_LO 2))) s

def execChfClaim (s : State) : Host.Outcome State Fault Refusal := .next (chfClaim s)

/-- CHF_COMPLETE: the oldest accepted EVENT's source. -/
def chfComplete (s : State) : State :=
  match s.chn.chfDone with
  | [] => s
  | n :: t => complete 2 n { s with chn := { s.chn with chfDone := t } }

def execChfComplete (s : State) : Host.Outcome State Fault Refusal := .next (chfComplete s)

/-- The registers of the remote event FIFO follow its oldest entry (R417). -/
def showRevt (s : State) : State :=
  let s := s.wn Reg.CHN_REVT_STAT s.chn.revt.length
  match s.chn.revt with
  | [] => (s.wr64 Reg.CHN_REVT_TS_LO 0).wr Reg.CHN_REVT_INFO 0#32
  | e :: _ => (s.wr64 Reg.CHN_REVT_TS_LO e.ts).wn Reg.CHN_REVT_INFO (2 ^ 31 + e.info)

/-- EVENT_CELL. -/
def eventCell (c : Cell) (s : State) : State :=
  if s.root = false then forward 1 0x20 c s
  else
    let w := leAt c.data 0 2
    let p := leAt c.data 2 1
    let info := w % 2048 + 2 ^ 15 * (p / 16) + 2 ^ 19 * (p % 16) + 2 ^ 23 * (c.src.toNat % 64) + 2 ^ 29 * (w / 4096 % 2) +
      2 ^ 30 * (w / 2048 % 2)
    let e : Revt := ⟨extendTicks 56 (leAt c.data 3 7) s.tick, info⟩
    (showRevt { s with chn := { s.chn with revt := s.chn.revt ++ [e] } }).setFlag Reg.CHN_FLAGS F.CHN_FLAGS_REVT

def execEventCell (c : Cell) (s : State) : Host.Outcome State Fault Refusal := onMsg 1 c s (eventCell c)

/-- A read of CHN_REVT_INFO: the oldest entry, which leaves the FIFO. -/
def revtRead (s : State) : Word × State :=
  (s.rd Reg.CHN_REVT_INFO, showRevt { s with chn := { s.chn with revt := s.chn.revt.drop 1 } })

/-- REVT_INFO_READ (R417). -/
def execRevtInfoRead (s : State) : Host.Outcome State Fault Refusal := .next (revtRead s).2

/-! ### Group commands (R418 to R420) -/

/-- A command is held until its AT, in order of AT, then of arrival. -/
def insertCmd (c : ChnCmd) : List ChnCmd → List ChnCmd
  | [] => [c]
  | u :: r => if tickBefore c.at_ u.at_ then c :: u :: r else u :: insertCmd c r

def holdCmd (c : ChnCmd) (s : State) : State := { s with chn := { s.chn with cmds := insertCmd c s.chn.cmds } }

/-- The root sends a COMMAND with SCOPE = CHAIN down the chain and holds it (R418, R420); its reply is owed to slot `k`. -/
def chainCommand (op groups at_ k seq : Nat) (s : State) : State :=
  let first := s.tick + s.rn Reg.CHN_RELEASE
  let t := if at_ = 0 ∨ tickDiff at_ first < 0 then first % 2 ^ 64 else at_
  let q := (s.chn.cseq + 1) % 256
  let s := s.zero (((List.range 64).drop 1).map Reg.CHN_RES)
  let s := s.wn Reg.CHN_CMDSTAT q
  let s := { s with chn := { s.chn with cseq := q, cmdAt := t } }
  let s := queueMsg false 1 0x30 s.chnAddr (leBytes 1 op ++ leBytes 1 q ++ leBytes 2 groups ++ leBytes 6 t) s
  holdCmd ⟨op, q, groups, t, false, some (k, seq)⟩ s

/-- CMD (R418, R419): forwarded, and held for its AT; LATE where its content is here only at or after AT. -/
def cmd (c : Cell) (s : State) : State :=
  let t := extendTicks 48 (leAt c.data 4 6) s.tick
  holdCmd ⟨leAt c.data 0 1, leAt c.data 1 1, leAt c.data 2 2, t, decide (tickDiff t s.tick ≤ 0), none⟩ (forward 0 0x30 c s)

def execCmd (c : Cell) (s : State) : Host.Outcome State Fault Refusal := onMsg 0 c s (cmd c)

/-- The group command of an OP of R394: the refusing group and status, or the state. -/
def runGroupOp (op mask : Nat) (s : State) : Option (Nat × Nat) × State :=
  match op with
  | 1 => groupCommand armStatus armGroup mask s
  | 2 => groupCommand haltStatus haltGroup mask s
  | 3 => groupCommand stopStatus stopGroup mask s
  | _ => (some (0xFF, stUnsupported), s)

/-- CHN_CMDSTAT.DONE sets when the answers of all other devices have arrived (R420). -/
def cmdDone (s : State) : State :=
  if s.on Reg.CHN_CMDSTAT F.CHN_CMDSTAT_DONE = false ∧
      s.get Reg.CHN_STATUS F.CHN_STATUS_COUNT ≤ s.get Reg.CHN_CMDSTAT F.CHN_CMDSTAT_NREP + 1 then
    (s.put Reg.CHN_CMDSTAT F.CHN_CMDSTAT_DONE 1).setFlag Reg.CHN_FLAGS F.CHN_FLAGS_CMD_DONE
  else s

/-- CHN_RES of address `a` (R420, R425). -/
def recordRes (a status gstate group : Nat) (late : Bool) (s : State) : State :=
  s.wn (Reg.CHN_RES a) (2 ^ 31 + 2 ^ 30 * b2n late + 2 ^ 16 * (group % 256) + 2 ^ 8 * (gstate % 16) + status % 256)

/-- The outcome of a chain command on this device: on the root it is recorded and answers the host, elsewhere it goes up. -/
def cmdOutcome (c : ChnCmd) (status group : Nat) (s : State) : State :=
  let gst := s.gst (concerned group c.groups)
  if s.root then
    let s := if c.cseq = s.get Reg.CHN_CMDSTAT F.CHN_CMDSTAT_CSEQ then cmdDone (recordRes s.chnAddr status gst group c.late s) else s
    match c.reply with
    | none => s
    | some (k, seq) =>
      match s.session k with
      | none => s
      | some x =>
        if x.busy = false ∨ x.e ≠ seq then s
        else
          let s := s.setFlagIf (decide (status = 1)) Reg.HLK_ERR F.HLK_ERR_STATE
          answer k 0x30 status gst (commandReply c.at_ (s.rn Reg.CKS_EPOCH) group 0) s
  else if s.chnAddr = 0 then s
  else queueMsg false 0 0x31 s.chnAddr (leBytes 1 c.cseq ++ leBytes 2 status ++ leBytes 1 gst ++ leBytes 1 group ++
    leBytes 1 (b2n c.late)) s

/-- The first held command whose AT has come is applied (R418, R419). -/
def chainCmdApply (s : State) : State :=
  match s.chn.cmds with
  | [] => s
  | c :: t =>
    if tickDiff c.at_ s.tick > 0 then s
    else
      let s := { s with chn := { s.chn with cmds := t } }.setFlagIf c.late Reg.CHN_FLAGS F.CHN_FLAGS_CMD_LATE
      match runGroupOp c.op c.groups s with
      | (some (g, st), s) => cmdOutcome c st g s
      | (none, s) => cmdOutcome c 0 0xFF s

/-- CMD_RES (R420). -/
def cmdRes (c : Cell) (s : State) : State :=
  if s.root = false then forward 1 0x31 c s
  else if leAt c.data 0 1 ≠ s.get Reg.CHN_CMDSTAT F.CHN_CMDSTAT_CSEQ then s
  else
    let a := c.src.toNat % 64
    let new := a ≠ 0 && !s.on (Reg.CHN_RES a) F.CHN_RES_VALID
    let late := bitOf (leAt c.data 5 1) 0
    let s := if a = 0 then s else recordRes a (leAt c.data 1 2) (leAt c.data 3 1) (leAt c.data 4 1) late s
    let s := if new then s.put Reg.CHN_CMDSTAT F.CHN_CMDSTAT_NREP (s.get Reg.CHN_CMDSTAT F.CHN_CMDSTAT_NREP + 1) else s
    cmdDone s

def execCmdRes (c : Cell) (s : State) : Host.Outcome State Fault Refusal := onMsg 1 c s (cmdRes c)

/-- CMD_DONE_TIMEOUT (R420): answers missing 1 ms after AT. -/
def cmdTimeout (s : State) : State :=
  if s.root = false ∨ s.get Reg.CHN_CMDSTAT F.CHN_CMDSTAT_CSEQ ≠ s.chn.cseq ∨ s.chn.cmdAt = 0 ∨
      s.on Reg.CHN_CMDSTAT F.CHN_CMDSTAT_DONE ∨ s.on Reg.CHN_CMDSTAT F.CHN_CMDSTAT_TIMEOUT ∨
      tickDiff s.tick s.chn.cmdAt < 1000 * tickUs then s
  else (s.put Reg.CHN_CMDSTAT F.CHN_CMDSTAT_TIMEOUT 1).setFlag Reg.CHN_FLAGS F.CHN_FLAGS_CMD_DONE

def execCmdDoneTimeout (s : State) : Host.Outcome State Fault Refusal := .next (cmdTimeout s)

/-! ### Snapshot and mapping (R421 to R423) -/

/-- SNAP (R421; 19 R479): forwarded, and taken. -/
def snap (c : Cell) (s : State) : State :=
  snapReceive (extendTicks 48 (leAt c.data 0 6) s.tick) (leAt c.data 6 4) (forward 0 0x40 c s)

def execSnap (c : Cell) (s : State) : Host.Outcome State Fault Refusal := onMsg 0 c s (snap c)

/-- The mapping is the one in the registers. -/
def keepMap (s : State) : State :=
  let sec := s.rn Reg.CHN_MAP_SEC_LO + 2 ^ 32 * s.rn Reg.CHN_MAP_SEC_HI
  { s with chn := { s.chn with map := ⟨s.rd64 Reg.CHN_MAP_TICK_LO, sec, s.rn Reg.CHN_MAP_NS, s.rn Reg.CHN_MAP_RATE⟩ } }

/-- The root's mapping is now the one in the registers, and is to be broadcast (R423, R425). -/
def mapTaken (s : State) : State :=
  let s := keepMap s
  { s with chn := { s.chn with mapDirty := true } }

/-- The mapping registers are loaded from the three parts (R423). -/
def loadMap (p0 p1 p2 : List Byte) (s : State) : State :=
  let s := (s.wr64 Reg.CHN_MAP_TICK_LO (leAt p0 0 8)).wn Reg.CHN_MAP_SEC_LO (leAt p1 0 4)
  let s := (s.wn Reg.CHN_MAP_SEC_HI (leAt p1 4 2)).wn Reg.CHN_MAP_NS (leAt p2 0 4)
  (keepMap (s.wn Reg.CHN_MAP_RATE (leAt p2 4 4))).put Reg.CHN_PTP_CTL F.CHN_PTP_CTL_MAP_VALID 1

/-- PTPMAP (R423): forwarded, and gathered with the other parts of its MAPSEQ. -/
def ptpmap (c : Cell) (s : State) : State :=
  let s := forward 0 0x50 c s
  let q := leAt c.data 0 1
  let old := if q = s.chn.mapSeq then s.chn.mapParts else []
  let parts := updateD (fun _ => []) old (leAt c.data 1 1) (c.data.drop 2)
  let full := (List.range 3).all (fun k => parts.any (fun p => p.1 == k))
  let s := { s with chn := { s.chn with mapSeq := q, mapParts := if full then [] else parts } }
  if full then
    loadMap (lookupD (fun _ => []) parts 0) (lookupD (fun _ => []) parts 1) (lookupD (fun _ => []) parts 2) s
  else s

def execPtpmap (c : Cell) (s : State) : Host.Outcome State Fault Refusal := onMsg 0 c s (ptpmap c)

/-- PTPMAP_BROADCAST (R423): on the root, when its mapping has changed, and once per second. -/
def ptpmapBroadcast (s : State) : State :=
  if s.root = false ∨ (s.chn.mapDirty = false ∧ s.rt < s.chn.mapSent + 1000000 * tickUs) then s
  else
    let q := (s.chn.mapSeq + 1) % 256
    let cell := fun (k : Nat) (b : List Byte) (s : State) => queueMsg false 1 0x50 s.chnAddr (leBytes 1 q ++ leBytes 1 k ++ b) s
    let m := s.chn.map
    let s := { s with chn := { s.chn with mapSeq := q, mapSent := s.rt, mapDirty := false } }
    cell 2 (leBytes 4 m.ns ++ leBytes 4 m.rate) (cell 1 (leBytes 6 m.sec) (cell 0 (leBytes 8 m.tick) s))

def execPtpmapBroadcast (s : State) : Host.Outcome State Fault Refusal := .next (ptpmapBroadcast s)

/-- The device is a root with ROLE = MASTER (R422, R425). -/
def State.ptpMaster (s : State) : Bool := s.root && decide (s.get Reg.CHN_PTP_CTL F.CHN_PTP_CTL_ROLE = 2)

/-- A write of CHN_MAP_RATE (R425): on a master root the group takes effect with MAP_TICK at the present tick; ignored elsewhere. -/
def mapRateWrite (v : Word) (s : State) : State :=
  if s.ptpMaster then
    mapTaken ((s.wr Reg.CHN_MAP_RATE v).wr64 Reg.CHN_MAP_TICK_LO s.tick)
  else s

def execMapRateWrite (v : Word) (s : State) : Host.Outcome State Fault Refusal := .next (mapRateWrite v s)

/-! ### Registers (R425) -/

/-- CHN_CNTCLR. -/
def chnCntClr (s : State) : State := s.clearCounts [Reg.CHN_TRIGTX, Reg.CHN_TRIGRX, Reg.CHN_TRIGDROP, Reg.CHN_CRCERR, Reg.CHN_RETX]
def execChnCntclr (s : State) : Host.Outcome State Fault Refusal := .next (chnCntClr s)

/-- The check of a write of a CHN register. -/
def chnCheck (a : Nat) (v : Word) (s : State) : WStat :=
  if a = Reg.CHN_CMD then firstOf [(decide (fldGet F.CHN_CMD_OP v = 3), .valueRefused)]
  else if a = Reg.CHN_EYE_MIN then
    firstOf [(decide (fldGet F.CHN_EYE_MIN_WARN v < fldGet F.CHN_EYE_MIN_MIN v), .valueRefused)]
  else if a = Reg.CHN_MAP_NS then
    firstOf [(s.ptpMaster && decide (1000000000 ≤ fldGet F.CHN_MAP_NS_NS v), .valueRefused)]
  else .ok

/-- An accepted write of a CHN register. -/
def chnApply (a : Nat) (v : Word) (s : State) : State :=
  if a = Reg.CHN_CTL then
    let s := s.applyFields a v
    if s.on Reg.CHN_CTL F.CHN_CTL_DOWN_EN then s else chainLinkDown 1 s
  else if a = Reg.CHN_CMD then
    (match fldGet F.CHN_CMD_OP v with
    | 1 => reenum s
    | 2 => realign s
    | _ => s)
  else if a = Reg.CHN_CNTCLR then (if fldGet F.CHN_CNTCLR_CLR v = 1 then chnCntClr s else s)
  else if a = Reg.CHN_EYE_MIN then eyeMinWrite v s
  else if a = Reg.CHN_MAP_RATE then mapRateWrite v s
  else if a = Reg.CHN_MAP_SEC_LO ∨ a = Reg.CHN_MAP_SEC_HI ∨ a = Reg.CHN_MAP_NS then
    (if s.ptpMaster then s.applyFields a v else s)
  else s.applyFields a v

/-- A host write of a register of the CHN block. -/
def writeChn (a : Nat) (v : Word) (s : State) : WStat × State := s.writeIf a (chnCheck a v s) (chnApply a v)

/-! ### Cell slots (R402, R403, R405, R414; 19 R486) -/

/-- An IDLE cell's content. -/
def idleContent (i : Nat) (s : State) : List Byte :=
  leBytes 1 (s.port i).rxSeq ++ leBytes 1 (s.freeBuf i) ++ leBytes 1 (b2n (s.on Reg.CHN_STATUS F.CHN_STATUS_TB_ALIGNED)) ++
    List.replicate 10 0#8

/-- A TIME cell's content: a request, or the response to a request stamped `t2`, sent at the present tick. -/
def timeContent (t2 : Option Nat) (s : State) : List Byte :=
  match t2 with
  | none => leBytes 1 0x10 ++ leBytes 1 s.chnAddr ++ List.replicate 11 0#8
  | some t =>
    leBytes 1 0x11 ++ leBytes 1 s.chnAddr ++ leBytes 1 0 ++ leBytes 5 (t / 256) ++ leBytes 1 t ++
      leBytes 3 (unsx 24 ((s.now256 : Int) - t)) ++ leBytes 1 0

/-- The last cell of TST_CHNERR has been sent: FIRE clears, or, set by the host in the same cycle, stands for a further injection (00
R22; DESIGN CHOICE, log entry 129). -/
def chnerrSent (s : State) : State :=
  if s.setsNow Reg.TST_CHNERR F.TST_CHNERR_FIRE then
    let x (f : Fld) : Nat := s.get Reg.TST_CHNERR f
    { s with mon := { s.mon with chnerr := some (x F.TST_CHNERR_PORT, x F.TST_CHNERR_KIND, x F.TST_CHNERR_COUNT) } }
  else { s with mon := { s.mon with chnerr := none } }.put Reg.TST_CHNERR F.TST_CHNERR_FIRE 0

/-- What TST_CHNERR does to the next cell of port `i`; `first` tells that it is the first copy of a trigger cell (19 R486). -/
def injectCell (i : Nat) (first : Bool) (s : State) : Nat × State :=
  match s.mon.chnerr with
  | none => (0, s)
  | some (p, kind, left) =>
    if p ≠ i ∨ (kind = 2 ∧ first = false) then (0, s)
    else
      (if kind = 1 then 2 else 1,
        if left ≤ 1 then chnerrSent s else { s with mon := { s.mon with chnerr := some (p, kind, left - 1) } })

/-- A cell leaves port `i`. -/
def sendCell (i k : Nat) (first : Bool) (content : List Byte) (idle : Nat) (s : State) : State :=
  let r := injectCell i first s
  let c := codeCell (r.2.port i).rdPlus k (cellBytes content)
  r.2.setPort i { r.2.port i with sent := ⟨k, cellBytes content, r.1, c.2⟩, rdPlus := c.1, sinceIdle := idle }

/-- A message cell as it leaves, with its LSEQ. -/
def withLseq (b : List Byte) (l : Nat) : List Byte := b.take 2 ++ leBytes 1 l ++ b.drop 3

/-- One cell slot of port `i`, at a tick count that is a multiple of 2,048. -/
def cellSlot (i : Nat) (s : State) : State :=
  let p := s.port i
  if s.linkUp i = false then s
  else if 15 ≤ p.sinceIdle ∨ (14 ≤ p.sinceIdle ∧ p.copies = 0) then sendCell i 0xBC false (idleContent i s) 0 s
  else
    let n := p.sinceIdle + 1
    match p.trigQ with
    | c :: t =>
      let q := if p.copies = 0 then { p with copies := 1 } else { p with trigQ := t, copies := 0 }
      sendCell i 0x3C (decide (p.copies = 0)) c n (s.setPort i q)
    | [] =>
      match p.timeQ with
      | x :: t =>
        let s := s.setPort i { p with timeQ := t }
        let s := if x = none then { s with chn := { s.chn with t1 := some s.now256 } } else s
        sendCell i 0x1C false (timeContent x s) n s
      | [] =>
        match p.again with
        | some k =>
          let first := (p.txSeq + 256 - p.unacked.length) % 256
          let next := if k + 1 < p.unacked.length then some (k + 1) else none
          let c := (p.unacked.map MsgOut.bytes).getD k []
          let s := (s.bump Reg.CHN_RETX 1).setFlag Reg.CHN_FLAGS F.CHN_FLAGS_LINK_ERR
          sendCell i 0x1C false (withLseq c ((first + k) % 256)) n (s.setPort i { p with again := next })
        | none =>
          match p.msgQ with
          | m :: t =>
            if p.unacked.length < min 16 p.credit then
              let since := if p.unacked.isEmpty then s.rt else p.ackSince
              let q := { p with msgQ := t, unacked := p.unacked ++ [m], txSeq := (p.txSeq + 1) % 256, ackSince := since }
              sendCell i 0x1C false (withLseq m.bytes p.txSeq) n (s.setPort i q)
            else sendCell i 0xBC false (idleContent i s) 0 s
          | [] => sendCell i 0xBC false (idleContent i s) 0 s

end Sys2Proof.Machine
end

