-- ==== Sys2Proof/Machine/HostLink.lean ====
section
/-! DEFINITION. The host link below BTP and its timers: links, MAC, IP helpers, DHCPv4, IEEE 1588, the device key, event notices,
session timeouts, registers (15_host_link.md R368 to R374, R380, R396, R400; 14_event_controller.md R361). -/
namespace Sys2Proof.Machine

/-! ### Links (R369, R400) -/

/-- The lanes of interface `n` in the mode in force (R368). -/
def State.lanesOf (s : State) (n : Nat) : List Nat :=
  if s.act Reg.HLK_CTL F.HLK_CTL_MODE < 2 then List.range 4 else [n]

/-- The eyes of the interface's lanes, each made `f` of what it reads and what is measured. -/
def setEyes (f : Nat → Nat → Nat) (n : Nat) (eye : Nat) (s : State) : State :=
  (s.lanesOf n).foldl (fun s l => s.put Reg.HLK_EYE ⟨8 * l, 8⟩ (f (s.get Reg.HLK_EYE ⟨8 * l, 8⟩) (eye / 2 ^ (8 * l) % 256))) s

/-- With auto-negotiation in modes 0 to 2 the link comes up only where the partner offers the PHY and, in mode 2, the FEC that HLK_CTL
selects (R369). -/
def State.linkAgrees (s : State) (x : LinkNote) : Bool :=
  let m := s.act Reg.HLK_CTL F.HLK_CTL_MODE
  m == 3 || s.act Reg.HLK_CTL F.HLK_CTL_AN == 0 ||
    (x.an && x.phys.any (fun p => p.val == m) && (m != 2 || x.fecs.any (fun c => c.val == s.act Reg.HLK_CTL F.HLK_CTL_FEC25)))

/-- LINK_UP: interface `n` gains its link, with the eye of each lane in 1/256 UI. While the link is up, it reports a later measurement
of the eyes: HLK_EYE holds the narrowest (R400). -/
def linkUp (n : Nat) (x : LinkNote) (s : State) : State :=
  if s.ifExists n = false then s
  else if s.hlkUp n then setEyes min n x.eye.toNat s
  else if s.linkAgrees x = false then s
  else (setEyes (fun _ e => e) n x.eye.toNat (s.put Reg.HLK_STATUS ⟨n, 1⟩ 1)).setFlag Reg.HLK_FLAGS F.HLK_FLAGS_LINK_UP

def execLinkUp (n : Fin 4) (eye : LinkNote) (s : State) : Host.Outcome State Fault Refusal := .next (linkUp n.val eye s.noOut)

/-- LINK_DOWN: interface `n` loses its link and the frames that a pause kept back; an eye reads 0 while its lane has none. -/
def linkDown (n : Nat) (s : State) : State :=
  if s.hlkUp n = false then s
  else
    let s := { s with hlk := { s.hlk with held := s.hlk.held.filter (fun x => x.iface != n) } }
    (setEyes (fun _ e => e) n 0 (s.put Reg.HLK_STATUS ⟨n, 1⟩ 0)).setFlag Reg.HLK_FLAGS F.HLK_FLAGS_LINK_DOWN

def execLinkDown (n : Fin 4) (s : State) : Host.Outcome State Fault Refusal := .next (linkDown n.val s.noOut)

/-- MAC_DISCARD (R370): a frame too long, with a bad check sequence, or finding the receive buffer full. -/
def macDiscard (full : Bool) (s : State) : State :=
  (s.bump Reg.HLK_MACDROP 1).setFlagIf full Reg.HLK_FLAGS F.HLK_FLAGS_RX_OVERFLOW

def execMacDiscard (full : Bool) (s : State) : Host.Outcome State Fault Refusal := .next (macDiscard full s.noOut)

/-- Ticks of 512 bit times at the rate of an interface: 100, 25 or 10 Gb/s (R368). -/
def State.quantumTicks (s : State) : Nat :=
  let g := [100, 100, 25, 10].getD (s.act Reg.HLK_CTL F.HLK_CTL_MODE) 100
  512 * tickUs / (g * 1000)

/-- PAUSE_FRAME (R370): the interface sends nothing for `quanta` times 512 bit times; of a priority flow control frame, those of
priority 0, at which the device sends. -/
def pauseFrame (n quanta : Nat) (s : State) : State :=
  if s.ifExists n ∧ s.hlkUp n then s.setHif n { s.hif n with pause := s.rt + quanta * s.quantumTicks } else s

def execPauseFrame (n : Fin 4) (quanta : BitVec 16) (s : State) : Host.Outcome State Fault Refusal :=
  .next (pauseFrame n.val quanta.toNat s.noOut)

/-! ### IP helpers (R373) -/

/-- The MAC address of interface `n`: the factory address plus `n` (R371). -/
def State.macOf (s : State) (n : Nat) : Nat := (s.rn Reg.HLK_MAC_LO + 2 ^ 32 * s.rn Reg.HLK_MAC_HI + n) % 2 ^ 48

/-- ARP_REQUEST: answered for the interface's own address, with the reply's 28 bytes. -/
def arpRequest (n sha : Nat) (spa tpa : Word) (s : State) : State :=
  if s.reachable n false = false ∨ (s.hif n).addr ≠ tpa then s
  else s.emit n 1 (beBytes 2 1 ++ beBytes 2 0x0800 ++ [6#8, 4#8] ++ beBytes 2 2 ++ beBytes 6 (s.macOf n) ++ beBytes 4 tpa.toNat ++
    beBytes 6 sha ++ beBytes 4 spa.toNat)

def execArpRequest (n : Fin 4) (sha : BitVec 48) (spa tpa : Word) (s : State) : Host.Outcome State Fault Refusal :=
  .next (arpRequest n.val sha.toNat spa tpa s.noOut)

/-- The link-local address of interface 0, from its MAC address by modified EUI-64 (R372). -/
def State.linkLocal (s : State) : Nat :=
  let m := s.macOf 0
  0xFE80 * 2 ^ 112 + Nat.xor (m / 2 ^ 24) 0x020000 * 2 ^ 40 + 0xFFFE * 2 ^ 24 + m % 2 ^ 24

/-- The static global address of interface 0; 0 where it has none. -/
def State.ipv6Global (s : State) : Nat :=
  (List.range 4).foldl (fun x w => x + 2 ^ (32 * w) * (s.actWord (Reg.HLK_IPV6_W w)).toNat) 0

/-- NEIGHBOUR_SOLICITATION: answered for the addresses of interface 0, with the target and the interface's MAC address. -/
def neighbourSolicitation (target : Nat) (s : State) : State :=
  if s.reachable 0 true = false then s
  else if target = s.linkLocal ∨ (target ≠ 0 ∧ target = s.ipv6Global) then
    s.emit 0 2 ([136#8, 0#8] ++ beBytes 16 target ++ [2#8, 1#8] ++ beBytes 6 (s.macOf 0))
  else s

def execNeighbourSolicitation (target : BitVec 128) (s : State) : Host.Outcome State Fault Refusal :=
  .next (neighbourSolicitation target.toNat s.noOut)

/-- ECHO_REQUEST: answered where the reply fits the MTU; `data` is the message after its checksum. -/
def echoRequest (n : Nat) (v6 : Bool) (data : List Byte) (s : State) : State :=
  if s.reachable n v6 ∧ (if v6 then 40 else 20) + 4 + data.length ≤ s.act (Reg.HLK_IF_CFG n) F.HLK_IF_CFG_MTU then
    s.emit n 3 ([if v6 then 129#8 else 0#8, 0#8] ++ data)
  else s

def execEchoRequest (n : Fin 4) (v6 : Bool) (data : List Byte) (s : State) : Host.Outcome State Fault Refusal :=
  .next (echoRequest n.val v6 data s.noOut)

/-! ### DHCPv4 (R372) -/

/-- ACTIVE_STATIC and DHCP_BOUND of an interface (R400). -/
def showIf (n : Nat) (s : State) : State :=
  let h := s.hif n
  let s := s.put (Reg.HLK_IF_CFG n) F.HLK_IF_CFG_ACTIVE_STATIC (b2n (h.held && h.dhcp != 2))
  s.put Reg.HLK_STATUS ⟨20 + n, 1⟩ (b2n (h.dhcp == 2))

/-- A DHCPv4 message of the client (R372; laid out as RFC 2131 and RFC 2132 say, PRESUMED, log 140): it asks for address, subnet mask and
router, at a renewal for the address it holds. The transaction identifier is a free value. -/
def State.dhcpMessage (s : State) (n : Nat) (renew : Bool) : List Byte :=
  let zeros (k : Nat) : List Byte := List.replicate k 0#8
  [1#8, 1#8, 6#8, 0#8] ++ beBytes 4 (s.freeVal 14) ++ zeros 4 ++ (if renew then beBytes 4 (s.hif n).addr.toNat else zeros 4) ++
    zeros 12 ++ beBytes 6 (s.macOf n) ++ zeros 202 ++ beBytes 4 0x63825363 ++ [53#8, 1#8, if renew then 3#8 else 1#8] ++
    [55#8, 2#8, 1#8, 3#8, 255#8]

/-- The client sends a request. -/
def dhcpAsk (n : Nat) (renew : Bool) (s : State) : State :=
  ((s.setHif n { s.hif n with asked := s.rt }).useFree).emitFrame
    { iface := n, kind := 4, data := s.dhcpMessage n renew, port := 68, df := true }

/-- The interface takes its static address, mask and router, with the client in a phase. -/
def takeStatic (n phase : Nat) (s : State) : State :=
  let a := s.actWord (Reg.HLK_IF_ADDR n)
  let m := s.actWord (Reg.HLK_IF_MASK n)
  let g := s.actWord (Reg.HLK_IF_GW n)
  showIf n (s.setHif n { s.hif n with addr := a, mask := m, gw := g, held := true, dhcp := phase })

/-- An interface gets its address anew: by DHCPv4, or statically (R372; 18 R468). -/
def startIf (s : State) (n : Nat) : State :=
  if s.ifExists n = false then showIf n (s.setHif n {})
  else if s.act (Reg.HLK_IF_CFG n) F.HLK_IF_CFG_DHCP = 1 then showIf n (dhcpAsk n false (s.setHif n { dhcp := 1, pause := (s.hif n).pause }))
  else takeStatic n 0 (s.setHif n {})

/-- DHCP_REPLY: a server's answer with its lease in seconds. -/
def dhcpReply (n : Nat) (addr mask gw : Word) (lease : Nat) (s : State) : State :=
  let h := s.hif n
  if s.ifExists n = false ∨ s.hlkUp n = false ∨ h.dhcp = 0 then s
  else
    let x : HlkIf := { h with addr := addr, mask := mask, gw := gw, held := true, dhcp := 2, bound := s.rt, lease := lease }
    showIf n (s.setHif n x)

def execDhcpReply (n : Fin 4) (addr mask gw lease : Word) (s : State) : Host.Outcome State Fault Refusal :=
  .next (dhcpReply n.val addr mask gw lease.toNat s.noOut)

/-- DHCP_TIMEOUT: no answer within 10 s. -/
def dhcpTimeout (n : Nat) (s : State) : State :=
  let h := s.hif n
  if h.dhcp ≠ 1 ∨ s.rt < h.asked + 10000000 * tickUs then s
  else (takeStatic n 3 s).setFlag Reg.HLK_FLAGS F.HLK_FLAGS_DHCP_FAIL

def execDhcpTimeout (n : Fin 4) (s : State) : Host.Outcome State Fault Refusal := .next (dhcpTimeout n.val s.noOut)

/-- DHCP_RETRY: every 60 s after a failure. -/
def dhcpRetry (n : Nat) (s : State) : State :=
  let h := s.hif n
  if h.dhcp = 3 ∧ h.asked + 60000000 * tickUs ≤ s.rt then dhcpAsk n false s else s

def execDhcpRetry (n : Fin 4) (s : State) : Host.Outcome State Fault Refusal := .next (dhcpRetry n.val s.noOut)

/-- LEASE_RENEWAL: at half the lease time. -/
def leaseRenewal (n : Nat) (s : State) : State :=
  let h := s.hif n
  let due := h.bound + h.lease * 500000 * tickUs
  if h.dhcp = 2 ∧ due ≤ s.rt ∧ h.asked < due then dhcpAsk n true s else s

def execLeaseRenewal (n : Fin 4) (s : State) : Host.Outcome State Fault Refusal := .next (leaseRenewal n.val s.noOut)

/-- DHCP_RENEW (R400): every interface with a client asks again. -/
def dhcpRenew (s : State) : State := (List.range 4).foldl (fun s n => if (s.hif n).dhcp = 0 then s else dhcpAsk n ((s.hif n).dhcp == 2) s) s

def execDhcpRenew (s : State) : Host.Outcome State Fault Refusal := .next (dhcpRenew s.noOut)

/-- RELINK (R369): sessions and streams end, the links go down and come up anew with the settings now in the registers. -/
def relink (s : State) : State :=
  let s := endSessions s
  let s := (List.range 4).foldl (fun s n => linkDown n s) s
  let s := hlkLoad { s with hlk := { s.hlk with relink := false } }
  (List.range 4).foldl startIf s

def execRelink (s : State) : Host.Outcome State Fault Refusal := .next (relink s.noOut)

/-! ### IEEE 1588 (R374; 16 R422) -/

/-- The bytes of a forwarded event message: residence time added to the correction field, bytes 8 to 15. -/
def addResidence (r : Nat) (d : List Byte) : List Byte :=
  d.take 8 ++ beBytes 8 (ofBe ((d.drop 8).take 8) + r) ++ d.drop 16

/-- PTP time of tick `t` from the mapping, in ns (16 R422). -/
def State.ptpNs (s : State) (t : Nat) : Nat :=
  let d : Int := tickDiff t (s.rd64 Reg.CHN_MAP_TICK_LO)
  let adv : Int := d * 1000 * ((2 : Int) ^ 40 + sext 32 (s.rn Reg.CHN_MAP_RATE)) / (163840 * (2 : Int) ^ 40)
  (((s.rn Reg.CHN_MAP_SEC_HI % 65536 * 2 ^ 32 + s.rn Reg.CHN_MAP_SEC_LO) * 1000000000 + s.rn Reg.CHN_MAP_NS : Nat) + adv).toNat

/-- A PTP timestamp: 48 bits of seconds, 32 bits of nanoseconds. -/
def State.ptpStamp (s : State) (t : Nat) : List Byte :=
  beBytes 6 (s.ptpNs t / 1000000000) ++ beBytes 4 (s.ptpNs t % 1000000000)

/-- A message of type `typ` that answers or follows message `d`: its header, a timestamp, and what follows that (IEEE 1588-2019,
PRESUMED, log 141). -/
def ptpAnswer (typ : Nat) (d stamp rest : List Byte) : List Byte :=
  [BitVec.ofNat 8 ((d.headD 0#8).toNat / 16 * 16 + typ)] ++ (d.drop 1).take 1 ++ beBytes 2 (44 + rest.length) ++ (d.drop 4).take 30 ++
    stamp ++ rest

/-- The identity of the port that sent a message. -/
def ptpPortOf (d : List Byte) : List Byte := (d.drop 20).take 10

/-- What an ordinary clock sends on an event message that it receives at tick `t`: to a Pdelay_Req the response and its follow-up, and,
as a master, to a Delay_Req the response (16 R422). -/
def ptpRespond (n t : Nat) (master : Bool) (d : List Byte) (s : State) : State :=
  let typ := (d.headD 0#8).toNat % 16
  if typ = 2 then
    (s.emit n 5 (ptpAnswer 3 d (s.ptpStamp t) (ptpPortOf d))).emit n 5 (ptpAnswer 10 d (s.ptpStamp t) (ptpPortOf d))
  else if typ = 1 ∧ master then s.emit n 5 (ptpAnswer 9 d (s.ptpStamp t) (ptpPortOf d))
  else s

/-- What an ordinary clock sends at tick `t`: a Sync of a master holds its time (one-step) or is followed by a message that does
(two-step); any other message goes as it is (16 R422). -/
def ptpSend (n t : Nat) (master : Bool) (d : List Byte) (s : State) : State :=
  if master ∧ (d.headD 0#8).toNat % 16 = 0 then
    if bitOf (leAt d 6 1) 1 then (s.emit n 5 d).emit n 5 (ptpAnswer 8 d (s.ptpStamp t) [])
    else s.emit n 5 (d.take 34 ++ s.ptpStamp t ++ d.drop 44)
  else s.emit n 5 d

/-- A slave takes the mapping that its servo forms. -/
def ptpFollow (m : PtpMsg) (s : State) : State :=
  match m.mapping with
  | none => s
  | some (t, sec, ns, rate) =>
    let s := (s.wr64 Reg.CHN_MAP_TICK_LO t.toNat).wn Reg.CHN_MAP_SEC_LO (sec.toNat % 2 ^ 32)
    mapTaken (((s.wn Reg.CHN_MAP_SEC_HI (sec.toNat / 2 ^ 32)).wn Reg.CHN_MAP_NS ns.toNat).wr Reg.CHN_MAP_RATE rate)

/-- An event message is timestamped, to a tick, and handled by the role in force. A slave sends its own Delay_Req and Pdelay_Req, a
master its Syncs. -/
def ptpEvent (m : PtpMsg) (s : State) : State :=
  let n := m.iface.val
  if s.ifExists n = false ∨ s.hlkUp n = false ∨ s.dev = devBoot then s
  else
    let t := (s.tick + m.sub.val) % 2 ^ 64
    let s := { s with hlk := { s.hlk with ptpTs := t } }
    let role := s.get Reg.CHN_PTP_CTL F.CHN_PTP_CTL_ROLE
    if role = 3 ∧ s.act Reg.HLK_CTL F.HLK_CTL_MODE = 2 ∧ m.received then
      (((List.range 4).filter (fun i => i != n && s.hlkUp i)).foldl (fun s i => s.emit i 5 (addResidence m.resid.toNat m.data)) s)
    else if (role = 1 ∨ role = 2) ∧ s.root ∧ m.domain.toNat = s.get Reg.CHN_PTP_CTL F.CHN_PTP_CTL_DOMAIN then
      if m.received then ptpRespond n t (role == 2) m.data (if role = 1 then ptpFollow m s else s)
      else ptpSend n t (role == 2) m.data s
    else s

/-- PTP_EVENT_MESSAGE (R374). -/
def execPtpEventMessage (m : PtpMsg) (s : State) : Host.Outcome State Fault Refusal := .next (ptpEvent m s.noOut)

/-! ### Device key (R380) -/

/-- HLK_STATUS.KEY_SET follows the store. -/
def showKey (s : State) : State := s.put Reg.HLK_STATUS F.HLK_STATUS_KEY_SET (b2n s.nv.key.isSome)

/-- KEY_COMMIT: K is stored and the key registers read 0 again. -/
def keyCommit (s : State) : State :=
  let k := (List.range 8).flatMap (fun i => leBytes 4 (s.rn (Reg.HLK_KEY i)))
  let s := s.zero ((List.range 8).map Reg.HLK_KEY)
  showKey (logBlocks { s with nv := { s.nv with key := some k, pastKey := s.nv.key :: s.nv.pastKey } })

def execKeyCommit (s : State) : Host.Outcome State Fault Refusal := .next (keyCommit s.noOut)

/-- KEY_ERASE. -/
def keyErase (s : State) : State :=
  showKey (logBlocks { s with nv := { s.nv with key := none, pastKey := s.nv.key :: s.nv.pastKey } })

/-! ### Registers (R400) -/

/-- The check of a write of an HLK register from a session that is authenticated or not. -/
def hlkCheck (a : Nat) (v : Word) (auth : Bool) (s : State) : WStat :=
  if a = Reg.HLK_CTL then
    let w := fldGet F.HLK_CTL_WINDOW v
    firstOf [(decide (w = 0) || decide (64 < w) || decide (fldGet F.HLK_CTL_FEC25 v = 3), .valueRefused)]
  else if a = Reg.HLK_UDP_PORT then firstOf [([0, 68, 319, 320].contains (fldGet F.HLK_UDP_PORT_PORT v), .valueRefused)]
  else if (List.range 4).any (fun n => a == Reg.HLK_IF_CFG n) then
    let m := fldGet F.HLK_IF_CFG_MTU v
    firstOf [(decide (m < 1280) || decide (9198 < m), .valueRefused)]
  else if a = Reg.HLK_CMD then
    let op := fldGet F.HLK_CMD_OP v
    firstOf [(decide (5 ≤ op) || (op == 3 && !auth), .valueRefused)]
  else if a = Reg.HLK_SESS_TO then firstOf [(decide (v.toNat < 100), .valueRefused)]
  else if a = Reg.HLK_RTO then
    firstOf [(decide (fldGet F.HLK_RTO_EVT v = 0) || decide (fldGet F.HLK_RTO_DATA v = 0), .valueRefused)]
  else if Reg.HLK_KEY 0 ≤ a ∧ a ≤ Reg.HLK_KEY 7 then firstOf [(s.nv.key.isSome && !auth, .valueRefused)]
  else .ok

/-- KEY_ERASE (R380), from a session that is authenticated or not. -/
def execKeyErase (auth : Bool) (s : State) : Host.Outcome State Fault Refusal :=
  .next (s.noOut.writeIf Reg.HLK_CMD (hlkCheck Reg.HLK_CMD 3#32 auth s) keyErase).2

/-- HLK_CNTCLR. -/
def hlkCntClr (s : State) : State :=
  s.clearCounts [Reg.HLK_RXCNT, Reg.HLK_TXCNT, Reg.HLK_DUPCNT, Reg.HLK_DROPCNT, Reg.HLK_AUTHFAIL, Reg.HLK_RETXCNT, Reg.HLK_MACDROP]

def execHlkCntclr (s : State) : Host.Outcome State Fault Refusal := .next (hlkCntClr s.noOut)

/-- An accepted write of an HLK register; RELINK is owed until the reply has been sent. -/
def hlkApply (a : Nat) (v : Word) (s : State) : State :=
  if a = Reg.HLK_CMD then
    match fldGet F.HLK_CMD_OP v with
    | 1 => { s with hlk := { s.hlk with relink := true } }
    | 2 => keyCommit s
    | 3 => keyErase s
    | 4 => dhcpRenew s
    | _ => s
  else if a = Reg.HLK_CNTCLR then (if fldGet F.HLK_CNTCLR_CLR v = 1 then hlkCntClr s else s)
  else if Reg.HLK_KEY 0 ≤ a ∧ a ≤ Reg.HLK_KEY 7 ∧ a % 4 = 0 then s.wr a v
  else s.applyFields a v

/-- A host write of a register of the HLK block. -/
def writeHlk (a : Nat) (v : Word) (auth : Bool) (s : State) : WStat × State := s.writeIf a (hlkCheck a v auth s) (hlkApply a v)

/-! ### Timers and event notices (R377, R396; 14 R361) -/

/-- SESSION_TIMEOUT (R377). -/
def sessionTimeout (k : Nat) (s : State) : State :=
  match s.session k with
  | none => s
  | some x => if x.last + s.rn Reg.HLK_SESS_TO * 1000 * tickUs ≤ s.rt then endSession k s else s

def execSessionTimeout (k : Fin 8) (s : State) : Host.Outcome State Fault Refusal := .next (sessionTimeout k.val s.noOut)

/-- The slot of the session with event delivery. -/
def State.evtSlot (s : State) : Option Nat :=
  match s.hlk.sess.find? (fun p => p.2.events) with
  | none => none
  | some p => some p.1

/-- HNT_CLAIM (14 R361): the notifier claims one deliverable source and sends it. -/
def hntClaim (s : State) : State :=
  match s.evtSlot with
  | none => s
  | some k =>
    match s.session k with
    | none => s
    | some x =>
      let held := s.liveSources.countP (fun n => s.srcInsvc n 1)
      if s.on (Reg.EVC_T_CTL 1) F.EVC_T_CTL_AUTO = false ∨ s.get (Reg.EVC_T_CTL 1) F.EVC_T_CTL_WINDOW ≤ held then s
      else
        match s.claimable 1 with
        | none => s
        | some n =>
          let live := b2n (s.lineHigh n)
          let merged := b2n (s.on (Reg.EVC_SRC_STAT n) F.EVC_SRC_STAT_MERGED)
          let s := claimSource 1 n s
          let rec_ := leBytes 2 n ++ leBytes 1 (s.srcPri n) ++ leBytes 1 (live + 2 * merged) ++ leBytes 4 (s.rn Reg.CKS_EPOCH) ++
            leBytes 8 (s.rd64 (Reg.EVC_T_CLAIM_TS_LO 1))
          let data := leBytes 1 1 ++ leBytes 3 0 ++ rec_
          let e : EvOut := ⟨x.evseq, data, 1, s.rt⟩
          let s := s.setSession k { x with evseq := (x.evseq + 1) % 2 ^ 32, evs := x.evs ++ [e] }
          notify x 0x40 x.evseq 0 data s

def execHntClaim (s : State) : Host.Outcome State Fault Refusal := .next (hntClaim s.noOut)

/-- EVENT_RTO (R396): an unacknowledged EVENT is sent again; after 16 sends the session ends. -/
def eventRto (k : Nat) (s : State) : State :=
  match s.session k with
  | none => s
  | some x =>
    match x.evs.find? (fun e => decide (e.since + s.get Reg.HLK_RTO F.HLK_RTO_EVT * tickUs ≤ s.rt)) with
    | none => s
    | some e =>
      if 16 ≤ e.sends then endSession k s
      else
        let l := x.evs.map (fun y => if y.evseq = e.evseq then { y with sends := y.sends + 1, since := s.rt } else y)
        notify x 0x40 e.evseq 0 e.data (s.setSession k { x with evs := l })

def execEventRto (k : Fin 8) (s : State) : Host.Outcome State Fault Refusal := .next (eventRto k.val s.noOut)

end Sys2Proof.Machine
end

