-- ==== Sys2Proof/Machine/ImageFmt.lean ====
section
/-! DEFINITION. The container of a configuration image and its checks FORMAT to PART (17_configuration_images.md R429 to R433,
R436). -/
namespace Sys2Proof.Machine

/-- A section of an image (R430). -/
structure ImgSect where
  typ    : Nat
  region : Nat
  crit   : Bool
  off    : Nat
  len    : Nat
  crc    : Nat
  data   : List Byte
  deriving DecidableEq, Repr

/-- The reasons of a refusal (R436). -/
def detBadParam : Nat := 0x01
def detBusy : Nat := 0x02
def detNotReady : Nat := 0x03
def detEmptySlot : Nat := 0x04
def detFormat : Nat := 0x05
def detCrc : Nat := 0x06
def detKey : Nat := 0x07
def detSignature : Nat := 0x08
def detPart : Nat := 0x09
def detValue : Nat := 0x0A
def detBinding : Nat := 0x0B
def detStreams : Nat := 0x0C
def detAccumulator : Nat := 0x0D
def detStimLatency : Nat := 0x0E
def detMemory : Nat := 0x0F
def detFabricPlan : Nat := 0x10
def detNotLocked : Nat := 0x11
def detMargin : Nat := 0x12
def detRegionBusy : Nat := 0x13
def detRegionFixed : Nat := 0x14

/-- The value of DEV_ID (R429 PART). -/
def devId : Nat := 0x9144AF00

/-- Header fields (R429). -/
def imgTotal (b : List Byte) : Nat := leAt b 0x08 4
def imgSects (b : List Byte) : Nat := leAt b 0x0C 2
def imgPartial (b : List Byte) : Bool := leAt b 0x0E 2 % 2 == 1
def imgId (b : List Byte) : Nat := leAt b 0x18 8
def imgVersion (b : List Byte) : Nat := leAt b 0x20 4
def imgKey (b : List Byte) : Nat := leAt b 0x24 1

/-- Entry `i` of the section table (R430). -/
def sectAt (b : List Byte) (i : Nat) : ImgSect :=
  let e := 0x40 + 16 * i
  let off := leAt b (e + 4) 4
  let len := leAt b (e + 8) 4
  { typ := leAt b e 2, region := leAt b (e + 2) 1, crit := leAt b (e + 3) 1 % 2 == 1, off := off, len := len,
    crc := leAt b (e + 12) 4, data := (b.drop off).take len }

/-- The section table. -/
def sectsOf (b : List Byte) : List ImgSect := (List.range (imgSects b)).map (sectAt b)

/-- The types of R431. -/
def sectKnown (t : Nat) : Bool := decide (1 ≤ t) && decide (t ≤ 9)

/-- Bytes per entry of a type; 1 where it has no entries (R431). -/
def entrySize (t : Nat) : Nat := [1, 8, 1, 8, 4, 16, 8, 1, 4, 1].getD t 1

/-- The REGION that R431 gives a type; none where it is free. -/
def fixedRegion (t : Nat) : Option Nat :=
  match t with
  | 5 => some 5
  | 6 => some 6
  | 7 => some 6
  | 8 => some 0xFF
  | 9 => some 0xFF
  | _ => none

/-- A section table entry keeps R430 and R431. -/
def sectFormat (total tableEnd : Nat) (x : ImgSect) : Bool :=
  (decide (x.region ≤ 7) || x.region == 0xFF) && x.off % 64 == 0 && decide (tableEnd ≤ x.off) &&
    decide (x.off + x.len + 64 ≤ total) &&
    (if sectKnown x.typ then
      (match fixedRegion x.typ with
        | none => true
        | some r => x.region == r) &&
      ((x.typ != 2 && x.typ != 3) || decide (x.region ≤ 7)) && x.len % entrySize x.typ == 0 &&
      (x.typ != 7 || decide (8 ≤ x.len))
    else !x.crit)

/-- Two sections share bytes (R430). -/
def sectsMeet (x y : ImgSect) : Bool :=
  decide (0 < x.len) && decide (0 < y.len) && decide (x.off < y.off + y.len) && decide (y.off < x.off + x.len)

/-- No two sections of a list share bytes. -/
def sectsApart : List ImgSect → Bool
  | [] => true
  | x :: t => t.all (fun y => !sectsMeet x y) && sectsApart t

/-- The byte of the regions for which an image holds sections (R429 REGIONS). -/
def regionsByte (l : List ImgSect) : Nat :=
  (List.range 8).foldl (fun m r => if l.any (fun x => x.region == r) then m + 2 ^ r else m) 0

/-- Header, section table and TOTAL_LEN keep R429 to R431. -/
def imgFormat (b : List Byte) : Bool :=
  decide (128 ≤ b.length) && leAt b 0 4 == 0x474D4952 && leAt b 4 2 == 1 && leAt b 6 2 == 0x40 && decide (leAt b 0x0E 2 < 2) &&
    imgTotal b % 64 == 0 && decide (128 ≤ imgTotal b) && decide (imgTotal b ≤ 8388608) && decide (imgTotal b ≤ b.length) &&
    decide (1 ≤ imgSects b) && decide (imgSects b ≤ 1024) && decide (0x40 + 16 * imgSects b + 64 ≤ imgTotal b) &&
    leAt b 0x26 2 == 0 && leAt b 0x30 16 == 0 &&
    (sectsOf b).all (sectFormat (imgTotal b) (0x40 + 16 * imgSects b)) && sectsApart (sectsOf b) &&
    leAt b 0x25 1 == regionsByte (sectsOf b)

/-- Every section's CRC is right (R430). -/
def imgCrc (b : List Byte) : Bool := (sectsOf b).all (fun x => crc32 x.data == x.crc)

/-- The public point of key `k`, where it is installed (R433). -/
def State.keyPoint (s : State) (k : Nat) : Option (Nat × Nat) :=
  if k = 0 then some Config.key0
  else
    match s.nv.keys.find? (fun p => p.1 == k) with
    | none => none
    | some p => some p.2

/-- The signature block verifies under a key (R432). -/
def imgSigned (q : Nat × Nat) (b : List Byte) : Bool :=
  let n := imgTotal b
  let sig := (b.drop (n - 64)).take 64
  ecdsaVerify q.1 q.2 (sha256 (b.take (n - 64))) (ofBe (sig.take 32)) (ofBe (sig.drop 32))

/-- The checks FORMAT to PART of R436 on an image's bytes: 0, or the first failed one. `whole`: PARTIAL is refused. -/
def imgCheck (s : State) (whole : Bool) (b : List Byte) : Nat :=
  if imgFormat b = false ∨ (whole ∧ imgPartial b) then detFormat
  else if imgCrc b = false then detCrc
  else
    match s.keyPoint (imgKey b) with
    | none => detKey
    | some q =>
      if imgSigned q b = false then detSignature
      else if leAt b 0x10 4 ≠ devId ∨ leAt b 0x14 4 > s.rn Reg.DEV_STEPPING then detPart
      else 0

/-! ### Section contents (R431) -/

/-- The entries of a section: `n` bytes each; `fuel` bounds their number. -/
def entriesOf (n : Nat) : Nat → List Byte → List (List Byte)
  | 0, _ => []
  | _ + 1, [] => []
  | f + 1, b => b.take n :: entriesOf n f (b.drop n)

/-- The entries of every section of a type, in image order. -/
def typeEntries (t : Nat) (l : List ImgSect) : List (List Byte) :=
  (l.filter (fun x => x.typ == t)).flatMap (fun x => entriesOf (entrySize t) (x.len / entrySize t) x.data)

/-- REGWRITE pairs: address, value. -/
def regWrites (l : List ImgSect) : List (Nat × Word) :=
  (typeEntries 1 l).map (fun e => (leAt e 0 4, BitVec.ofNat 32 (leAt e 4 4)))

/-- LANES entries: lane, rate, source and destination region. -/
def laneEntries (l : List ImgSect) : List (Nat × Nat × Nat × Nat) :=
  (typeEntries 3 l).map (fun e => (leAt e 0 2, leAt e 2 2, leAt e 4 1, leAt e 5 1))

/-- GROUPS entries: class, index, group. -/
def groupEntries (l : List ImgSect) : List (Nat × Nat × Nat) :=
  (typeEntries 4 l).map (fun e => (leAt e 0 1, leAt e 1 1, leAt e 2 1))

/-- STREAMS entries. -/
def streamEntries (l : List ImgSect) : List StreamDef :=
  (typeEntries 5 l).map (fun e =>
    { group := leAt e 0 1, stream := leAt e 1 1, src := leAt e 2 1, mode := leAt e 3 1, log2D := leAt e 4 1,
      log2W := leAt e 5 1, format := leAt e 6 1 })

/-- FLOWS entries: flow, MB/s. -/
def flowEntries (l : List ImgSect) : List (Nat × Nat) := (typeEntries 6 l).map (fun e => (leAt e 0 2, leAt e 4 4))

/-- PMEM sections: address, bytes. -/
def pmemLoads (l : List ImgSect) : List (Nat × List Byte) :=
  (l.filter (fun x => x.typ == 7)).map (fun x => (leAt x.data 0 4, x.data.drop 8))

/-- EVENTS entries: source, configuration. -/
def eventEntries (l : List ImgSect) : List (Nat × Nat) := (typeEntries 8 l).map (fun e => (leAt e 0 2, leAt e 2 2))

end Sys2Proof.Machine
end

