-- ==== Sys2Proof/Machine/Store.lean ====
section
/-! DEFINITION. The non-volatile store and its commands, shadow lists, and the CFG registers (17_configuration_images.md R426 to
R428, R433, R439 to R441, R444 to R447). -/
namespace Sys2Proof.Machine

/-! ### Slots and the staging area (R426, R434) -/

/-- The staging address. -/
def State.stageAddr (s : State) : Nat := s.rd64 Reg.CFG_STAGE_LO

/-- The image in slot 0, 1 or 2. -/
def State.slotImage (s : State) (k : Nat) : Option (List Byte) :=
  if k = 2 then some Config.golden
  else
    match s.nv.slots.find? (fun p => p.1 == k) with
    | none => none
    | some p => some p.2

/-- The image at the staging address; no bytes where it does not lie in memory or its TOTAL_LEN is not a legal one (R429, R447).
Poisoned bytes are taken as read. -/
def stagedImage (s : State) : List Byte × State :=
  let a := s.stageAddr
  if a + 64 > s.capacity then ([], s)
  else
    let r := memRead a 64 s
    let n := imgTotal r.1
    if n < 128 ∨ n > 8388608 ∨ a + n > s.capacity then ([], r.2.2)
    else
      let q := memRead a n r.2.2
      (q.1, q.2.2)

/-- CFG_SLOT*s* registers of slot `k` follow the store. -/
def showSlot (k : Nat) (s : State) : State :=
  let w := min 0xFFFFFF (lookupD (fun _ => 0) s.nv.slotWrites k)
  match s.slotImage k with
  | none => (s.wn (Reg.CFG_SLOT_STATUS k) w).zero [Reg.CFG_SLOT_ID_LO k, Reg.CFG_SLOT_ID_HI k, Reg.CFG_SLOT_VER k]
  | some b =>
    ((s.wn (Reg.CFG_SLOT_STATUS k) (2 ^ 31 + 2 ^ 24 * (imgKey b % 4) + w)).wr64 (Reg.CFG_SLOT_ID_LO k) (imgId b)).wn
      (Reg.CFG_SLOT_VER k) (imgVersion b)

/-- CFG_KEYSTAT follows the store. -/
def showKeys (s : State) : State := s.wn Reg.CFG_KEYSTAT (1 + s.nv.keys.foldl (fun m p => m + 2 ^ p.1) 0)

/-- The slots' and keys' registers, and CFG_WEAR, follow the store. -/
def showStore (s : State) : State := showWear (showKeys (showSlot 2 (showSlot 1 (showSlot 0 s))))

/-! ### Store commands (R433, R439, R444, R447) -/

/-- CFG_STATUS.RESULT. -/
def resOk : Nat := 1
def resRefused : Nat := 2
def resNvFail : Nat := 3

/-- A CFG_CMD operation ends. -/
def cfgEnd (result : Nat) (s : State) : State :=
  let s := (s.put Reg.CFG_STATUS F.CFG_STATUS_RESULT result).put Reg.CFG_STATUS F.CFG_STATUS_BUSY 0
  let s := s.setFlagIf (result == resNvFail) Reg.CFG_FLAGS F.CFG_FLAGS_NV_FAIL
  s.setFlag Reg.CFG_FLAGS F.CFG_FLAGS_CMD_DONE

/-- It ends refused; DETAIL changes where R436 names the reason. -/
def cfgRefuse (detail : Option Nat) (s : State) : State :=
  match detail with
  | none => cfgEnd resRefused s
  | some d => cfgEnd resRefused (s.put Reg.CFG_STATUS F.CFG_STATUS_DETAIL d)

/-- Slot `k` loses its image. -/
def emptySlot (k : Nat) (s : State) : State :=
  showSlot k { s with nv := { s.nv with slots := eraseKey k s.nv.slots } }

/-- SLOT_WRITE (R439): the staged image is checked; one that passes is on its way to the slot, which holds no image meanwhile. -/
def slotWrite (k : Nat) (s : State) : State :=
  let r := stagedImage s
  let d := imgCheck r.2 false r.1
  if d ≠ 0 then cfgRefuse (some d) r.2
  else
    let s := emptySlot k r.2
    let s := s.put Reg.CFG_STATUS F.CFG_STATUS_BUSY 1
    { s with cfg := { s.cfg with writing := some (k, r.1) } }

/-- The slot write ends with its seal block, or fails and leaves the slot empty (R439, R446, R447). -/
def slotWriteDone (ok : Bool) (s : State) : State :=
  match s.cfg.writing with
  | none => s
  | some (k, b) =>
    let s := { s with cfg := { s.cfg with writing := none } }
    if ok = false then cfgEnd resNvFail s
    else
      let w := min 0xFFFFFF (lookupD (fun _ => 0) s.nv.slotWrites k + 1)
      cfgEnd resOk (showSlot k { s with nv := { s.nv with
        slots := insertKey k b (eraseKey k s.nv.slots), slotWrites := updateD (fun _ => 0) s.nv.slotWrites k w } })

/-- A store write that fails its read-back check leaves its target as it was (R447). -/
def storeWrite (ok : Bool) (f : State → State) (s : State) : State := if ok then cfgEnd resOk (f s) else cfgEnd resNvFail s

/-- The registers of the first five items of R444, with the bits of each that are saved. -/
def settingRegs : List (Nat × Nat) :=
  [(Reg.CFG_CTL, 0xFFFFFFFF), (Reg.CKS_REF_CTL, 0xFFFFFFFF), (Reg.CKS_MDLL_CTL 0, 0xFFFFFFFF), (Reg.HLK_CTL, 0xFFFFFFFF),
    (Reg.HLK_UDP_PORT, 0xFFFFFFFF)] ++
  (List.range 4).flatMap (fun n => [(Reg.HLK_IF_ADDR n, 0xFFFFFFFF), (Reg.HLK_IF_MASK n, 0xFFFFFFFF),
    (Reg.HLK_IF_GW n, 0xFFFFFFFF), (Reg.HLK_IF_CFG n, 0x80003FFF)]) ++
  (List.range 4).map (fun n => (Reg.HLK_IPV6_W n, 0xFFFFFFFF)) ++
  [(Reg.CHN_CTL, 0xFFFFFFFF), (Reg.CHN_ASYM, 0xFFFFFFFF), (Reg.CHN_PTP_CTL, 0xFF03)]

/-- The values of the first five items stay in the log behind the records that follow them (R445). -/
def keepSaved (nv : NvHid) : NvHid :=
  { nv with past := settingRegs.foldl (fun m p => pushPast (lookup? nv.saved p.1) p.1 m) nv.past }

/-- SAVE_SETTINGS: the present values of the first five items and a commit record enter the log (R444, R445). -/
def saveSettings (s : State) : State :=
  logBlocks { s with nv := { keepSaved s.nv with saved := settingRegs.map (fun p => (p.1, s.rd p.1 &&& BitVec.ofNat 32 p.2)) } }

/-- ERASE_SETTINGS removes them and the chain address (R444). -/
def eraseSettings (s : State) : State :=
  logBlocks { s with nv := { keepSaved s.nv with saved := [], addr := none, pastAddr := s.nv.addr :: s.nv.pastAddr } }

/-- A record of integrator key `k`, or of its absence (R433, R445). -/
def keyRecord (k : Nat) (v : Option (Nat × Nat)) (s : State) : State :=
  showKeys (logBlocks { s with nv := { s.nv with
    keys := setKey s.nv.keys k v, pastKeys := pushPast (lookup? s.nv.keys k) k s.nv.pastKeys } })

/-- KEY_INSTALL from the staging area (R433). -/
def keyInstall (k : Nat) (ok : Bool) (s : State) : State :=
  let a := s.stageAddr
  if a + 64 > s.capacity then cfgRefuse none s
  else
    let r := memRead a 64 s
    let x := ofBe (r.1.take 32)
    let y := ofBe (r.1.drop 32)
    if onCurve x y = false then cfgRefuse none r.2.2
    else
      storeWrite ok (keyRecord k (some (x, y))) r.2.2

/-- KEY_REMOVE (R433). -/
def keyRemove (k : Nat) (ok : Bool) (s : State) : State :=
  storeWrite ok (keyRecord k none) s

/-- KEY_EXPORT to the staging area (R433). -/
def keyExport (k : Nat) (s : State) : State :=
  match s.keyPoint k with
  | none => cfgRefuse (some detKey) s
  | some q =>
    if s.stageAddr + 64 > s.capacity then cfgRefuse none s
    else cfgEnd resOk (memWrite s.stageAddr (beBytes 32 q.1 ++ beBytes 32 q.2) s)

/-- The check of a write of CFG_CMD from a session that is authenticated or not (R433, R447). -/
def cfgCmdCheck (op slot key : Nat) (auth : Bool) (s : State) : WStat :=
  firstOf [
    (decide (8 ≤ op), .valueRefused),
    ((op == 1 || op == 2) && decide (2 ≤ slot), .valueRefused),
    ((op == 5 || op == 6) && key == 0, .valueRefused),
    (op != 0 && s.on Reg.CFG_STATUS F.CFG_STATUS_BUSY, .stateRefused),
    ((op == 1 || op == 5 || op == 7) && !s.memReady, .stateRefused),
    (op == 5 && !auth && !s.nv.keys.isEmpty, .valueRefused),
    (op == 6 && !auth, .valueRefused)]

/-- A store command; `ok`: its store write passes its read-back check. -/
def cfgCmd (op slot key : Nat) (ok : Bool) (s : State) : State :=
  match op with
  | 1 => slotWrite slot s
  | 2 => storeWrite ok (emptySlot slot) s
  | 3 => storeWrite ok saveSettings s
  | 4 => storeWrite ok eraseSettings s
  | 5 => keyInstall key ok s
  | 6 => keyRemove key ok s
  | 7 => keyExport key s
  | _ => s

/-- A write of CFG_CMD. -/
def writeCfgCmd (op slot key : Nat) (auth ok : Bool) (s : State) : WStat × State :=
  s.writeIf Reg.CFG_CMD (cfgCmdCheck op slot key auth s) (cfgCmd op slot key ok)

/-- SLOT_WRITE (R439). -/
def execSlotWrite (slot : Fin 4) (s : State) : Host.Outcome State Fault Refusal := .next (writeCfgCmd 1 slot 0 false true s).2

/-- SLOT_WRITE_COMPLETE (R439); `ok`: the write passed its read-back check. -/
def execSlotWriteComplete (ok : Bool) (s : State) : Host.Outcome State Fault Refusal := .next (slotWriteDone ok s)

/-- SLOT_ERASE (R426, R447). -/
def execSlotErase (slot : Fin 4) (ok : Bool) (s : State) : Host.Outcome State Fault Refusal :=
  .next (writeCfgCmd 2 slot 0 false ok s).2

/-- SAVE_SETTINGS (R444, R445). -/
def execSaveSettings (ok : Bool) (s : State) : Host.Outcome State Fault Refusal := .next (writeCfgCmd 3 0 0 false ok s).2

/-- ERASE_SETTINGS (R444). -/
def execEraseSettings (ok : Bool) (s : State) : Host.Outcome State Fault Refusal := .next (writeCfgCmd 4 0 0 false ok s).2

/-- KEY_INSTALL (R433). -/
def execKeyInstall (key : Fin 4) (auth ok : Bool) (s : State) : Host.Outcome State Fault Refusal :=
  .next (writeCfgCmd 5 0 key auth ok s).2

/-- KEY_REMOVE (R433). -/
def execKeyRemove (key : Fin 4) (auth ok : Bool) (s : State) : Host.Outcome State Fault Refusal :=
  .next (writeCfgCmd 6 0 key auth ok s).2

/-- KEY_EXPORT (R433). -/
def execKeyExport (key : Fin 4) (s : State) : Host.Outcome State Fault Refusal := .next (writeCfgCmd 7 0 key false true s).2

/-! ### Shadow lists (R440, R441) -/

/-- A shadow entry of group `g` may name the register at `a` (R440). -/
def State.shadowable (s : State) (g a : Nat) : Bool :=
  (List.range 16).any (fun n => a == Reg.FCH_TS_ADJ n && s.groupOf (Reg.FCH_STATUS n) == g) ||
  (List.range 32).any (fun u => s.groupOf (Reg.TRU_STATUS u) == g &&
    (a == Reg.TRU_MEMBERS u || a == Reg.TRU_INVERT u || a == Reg.TRU_SEQ u || a == Reg.TRU_FRAME u || a == Reg.TRU_OUT_TP u ||
      a == Reg.TRU_OUT_STO u)) ||
  a == Reg.POL_G_PRE_T g || a == Reg.POL_G_POST_T_LO g || a == Reg.POL_G_POST_T_HI g ||
  (List.range 16).any (fun n => a == Reg.WAC_OFFSET n && s.groupOf (Reg.WAC_STATUS n) == g)

/-- A value that R19 refuses for a shadowed register (R441): a POST_T of 0 as the VALID entries and this value leave it, and a PRE_T that
is not 0 in CONTINUOUS mode, are refused as in a direct write; the OUT_STO routes are judged at the hand-over (R443). -/
def shadowValueBad (g a : Nat) (v : Word) (s : State) : Bool :=
  (List.range 32).any (fun u => (a == Reg.TRU_MEMBERS u || a == Reg.TRU_SEQ u || a == Reg.TRU_FRAME u) &&
    truRegCheck u a v s == .valueRefused) ||
  ((a == Reg.POL_G_POST_T_LO g || a == Reg.POL_G_POST_T_HI g || a == Reg.POL_G_PRE_T g) &&
    polGroupCheck g a v (applyShadow (s.shadowList g) s) == .valueRefused)

/-- CFG_G*g*_SHADOW.COUNT follows the list. -/
def showShadow (g : Nat) (s : State) : State :=
  s.put (Reg.CFG_G_SHADOW g) F.CFG_G_SHADOW_COUNT
    ((List.range 256).countP (fun e => s.on (Reg.CFG_SH_ADDR g e) F.CFG_SH_ADDR_VALID))

/-- What a write of entry `e` of a group's list changes, as the present cycle found it (R442). -/
def State.keepShadow (s : State) (g e : Nat) : State :=
  s.keepStart [Reg.CFG_SH_ADDR g e, Reg.CFG_SH_DATA g e, Reg.CFG_G_SHADOW g]

/-- A write of CFG_SH*g*_ADDR*e* (R440, R441). -/
def writeShadowAddr (g e : Nat) (v : Word) (s : State) : WStat × State :=
  s.writeIf (Reg.CFG_SH_ADDR g e) (firstOf [(!s.shadowable g (4 * fldGet F.CFG_SH_ADDR_ADDR v), .valueRefused)])
    (fun s => showShadow g (((s.keepShadow g e).applyFields (Reg.CFG_SH_ADDR g e) v).put (Reg.CFG_SH_ADDR g e) F.CFG_SH_ADDR_VALID 0))

/-- A write of CFG_SH*g*_DATA*e* (R441, R447). -/
def writeShadowData (g e : Nat) (v : Word) (s : State) : WStat × State :=
  let a := 4 * s.get (Reg.CFG_SH_ADDR g e) F.CFG_SH_ADDR_ADDR
  s.writeIf (Reg.CFG_SH_DATA g e) (firstOf [(!s.shadowable g a, .valueRefused), (shadowValueBad g a v s, .valueRefused)])
    (fun s =>
      let s := ((s.keepShadow g e).wr (Reg.CFG_SH_DATA g e) v).put (Reg.CFG_SH_ADDR g e) F.CFG_SH_ADDR_VALID 1
      showShadow g (s.put (Reg.CFG_G_SHADOW g) F.CFG_G_SHADOW_PENDING 1))

/-- SHADOW_ADDR_WRITE (R440, R441). -/
def execShadowAddrWrite (g : Fin 16) (e : Fin 256) (v : Word) (s : State) : Host.Outcome State Fault Refusal :=
  .next (writeShadowAddr g e v s).2

/-- SHADOW_DATA_WRITE (R441). -/
def execShadowDataWrite (g : Fin 16) (e : Fin 256) (v : Word) (s : State) : Host.Outcome State Fault Refusal :=
  .next (writeShadowData g e v s).2

/-- A write of a CFG register from a session that is authenticated or not (R447). A store write that it causes passes its read-back
check. -/
def writeCfg (a : Nat) (v : Word) (auth : Bool) (s : State) : WStat × State :=
  if a = Reg.CFG_CTL then s.writeIf a (firstOf [(fldGet F.CFG_CTL_BOOT_SLOT v == 3, .valueRefused)]) (fun s => s.applyFields a v)
  else if a = Reg.CFG_CMD then
    writeCfgCmd (fldGet F.CFG_CMD_OP v) (fldGet F.CFG_CMD_SLOT v) (fldGet F.CFG_CMD_KEY v) auth true s
  else if Reg.CFG_SH_ADDR 0 0 ≤ a ∧ a < Reg.CFG_SH_ADDR 16 0 then
    let g := (a - Reg.CFG_SH_ADDR 0 0) / 0x800
    let e := (a - Reg.CFG_SH_ADDR 0 0) % 0x800 / 8
    if a % 8 = 0 then writeShadowAddr g e v s else writeShadowData g e v s
  else s.writeIf a .ok (fun s =>
    (if (List.range 16).any (fun g => a == Reg.CFG_G_SHADOW g) then s.keepStart [a] else s).applyFields a v)

end Sys2Proof.Machine
end

