-- ==== Sys2Proof/Machine/Power.lean ====
section
/-! DEFINITION. Power domains, parking at a power-down, standby and return, device FAULT, the core rail (18_power_reset_boot.md
R451 to R465, R472; 01_architecture.md R33, R34). -/
namespace Sys2Proof.Machine

/-- `n` µs in nominal ticks (00_scope.md R9). -/
def usTicks (n : Nat) : Nat := n * tickUs

/-- A count of nominal ticks in µs, rounded up. -/
def ticksToUs (x : Nat) : Nat := (x + tickUs - 1) / tickUs

/-! ### A domain's units (R455 to R457) -/

/-- The units of domain `d` stop with ENABLE as it is (R456 step 2). -/
def unitsStop (d : Nat) (s : State) : State :=
  if d < 4 then (List.range 4).foldl (fun s i => beginStop (4 * d + i) (abandonStep (4 * d + i) s)) s
  else if d = domStim then stoAllSafe s
  else if d = domPrec then pcvAllOff s
  else s

/-- A port of a tile whose power has come starts (03 R91). -/
def portReturn (s : State) (n : Nat) : State := portStart n s

/-- The units of domain `d` with ENABLE = 1 start, and parked flows that need no other domain resume (R457, R461). -/
def unitsStart (d : Nat) (s : State) : State :=
  let s := if d < 4 then (List.range 4).foldl (fun s i => portReturn s (4 * d + i)) s
    else if d = domStim then stoReturn s
    else if d = domPrec then pcvReturn s
    else s
  autoResume s

/-- Flows that a power-down of STIM or PREC affects (R458). -/
def State.streamFlows (s : State) (d : Nat) : List Nat :=
  let ends := if d = domStim then (List.range 16).map (fun n => 0x100 + n) else if d = domPrec then List.range 24 else []
  (ends.filterMap s.boundFlow).eraseDups

/-- The domains that a flow needs when standby parks it. -/
def State.flowNeeds (s : State) (f : Nat) : List Nat :=
  domMem :: [domStim, domPrec].filter (fun d => (s.streamFlows d).contains f)

/-- Power down a domain that is ON or POWERING, steps 1 to 4 of R456. -/
def powerDown (d : Nat) (s : State) : State :=
  if s.dom d ≠ 1 ∧ s.dom d ≠ 2 then s
  else
    let s := unitsStop d (s.setDom d 3)
    let hit := (List.range 16).filter (fun g => (s.memberDomains g).contains d)
    let s := hit.foldl (fun s g => faultGroup g 6 (s.now256 : Nat) s) s
    (s.streamFlows d).foldl (parkRequest [d]) s

/-- Power up a domain that is OFF (R457). -/
def powerUp (d : Nat) (s : State) : State := if s.dom d = 0 then s.setDom d 1 else s

/-- The domains stay off until a reset after a thermal trip or a rail fault (R465). -/
def State.faultOff (s : State) : Bool :=
  s.dev == devFault && (s.on Reg.DEV_FAULT_CAUSE F.DEV_FAULT_CAUSE_THERMAL || s.on Reg.DEV_FAULT_CAUSE F.DEV_FAULT_CAUSE_RAIL)

/-- A domain is taken towards its target; boot, standby and its ends do that in their own order. -/
def settleDomain (s : State) (d : Nat) : State :=
  if s.dev = devBoot ∨ s.dev = devStandby ∨ s.pwr.entering.isSome then s
  else if s.domTarget d ∧ s.faultOff = false then powerUp d s
  else powerDown d s

def settleDomains (s : State) : State := (List.range 6).foldl settleDomain s

/-- A write of PWR_DOM_CTL (R456, R457, R472). -/
def writeDomCtl (v : Word) (s : State) : WStat × State :=
  s.writeIf Reg.PWR_DOM_CTL .ok (fun s => settleDomains (s.applyFields Reg.PWR_DOM_CTL v))

/-- PWR_DOM_CTL with the bit of a domain set or cleared. -/
def State.domCtlWith (s : State) (d : Nat) (on : Bool) : Word := fldSet ⟨d, 1⟩ (s.rd Reg.PWR_DOM_CTL) (b2n on)

/-- DOMAIN_POWER_DOWN (R456). -/
def execDomainPowerDown (d : Fin 6) (s : State) : Host.Outcome State Fault Refusal := .next (writeDomCtl (s.domCtlWith d false) s).2

/-- DOMAIN_POWER_UP (R457). -/
def execDomainPowerUp (d : Fin 6) (s : State) : Host.Outcome State Fault Refusal := .next (writeDomCtl (s.domCtlWith d true) s).2

/-- A park request made for domain `d` has still to be met (R459). -/
def State.parkWaits (s : State) (d : Nat) : Bool :=
  s.flows.any (fun p => match p.2.park with
    | none => false
    | some q => q.1.contains d)

/-- Some park request has still to be met: PWR_DOM_STAT.PARKING (R472). -/
def State.parking (s : State) : Bool := s.flows.any (fun p => p.2.park.isSome)

/-- A port of tile `d` still delivers. -/
def State.tileRuns (s : State) (d : Nat) : Bool := decide (d < 4) && (List.range 4).any (fun i => s.fchState (4 * d + i) == 2)

/-- Ports of a tile whose last frame has gone stop (03 R89). -/
def tilePortsEnd (d : Nat) (s : State) : State :=
  if d < 4 then drainEnds ((List.range 4).foldl (fun s i => portStop (4 * d + i) s) s) else s

/-- Power is removed from a DOWNING domain whose units have ended and whose flows are parked (R456 step 5, R459); one whose target
was set again powers up. -/
def domainOff (d : Nat) (s : State) : State :=
  if s.dom d ≠ 3 ∨ s.parkWaits d then s
  else
    let s := tilePortsEnd d s
    if s.tileRuns d then s
    else
      let s := domainLinesDown d (s.setDom d 0)
      settleDomain (s.setFlag Reg.PWR_FLAGS F.PWR_FLAGS_DOM_DOWN) d

/-- DOMAIN_OFF (R456). -/
def execDomainOff (d : Fin 8) (s : State) : Host.Outcome State Fault Refusal := .next (domainOff d s)

/-- The flows whose park request is 100 µs old (R459). -/
def State.parkLate (s : State) : List Nat :=
  (s.flows.filter (fun p => match p.2.park with
    | none => false
    | some q => decide (q.2 + usTicks 100 ≤ s.rt))).map (fun p => p.1)

/-- 100 µs after its park request a flow that has not parked is to lose its MOVE, at the end of the control cycle (R459, R462). -/
def parkTimeout (s : State) : State :=
  if s.parkLate.isEmpty then s else { s with pwr := { s.pwr with parkEnds := true } }

/-- At the end of the timeout's control cycle each flow that has not parked loses its MOVE (R459, R462). -/
def parkTimes (s : State) : State :=
  if s.pwr.parkEnds = false then s
  else
    let late := s.parkLate
    let s := { s with pwr := { s.pwr with parkEnds := false } }
    if late.isEmpty then s else (late.foldl parkLost s).setFlag Reg.PWR_FLAGS F.PWR_FLAGS_PARK_TIMEOUT

/-- PARK_TIMEOUT (R459). -/
def execParkTimeout (s : State) : Host.Outcome State Fault Refusal := .next (parkTimeout s)

/-- At a return from STANDBY an AUTO MDLL that has fallen back to the HKO goes back to MREF, whatever its channel does (10 R259). -/
def mdllReturn (m : Nat) (s : State) : State :=
  if s.mdllState m ≠ 0 ∧ s.on (Reg.CKS_MDLL_STAT m) F.CKS_MDLL_STAT_ON_HKO ∧ s.mrefGood ∧
      s.get (Reg.CKS_MDLL_CTL m) F.CKS_MDLL_CTL_MREF = 0 then
    if s.mdllState m = 4 then s.setMdll m { s.mdll m with toMref := true }
    else
      let s := s.setMdllState m 1
      s.setMdll m { s.mdll m with plain := true, hko := false, toMref := false }
  else s

/-- A channel that standby or a WARM reset holds in self-refresh leaves it through a reduced retrain (R464, R467), once its clock
runs. At a return from STANDBY (`wake`) an AUTO MDLL that has fallen back goes back to MREF first (10 R259). -/
def channelReturn (wake : Bool) (s : State) (m : Nat) : State :=
  let s := if wake then mdllReturn m s else s
  if s.phase m ≠ phSr ∨ (s.mch m).srCause ≠ 3 then s
  else if s.mdllState m = 3 ∨ s.mdllState m = 0 then srRetrain m true s
  else (s.setMch m { s.mch m with srCause := 4, lastReq := s.rt }).setMdll m { s.mdll m with budget := s.rt, plain := false }

/-- A POWERING domain reads ON (R457). In a return from STANDBY its units start with WAKE_COMPLETE at the earliest (R464). -/
def domainOn (d : Nat) (s : State) : State :=
  if s.dom d ≠ 1 then s
  else
    let s := domainLinesUp d (s.setDom d 2)
    if s.dev = devBoot then s
    else if s.dev = devStandby then (if d = domMem then (List.range 8).foldl (channelReturn true) s else s)
    else unitsStart d (s.setFlag Reg.PWR_FLAGS F.PWR_FLAGS_DOM_UP)

/-- DOMAIN_ON (R457, R464). -/
def execDomainOn (d : Fin 8) (s : State) : Host.Outcome State Fault Refusal := .next (domainOn d s)

/-! ### Standby (R463, R464) -/

/-- The status with which STANDBY is refused (15 R398; 14 R365). -/
def standbyStatus (s : State) : Nat :=
  if s.dev ≠ devConfigured ∨ (List.range 16).any (fun g => s.gst g != gStopped && s.gst g != gHalted && s.gst g != gUnused) then
    stStateRefused
  else if s.devWakeEmpty = false then stWakePending
  else stOk

/-- STANDBY is refused because its wake set is not empty (14 R365). -/
def standbyRefused (s : State) : State := s.put Reg.EVC_SLEEP_STAT F.EVC_SLEEP_STAT_DEV 2

/-- STANDBY is accepted: units and jobs stop (R463 steps 1 and 2). -/
def standbyBegin (s : State) : State :=
  let s := s.put Reg.EVC_SLEEP_STAT F.EVC_SLEEP_STAT_DEV 1
  let s := { s with evc := { s.evc with standby := true, wakes := [], woke := [] },
                    pwr := { s.pwr with entering := some s.rt, parkAsked := false } }
  let s := cmpStandby ((List.range 6).foldl (fun s d => unitsStop d s) s)
  (List.range 16).foldl (fun s p => abandonTrains p s) s

/-- Every flow is asked to park. -/
def parkAll (s : State) : State := s.flowList.foldl (fun s f => parkRequest (s.flowNeeds f) s f) s

/-- The spillway is empty and every polder sealed. -/
def State.recordsDone (s : State) : Bool :=
  s.mem.spill.isEmpty && (List.range 16).all (fun g => !s.on (Reg.POL_G_STATUS g) F.POL_G_STATUS_DRAINING)

/-- Every channel goes to self-refresh, whatever it does (R463 step 5; 11 R297). -/
def allSelfRefresh (s : State) : State := (List.range 8).foldl (fun s m => srForce m 3 s) s

/-- Ports that have ended stop and the spillway drains on the way into STANDBY (R463 steps 1 and 3). -/
def standbySettle (s : State) : State := drainSpill ((List.range 4).foldl (fun s d => tilePortsEnd d s) s)

/-- Ports have ended, the spillway is empty and every polder sealed: steps 1 and 3 of R463. -/
def State.standbyQuiet (s : State) : Bool := s.recordsDone && !(List.range 4).any s.tileRuns

/-- What entry to STANDBY still waits for: ports, seals, flows (R463 steps 1 to 4). -/
def State.standbyWaits (s : State) : Bool := !s.standbyQuiet || !s.pwr.parkAsked || s.parking

/-- In a control cycle of an entry to STANDBY: what is left of steps 1 and 3 of R463, and step 4, once they are done. -/
def standbyCycle (s : State) : State :=
  if s.pwr.entering.isNone then s
  else
    let s := standbySettle s
    if s.standbyQuiet ∧ s.pwr.parkAsked = false then parkAll { s with pwr := { s.pwr with parkAsked := true } } else s

/-- Steps 5 and 6 of R463 for an entry accepted at real time `t`. A group that was armed meanwhile loses its members' domains (R456). -/
def standbyTake (t : Nat) (s : State) : State :=
  let s := ((List.range 16).filter s.gRunning).foldl (fun s g => faultGroup g 6 (s.now256 : Nat) s) s
  let s := allSelfRefresh s
  let s := (List.range 8).foldl (fun s d => domainLinesDown d (s.setDom d 0)) s
  let s := (s.setDev devStandby).wn Reg.PWR_STANDBY_US (ticksToUs (s.rt - t))
  let s := s.setFlag Reg.PWR_FLAGS F.PWR_FLAGS_STANDBY_ENTERED
  { s with pwr := { s.pwr with entering := none, parkAsked := false } }

/-- The first source that has entered the device's wake set since the command was accepted wakes it as STANDBY is entered (14 R366). -/
def standbyWoken (s : State) : State :=
  match s.evc.woke with
  | n :: _ => startWake false ((s.put Reg.EVC_SLEEP_STAT F.EVC_SLEEP_STAT_DEV 3).put Reg.EVC_WAKE_SRC F.EVC_WAKE_SRC_DEV n)
  | [] => ((s.liveSources ++ s.evc.wakes).filter s.inDevWake).foldl (fun s n => wakeSleepers n s) s

/-- A channel still stands in self-refresh for standby or for a relock under way, or retrains. -/
def State.channelSleeps (s : State) (m : Nat) : Bool :=
  s.phase m == phRetrain || (s.phase m == phSr && ((s.mch m).srCause == 3 ||
    ((s.mch m).srCause == 4 && (s.mdllState m == 1 || s.mdllState m == 2))))

/-- FAB and MEM are ON and the channels retrained: the return from STANDBY can end (R464). -/
def State.wakeReady (s : State) : Bool := s.domOn domFab && s.domOn domMem && !(List.range 8).any s.channelSleeps

/-- The device reads CONFIGURED again; `cmd`: after a WAKE command (R464; 14 R366). The first SETTLE windows that end thereafter read
STALE (02 R65). -/
def wakeTake (cmd : Bool) (s : State) : State :=
  let s := { s with pwr := { s.pwr with waking := none }, evc := { s.evc with standby := false, wakes := [], woke := [] } }
  let s := (s.setDev devConfigured).setFlag Reg.PWR_FLAGS F.PWR_FLAGS_STANDBY_LEFT
  let s := { s with fab := { s.fab with staleWins := s.get Reg.FAB_PLAN_CTL F.FAB_PLAN_CTL_SETTLE } }
  if cmd then s.put Reg.EVC_SLEEP_STAT F.EVC_SLEEP_STAT_DEV 4 else s

/-- Units start and flows resume; domains whose target changed meanwhile follow it (R457, R464). -/
def wakeUnits (s : State) : State := settleDomains ((List.range 8).foldl (fun s d => if s.domOn d then unitsStart d s else s) s)

/-! ### Device FAULT (01 R33, R34; R465) -/

/-- Causes of DEV_FAULT_CAUSE by bit number (01 R38). -/
def causeThermal : Nat := 1
def causeRail : Nat := 2
def causeStore : Nat := 4

/-- A cause of FAULT arises. In BOOT the device is held there (R33, R468). -/
def faultArises (cause : Nat) (s : State) : State :=
  let s := s.put Reg.DEV_FAULT_CAUSE ⟨cause, 1⟩ 1
  let s := s.addLog 0x01 0 (s.rn Reg.DEV_FAULT_CAUSE) 0
  if s.dev = devBoot then
    (s.put Reg.DEV_BOOT_STAT F.DEV_BOOT_STAT_STAGE 0xFF).put Reg.DEV_BOOT_STAT F.DEV_BOOT_STAT_FAULT (s.rn Reg.DEV_FAULT_CAUSE % 32)
  else
    let s := (List.range 16).foldl (fun s g => faultGroup g 7 (s.now256 : Nat) s) s
    let s := s.setDev devFault
    let s := { s with pwr := { s.pwr with entering := none, waking := none, asked := false, parkAsked := false },
                      evc := { s.evc with standby := false, wakes := [], woke := [] } }
    let s := pcvAllOff ((List.range 16).foldl (fun s n => stoSafe n 0 s) s)
    let s := (List.range 16).foldl (fun s p => abandonTrains p s) s
    let s := (List.range 16).foldl (fun s q => faultStep q s) s
    if s.faultOff then settleDomains s else s

/-- DEV_FAULT_CAUSE names the cause already. -/
def State.hasCause (s : State) (cause : Nat) : Bool := s.on Reg.DEV_FAULT_CAUSE ⟨cause, 1⟩

/-- PWR_RAIL_STAT follows the rails; VDDC counts as within range only where its latest reading does (R454, R472). -/
def showRails (rails : Nat) (s : State) : State :=
  s.wn Reg.PWR_RAIL_STAT (rails - b2n (bitOf rails 0 && s.pwr.vddcOut))

/-- A cause of FAULT is reported; `rails`: the rails within range. RAIL arises as a rail leaves its range, not as one returns or moves while
the cause stands (R33, R472). -/
def deviceFault (cause rails : Nat) (s : State) : State :=
  let s := showRails rails s
  if cause = causeRail ∧ (s.rn Reg.PWR_RAIL_STAT = 0x3FF ∨ s.hasCause causeRail) then s else faultArises cause s

/-- VDDC out of its range is a rail out of range (R454). -/
def vddcJudge (s : State) : State := if s.pwr.vddcOut ∧ s.hasCause causeRail = false then faultArises causeRail s else s

/-- The junction temperature of the thermal trip, in 1/16 °C (R465). -/
def tripTemp : Int := 115 * 16

/-- A sensor reads above the trip (R465; 19 R480). -/
def State.tooHot (s : State) : Bool :=
  (List.range 8).any (fun d => decide (tripTemp < sext16 (s.get (Reg.MON_TEMP d) F.MON_TEMP_NOW)))

/-- The thermal trip on the sensors' readings (R465). -/
def thermalJudge (s : State) : State := if s.tooHot ∧ s.hasCause causeThermal = false then faultArises causeThermal s else s

/-! ### The core rail (R451, R454) -/

/-- AVS_ALERT (R451): the status that the device reads, and whether the alert stands thereafter. Where an alert stood and stands no more,
this is its end and no new one (R472). -/
def avsAlert (status : Nat) (still : Bool) (s : State) : State :=
  let ends := s.on Reg.PWR_AVS_STAT F.PWR_AVS_STAT_ALERT && !still
  let s := s.put Reg.PWR_AVS_STAT F.PWR_AVS_STAT_STATUS status
  (s.put Reg.PWR_AVS_STAT F.PWR_AVS_STAT_ALERT (b2n still)).setFlagIf (!ends) Reg.PWR_FLAGS F.PWR_FLAGS_AVS_ALERT

/-- AVS_ALERT (R451). -/
def execAvsAlert (status : BitVec 16) (still : Bool) (s : State) : Host.Outcome State Fault Refusal :=
  .next (avsAlert status.toNat still s)

/-- VDDC_DEV sets once for a deviation that has lasted more than 200 µs outside a settling (R454). -/
def vddcDev (s : State) : State :=
  match s.pwr.devSince with
  | none => s
  | some t =>
    if s.pwr.devTold ∨ s.rt ≤ t + usTicks 200 ∨ s.on Reg.FAB_STATUS F.FAB_STATUS_SETTLING then s
    else State.setFlag { s with pwr := { s.pwr with devTold := true } } Reg.PWR_FLAGS F.PWR_FLAGS_VDDC_DEV

/-- VDDC_DEV (R454). -/
def execVddcDev (s : State) : Host.Outcome State Fault Refusal := .next (vddcDev s)

/-! ### Registers (R472) -/

/-- The two counts. -/
def pwrCntClr (s : State) : State := s.clearCounts [Reg.PWR_PARKCNT, Reg.PWR_LOSTCNT]

/-- PWR_CNTCLR (R472). -/
def execPwrCntclr (s : State) : Host.Outcome State Fault Refusal := .next (pwrCntClr s)

/-- A write of a register of the PWR block. -/
def writePwr (a : Nat) (v : Word) (s : State) : WStat × State :=
  if a = Reg.PWR_DOM_CTL then writeDomCtl v s
  else if a = Reg.PWR_CNTCLR then s.writeIf a .ok (fun s => if v.toNat % 2 = 1 then pwrCntClr s else s)
  else s.writeIf a .ok (fun s => s.applyFields a v)

end Sys2Proof.Machine
end

