-- ==== Sys2Proof/Machine/RegWrite.lean ====
section
/-! DEFINITION. One register access of the host: which block it reaches, the write's fate, and what a read returns
(00_scope.md R16 to R21; 15_host_link.md R385, R386, R399; 20_register_index.md R489 to R492). -/
namespace Sys2Proof.Machine

/-- A write inside a block, sent in the session `sess`, which is authenticated or not (R489). -/
def blockWrite (a : Nat) (v : Word) (sess : Nat) (auth : Bool) (s : State) : WStat × State :=
  if a < 0x10000 then s.writeIf a .ok (fun s => s.applyFields a v)
  else if a < 0x100000 then (if a = Reg.FAB_VLIMIT then writeVlimit v s else writeFabReg a v s)
  else if a < 0x200000 then writeFch ((a - 0x100000) / 0x10000) a v s
  else if a < 0x300000 then writeFcal ((a - 0x200000) / 0x4000) a v s
  else if a < 0x400000 then writeDcf ((a - 0x300000) / 0x8000) a v s
  else if a < 0x500000 then writeTru ((a - 0x400000) / 0x4000) a v s
  else if a < 0x580000 then writePol a v s
  else if a < 0x600000 then writeWac ((a - 0x580000) / 0x4000) a v s
  else if a < 0x700000 then writePcv ((a - 0x600000) / 0x2000) a v s
  else if a < 0x780000 then writeSto ((a - 0x700000) / 0x4000) a v s
  else if a < 0x800000 then writeTpt ((a - 0x780000) / 0x1000) a v s
  else if a < 0x900000 then writeCks a v s
  else if a < 0xA00000 then writeMch ((a - 0x900000) / 0x10000) a v s
  else if a < 0xB00000 then writeDma a v s
  else if a < 0xC00000 then writeCmp ((a - 0xB00000) / 0x1000) a v s
  else if a < 0xD00000 then writeEvc a v s
  else if a < 0xE00000 then writeHlk a v auth s
  else if a < 0xF00000 then writeChn a v s
  else if a < 0x1000000 then writeCfg a v auth s
  else if a < 0x1100000 then writePwr a v s
  else if a < 0x1200000 then writeMon a v s
  else writeTst a v sess auth s

/-- The refusals that do not depend on the block's rules (R20, R386, R490). -/
def accessCheck (a : Nat) (s : State) : WStat :=
  firstOf [((blockOf a).isNone || a % 4 != 0, .address), (s.standbyBlocked a, .stateRefused)]

/-- One register write: its status and the state after it; an address in a block that holds no register ignores it (R20). -/
def writeReg (a : Nat) (v : Word) (sess : Nat) (auth : Bool) (s : State) : WStat × State :=
  match accessCheck a s with
  | .ok => if (rowOf a).isNone then (.ok, s) else blockWrite a v sess auth s
  | w => (w, s.report a w)

/-- REGISTER_WRITE (R19): a write sent in session `sess`; 0 names no session: the device's own firmware writes, to which EVC_T0_CTL is open
(14_event_controller.md R367). A RELINK that it commands follows at once. -/
def execRegisterWrite (a v sess : Word) (auth : Bool) (s : State) : Host.Outcome State Fault Refusal :=
  if sess = 0#32 ∧ a.toNat = Reg.EVC_T_CTL 0 then .next (firmwareCtl v s.noOut)
  else
  let r := (writeReg a.toNat v sess.toNat auth s.noOut).2
  .next (if r.hlk.relink then relink r else r)

/-! ### Reads -/

/-- ROM and other registers whose word is computed when it is read (05 R139; 10 R257, R275; 12 R329; 14 R367; 19 R482). -/
def computedWord (a : Nat) (s : State) : Option Nat :=
  if 0x300000 ≤ a ∧ a < 0x400000 then
    let o := a % 0x8000
    if 0x2000 ≤ o ∧ o < 0x2180 then
      let r := (o - 0x2000) / 0x40
      let c := (o - 0x2000) % 0x40 / 4
      some (if c ≤ s.kernelK 0 r then unsx 22 (Config.romHb r c) else 0)
    else if 0x2400 ≤ o ∧ o < 0x3400 then some (unsx 22 (Config.romRs (6 + (o - 0x2400) / 0x800) ((o - 0x2400) % 0x800 / 4)))
    else none
  else if 0x200000 ≤ a ∧ a < 0x210000 then
    let t := (a - 0x200000) / 0x4000
    match (List.range 4).find? (fun i => a == Reg.FCAL_P_NEXT t i) with
    | none => none
    | some i => some (s.nextDueMs (4 * t + i))
  else if 0x600000 ≤ a ∧ a < 0x630000 ∧ 0xF0 ≤ a % 0x2000 ∧ a % 0x2000 ≤ 0xF8 then some (s.rn (0x600000 + a % 0x2000))
  else if (List.range 16).any (fun n => a == Reg.STO_GEN_RATE n && s.get (Reg.STO_GEN_CTL n) F.STO_GEN_CTL_TYPE == 3) then
    some (s.rn a % 2 ^ 18)
  else if 0x600000 ≤ a ∧ a < 0x630000 ∧ a % 0x2000 = 4 then some ((pcvSettle ((a - 0x600000) / 0x2000) s).rn a)
  else if 0x900000 ≤ a ∧ a < 0x980000 ∧ a = Reg.MCH_DIMM_TEMP ((a - 0x900000) / 0x10000) then some (s.dimmTempWord ((a - 0x900000) / 0x10000))
  else if a = Reg.DEV_GSTATE_LO then some (s.gstateWord 0)
  else if a = Reg.DEV_GSTATE_HI then some (s.gstateWord 1)
  else if a = Reg.CKS_TICK_LO then some (s.tick % 2 ^ 32)
  else if a = Reg.CKS_TICK_HI then some (s.tick / 2 ^ 32 % 2 ^ 32)
  else if Reg.CKS_OUT 0 ≤ a ∧ a ≤ Reg.CKS_OUT 8 then
    let o := (a - Reg.CKS_OUT 0) / 4
    let powered := decide (7 ≤ o) || s.domOn (min o 5)
    some ((fldSet F.CKS_OUT_EN (s.rd a) (b2n (powered && !s.on a F.CKS_OUT_GATED))).toNat)
  else if a = Reg.DMA_STATUS then some s.dmaStatus
  else if a = Reg.EVC_STATUS then some s.nPend
  else if a = Reg.EVC_T_STATUS 0 then some (s.targetStatus 0)
  else if a = Reg.EVC_T_STATUS 1 then some (s.targetStatus 1)
  else if a = Reg.EVC_T_STATUS 2 then some (s.targetStatus 2)
  else if Reg.HLK_KEY 0 ≤ a ∧ a ≤ Reg.HLK_KEY 7 then some 0
  else if a = Reg.PWR_DOM_STAT then some (s.rn a % 2 ^ 16 + 2 ^ 16 * b2n s.parking)
  else if a = Reg.MON_LOG_STAT then some s.logStat
  else if Reg.MON_LOG_W 0 ≤ a ∧ a ≤ Reg.MON_LOG_W 7 then some (s.logWord ((a - Reg.MON_LOG_W 0) / 4))
  else none

/-- The bits that a reserved flow's STATUS shows (12 R329). -/
def reservedBit (a : Nat) : Nat :=
  if Reg.DMA_F_STATUS 8128 ≤ a ∧ (a - Reg.DMA_F_STATUS 0) % 0x40 = 0 ∧ a < Reg.DMA_F_STATUS 8192 then
    2 ^ F.DMA_F_STATUS_RESERVED_FLOW.lo else 0

/-- What a register reads as, without the side effects of a read. -/
def State.readWord (s : State) (a : Nat) : Word :=
  match computedWord a s with
  | some x => BitVec.ofNat 32 x
  | none => s.rd a ||| BitVec.ofNat 32 (reservedBit a)

/-- The side effects of the three reads that have one, with the word that they return (R492). -/
def sideRead (a : Nat) (s : State) : Word × State :=
  if a = Reg.EVC_T_CLAIM 1 then
    let r := claimRead s
    (BitVec.ofNat 32 r.1, r.2)
  else if a = Reg.CHN_REVT_INFO then revtRead s
  else if 0x780000 ≤ a ∧ a < 0x790000 ∧ a % 0x1000 = 0x34 then (s.rd a, fifoPop ((a - 0x780000) / 0x1000) s)
  else (s.readWord a, s)

/-- One register read: status, word and state after it; an address in a block that holds no register reads 0 (R20), as a read that
fails does (15 R385, R386). A state refusal of a read leaves no mark in HLK_ERR (R399). -/
def readReg (a : Nat) (s : State) : WStat × Word × State :=
  match accessCheck a s with
  | .ok => if (rowOf a).isNone then (.ok, 0#32, s) else (.ok, sideRead a s)
  | .address => (.address, 0#32, s.report a .address)
  | w => (w, 0#32, s)

end Sys2Proof.Machine
end

