-- ==== Sys2Proof/Machine/Image.lean ====
section
/-! DEFINITION. Activation of configuration images: the checks VALUE to REGION_FIXED, full and region loads, boot activation,
unload (17_configuration_images.md R431, R434 to R438; 02_handshake_fabric.md R50, R51, R63, R64; 01_architecture.md R35). -/
namespace Sys2Proof.Machine

/-! ### Units (R35, R431 GROUPS; 02 R50) -/

/-- The status register of unit `i` of a class of R431; none where there is no such unit. -/
def unitStatus (c i : Nat) : Option Nat :=
  match c with
  | 0 => if i < 16 then some (Reg.FCH_STATUS i) else none
  | 1 => if i < 32 then some (Reg.DCF_STATUS i) else none
  | 2 => if i < 32 then some (Reg.TRU_STATUS i) else none
  | 3 => if i < 16 then some (Reg.WAC_STATUS i) else none
  | 4 => if i < 24 then some (Reg.PCV_STATUS i) else none
  | 5 => if i < 16 then some (Reg.STO_STATUS i) else none
  | 6 => if i < 16 then some (Reg.TPT_STATUS i) else none
  | _ => none

/-- The region of unit `i` of a class; 8 for a timing port, which lies in none. -/
def unitRegion (c i : Nat) : Nat :=
  match c with
  | 0 => i / 4
  | 1 => i / 8
  | 2 => i / 8
  | 3 => 4
  | 4 => 7
  | 5 => 7
  | _ => 8

/-- The units of the classes 0 to 6, as class and index. -/
def allUnits : List (Nat × Nat) :=
  [(0, 16), (1, 32), (2, 32), (3, 16), (4, 24), (5, 16), (6, 16)].flatMap (fun p => (List.range p.2).map (fun i => (p.1, i)))

/-- The status register of a unit known to exist. -/
def unitReg (u : Nat × Nat) : Nat := (unitStatus u.1 u.2).getD 0

/-- A unit of the classes 0 to 5 is enabled. -/
def State.unitOn (s : State) (u : Nat × Nat) : Bool :=
  match u.1 with
  | 0 => s.on (Reg.FCH_CTL u.2) F.FCH_CTL_ENABLE
  | 1 => s.on (Reg.DCF_CTL u.2) F.DCF_CTL_ENABLE
  | 2 => s.on (Reg.TRU_CTL u.2) F.TRU_CTL_ENABLE
  | 3 => s.on (Reg.WAC_CTL u.2) F.WAC_CTL_ENABLE
  | 4 => s.on (Reg.PCV_CTL u.2) F.PCV_CTL_ENABLE
  | 5 => s.on (Reg.STO_CTL u.2) F.STO_CTL_ENABLE
  | _ => false

/-! ### Return to reset values (R435 step 1, R437) -/

/-- A load: of the whole device, or of the regions of a mask. -/
def inLoad (mask : Option Nat) (region : Nat) : Bool :=
  match mask with
  | none => true
  | some m => decide (region < 8) && bitOf m region

/-- The registers that a full load returns to their reset values; the two the factory area loads stay (00_scope.md R18). -/
def fullResetReg (a : Nat) : Bool :=
  ((decide (0x100000 ≤ a) && decide (a < 0x790000)) || (decide (0xA80000 ≤ a) && decide (a < Reg.DMA_F_CTL 8128))) &&
    a != Reg.PCV_REF_SPEC 0 && a != Reg.PCV_REF_DRIFT 0

/-- The registers of the units that 02 R50 places in region `r`, the FCH blocks of the tile included (R437). -/
def regionReg (r a : Nat) : Bool :=
  (decide (r < 4) &&
    ((decide (0x100000 + 0x40000 * r ≤ a) && decide (a < 0x140000 + 0x40000 * r)) ||
     (decide (0x300000 + 0x40000 * r ≤ a) && decide (a < 0x340000 + 0x40000 * r)) ||
     (decide (0x400000 + 0x20000 * r ≤ a) && decide (a < 0x420000 + 0x20000 * r)))) ||
  (r == 4 && decide (0x580000 ≤ a) && decide (a < 0x5C0000)) ||
  (r == 7 && ((decide (0x600000 ≤ a) && decide (a < 0x630000) && a != Reg.PCV_REF_SPEC 0 && a != Reg.PCV_REF_DRIFT 0) ||
    (decide (0x700000 ≤ a) && decide (a < 0x740000))))

/-- The registers that a load returns to their reset values. -/
def loadResets (mask : Option Nat) (a : Nat) : Bool :=
  match mask with
  | none => fullResetReg a
  | some m => (List.range 8).any (fun r => bitOf m r && regionReg r a)

/-- Registers return to their reset values; the lines of flags that read 1 fall. -/
def clearRegs (p : Nat → Bool) (s : State) : State :=
  let s := (flagRegs.filter (fun a => p a && decide (s.rn a ≠ 0))).foldl (fun s a => s.clearFlags a 0xFFFFFFFF#32) s
  { s with regs := s.regs.filter (fun q => !p q.1) }

/-- Words on their way are followed by the end of a stream whose port or chain is reset. -/
def endStreams (mask : Option Nat) (s : State) : State :=
  let s := (List.range 16).foldl (fun s n => if inLoad mask (n / 4) ∧ s.fchState n = 2 then s.publish n .endStream else s) s
  (List.range 32).foldl (fun s n => if inLoad mask (n / 8) ∧ s.dcfState n ≠ 0 then s.publish (srcDcf n) .endStream else s) s

/-- A consumer's queue belongs to a unit that the load resets. -/
def queueReset (mask : Option Nat) (k : Nat) : Bool :=
  if k < 32 then inLoad mask (k / 8)
  else if k < 64 then inLoad mask ((k - 32) / 8)
  else if k < 128 then inLoad mask 4
  else mask.isNone

/-- What stands behind the registers of the units that a load resets is dropped, but for what is no state of theirs: a factory trim set
that failed its check (08 R220), and the level that the outside gives a ball (09 R253). -/
def dropHidden (mask : Option Nat) (s : State) : State :=
  { s with
    fchs := s.fchs.filter (fun p => !inLoad mask (p.1 / 4)),
    calTiles := s.calTiles.filter (fun _ => mask.isSome),
    calPorts := s.calPorts.filter (fun _ => mask.isSome),
    dcfs := s.dcfs.filter (fun p => !inLoad mask (p.1 / 8)),
    trus := s.trus.filter (fun p => !inLoad mask (p.1 / 8)),
    wacs := s.wacs.filter (fun _ => !inLoad mask 4),
    pcvs := (if inLoad mask 7 then (s.pcvs.filter (fun p => p.2.trimBad)).map (fun p => (p.1, { trimBad := true })) else s.pcvs),
    stos := s.stos.filter (fun _ => !inLoad mask 7),
    tpts := (if mask.isNone then (s.tpts.filter (fun p => p.2.ball)).map (fun p => (p.1, { ball := true })) else s.tpts),
    queues := s.queues.filter (fun p => !queueReset mask p.1),
    closedEnds := (if mask.isNone then [] else s.closedEnds),
    decs := (if mask.isNone then [] else s.decs),
    rings := (if mask.isNone then [] else s.rings),
    trigQ := (if mask.isNone then [] else s.trigQ),
    streams := (if mask.isNone then [] else s.streams) }

/-- Polders that can be sealed are sealed (07 R181). -/
def sealAll (s : State) : State :=
  (List.range 16).foldl (fun s g => (List.range (s.ringsOf g).length).foldl (fun s _ => sealFirst g s) s) (drainSpill s)

/-- The units of a load, and flows 0 to 8,127 in a full one, stop and return to their reset values (R435 step 1, R437). -/
def resetUnits (mask : Option Nat) (s : State) : State :=
  let s := (List.range 16).foldl (fun s n => if inLoad mask (n / 4) then abandonStep n s else s) s
  let s := match mask with
    | some _ => s
    | none => (s.flowList.filter (fun f => !reservedFlow f)).foldl (fun s f => flowStop f s) s
  let s := (List.range 32).foldl (fun s n => if inLoad mask (n / 8) ∧ s.truOn n then leaveTru n s else s) s
  let s := dropHidden mask (endStreams mask s)
  let s := if mask.isNone then { s with flows := s.flows.filter (fun p => reservedFlow p.1) } else s
  let s := (List.range 16).foldl (fun s q => fixSlice q s) (clearRegs (loadResets mask) s)
  (List.range 16).foldl (fun s p => if mask.isNone ∧ (s.tpt p).ball then s.setTptLevel p true else s) s

/-! ### Application (R435 steps 2 to 4) -/

/-- The regions that a REGWRITE address lies in: none where R431 does not allow it; 8 a timing port or calibration block that no
region holds, 9 a register of the MCH and FAB blocks. -/
def imageRegion (a : Nat) : Option Nat :=
  if a = Reg.FAB_PLAN_CTL ∨ a = Reg.FAB_THRESH_A ∨ a = Reg.FAB_THRESH_B ∨
      (List.range 8).any (fun m => a == Reg.MCH_CTL m || a == Reg.MCH_SCRUB m || a == Reg.MCH_RH_CTL m) then some 9
  else if 0x100000 ≤ a ∧ a < 0x200000 then some ((a - 0x100000) / 0x40000)
  else if 0x200000 ≤ a ∧ a < 0x210000 then some ((a - 0x200000) / 0x4000)
  else if 0x300000 ≤ a ∧ a < 0x400000 then some ((a - 0x300000) / 0x40000)
  else if 0x400000 ≤ a ∧ a < 0x480000 then some ((a - 0x400000) / 0x20000)
  else if 0x500000 ≤ a ∧ a < 0x510000 then some 5
  else if 0x580000 ≤ a ∧ a < 0x5C0000 then some 4
  else if 0x600000 ≤ a ∧ a < 0x630000 then some 7
  else if 0x700000 ≤ a ∧ a < 0x740000 then some 7
  else if 0x780000 ≤ a ∧ a < 0x790000 then some 8
  else if 0xA80000 ≤ a ∧ a < Reg.DMA_F_CTL 8128 then some 6
  else none

/-- A load may write the address. -/
def imageMayWrite (mask : Option Nat) (a : Nat) : Bool :=
  match imageRegion a with
  | none => false
  | some r => r == 9 || inLoad mask r

/-- REGWRITE pairs in image order: whether all were accepted, and the state after those before the first refused one. -/
def imageWrites (mask : Option Nat) : List (Nat × Word) → State → Bool × State
  | [], s => (true, s)
  | (a, v) :: t, s =>
    if imageMayWrite mask a = false then (false, s)
    else
      let r := writeReg a v 0 true s
      if r.1 = .ok then imageWrites mask t r.2 else (false, r.2)

/-- A GROUPS entry names an existing unit, in a load's regions, and a group or none. -/
def bindOk (mask : Option Nat) (e : Nat × Nat × Nat) : Bool :=
  (unitStatus e.1 e.2.1).isSome && (mask.isNone || inLoad mask (unitRegion e.1 e.2.1)) && (decide (e.2.2 < 16) || e.2.2 == 0xFF)

/-- Two entries bind one unit to two groups (R35). -/
def boundTwice : List (Nat × Nat × Nat) → Bool
  | [] => false
  | e :: t => t.any (fun x => x.1 == e.1 && x.2.1 == e.2.1 && x.2.2 != e.2.2 && decide (x.2.2 < 16) && decide (e.2.2 < 16)) || boundTwice t

/-- The units take the groups of the GROUPS entries. -/
def bindUnits (mask : Option Nat) (l : List (Nat × Nat × Nat)) (s : State) : State :=
  (l.filter (bindOk mask)).foldl (fun s e =>
    s.put (unitReg (e.1, e.2.1)) ⟨4, 5⟩ (if e.2.2 < 16 then e.2.2 else 0x1F)) s

/-- The plan of region `r` from lanes (02 R50, R51). -/
def regionPlan (lanes : List (Nat × Nat × Nat × Nat)) (r : Nat) : Nat :=
  (lanes.filter (laneIn r)).foldl (fun m l => max m l.2.1) 0

/-- The lanes in force after a load: a region load replaces those of its regions. -/
def lanesAfter (mask : Option Nat) (new : List (Nat × Nat × Nat × Nat)) (s : State) : List (Nat × Nat × Nat × Nat) :=
  match mask with
  | none => new
  | some _ => s.cfg.lanes.filter (fun l => !(inLoad mask l.2.2.1 || inLoad mask l.2.2.2)) ++ new

/-- The plan of region `r` from lanes and, in region 7, from the enabled precision converters (02 R51; 08 R223). -/
def State.planOf (s : State) (lanes : List (Nat × Nat × Nat × Nat)) (r : Nat) : Nat :=
  max (regionPlan lanes r) (if r = 7 then s.pcvLanes else 0)

/-- Lanes come into force. -/
def setLanes (lanes : List (Nat × Nat × Nat × Nat)) (s : State) : State :=
  State.refreshPlans { s with
    cfg := { s.cfg with lanes := lanes },
    fab := { s.fab with imagePlan := (List.range 8).map (fun r => (r, s.planOf lanes r)) } }

/-- Planned rates of flows come into force (12 R326, R329). -/
def setFlowPlan (l : List (Nat × Nat)) (s : State) : State :=
  let s := s.zero (s.cfg.flowPlan.map (fun p => Reg.DMA_F_RATE p.1))
  let l := l.filter (fun p => decide (p.1 < 8192))
  let s := l.foldl (fun s p => s.wn (Reg.DMA_F_RATE p.1) p.2) s
  { s with cfg := { s.cfg with flowPlan := l }, dma := { s.dma with buckets := l.map (fun p => (p.1, 0, s.rt)) } }

/-- A stored stream that R168 refuses. -/
def streamBad (d : StreamDef) : Bool :=
  decide (16 ≤ d.group) || decide (0x30 ≤ d.src) || decide (4 < d.mode) || decide (16 < d.log2D) || decide (2 < d.format) ||
    (d.mode == 4 && (decide (d.log2W < d.log2D) || decide (16 < d.log2W))) || (d.mode == 2 && d.log2W != d.log2D)

/-- More stored streams than R168 allows, or one that it refuses. -/
def streamsBad (l : List StreamDef) : Bool :=
  l.any streamBad || decide (128 < l.length) || (List.range 16).any (fun g => decide (32 < l.countP (fun d => d.group == g)))

/-- NSTREAM of every group (07 R196). -/
def countStreams (s : State) : State :=
  (List.range 16).foldl (fun s g => s.put (Reg.POL_G_STATUS g) F.POL_G_STATUS_NSTREAM (s.groupStreams g).length) s

/-- The slot span, stream areas and slot size of group `g` are fixed (07 R172, R173); the registers read 0 for a group that the image
does not define. -/
def fixSlot (g : Nat) (s : State) : State :=
  let span := s.preT g + s.postT g
  let l := s.groupStreams g
  let r := layout s span (hdrLen l.length) (l.map (fun p => p.2))
  let placed := (l.map (fun p => p.1)).zip r.1
  let streams := ((List.range s.streams.length).zip s.streams).map (fun p =>
    match placed.find? (fun q => q.1 == p.1) with
    | none => p.2
    | some q => q.2)
  ({ s with streams := streams }.wr64 (Reg.POL_G_SPAN_LO g) span).wr64 (Reg.POL_G_SLOT_LO g) (slotSizeOf r.2)

/-- An EVENTS entry that R431 refuses. -/
def eventBad (e : Nat × Nat) : Bool := !isSource e.1 || (bitOf e.2 F.EVC_SRC_CFG_LEVEL.lo && pulseOnly e.1)

/-- An EVENTS entry is applied: EN_MGC is ignored, and LEVEL waits for a source that is pending or in service (R431). -/
def applyEvent (s : State) (e : Nat × Nat) : State :=
  let busy := (List.range 3).any (fun t => s.srcPend e.1 t || s.srcInsvc e.1 t)
  let v : Word := BitVec.ofNat 32 e.2
  let now := s.get (Reg.EVC_SRC_CFG e.1) F.EVC_SRC_CFG_LEVEL
  let lvl := fldGet F.EVC_SRC_CFG_LEVEL v
  let s := { s with cfg := { s.cfg with levels := s.cfg.levels.filter (fun q => q.1 != e.1) } }
  if busy ∧ now ≠ lvl then
    let s := srcCfgApply false e.1 (fldSet F.EVC_SRC_CFG_LEVEL v now) s
    applyLevel e.1 { s with cfg := { s.cfg with levels := (e.1, lvl) :: s.cfg.levels } }
  else srcCfgApply false e.1 v s

/-- PMEM sections reach past program memory. -/
def pmemBad (l : List (Nat × List Byte)) : Bool := l.any (fun p => decide (pmemSize < p.1 + p.2.length))

/-- The planned traffic of all but the polder writers (01 R41; 11 R288). Of the rings of the timing ports the spec states no planned
rate (DESIGN CHOICE, log 118). -/
def State.otherTraffic (s : State) : Nat :=
  s.wacTraffic + s.pcvTraffic + s.stimTraffic s.cfg.flowPlan + flowTraffic s.cfg.flowPlan

/-- The state that a load's sections give, before step 4: whether its REGWRITE pairs were accepted, and the state. -/
def applySections (mask : Option Nat) (l : List ImgSect) (s : State) : Bool × State :=
  let s := resetUnits mask s
  let s := if mask.isNone then (List.range 16).foldl (fun s g => s.setGst g gUnused) s else s
  let s := if s.unconf then s.setDev devConfigured else s
  let s := if mask.isNone then (pmemLoads l).foldl (fun s p => s.pmemPuts p.1 p.2) s else s
  let s := setLanes (lanesAfter mask (laneEntries l) s) (bindUnits mask (groupEntries l) s)
  let s := if mask.isNone then setFlowPlan (flowEntries l) s else s
  let r := imageWrites mask (regWrites l) s
  let s := refreshLatency (List.range 32) ((List.range 32).foldl (fun s n => refreshChain n s) r.2)
  let s := if mask.isNone then ((List.range 16).filter (fun g => (groupEntries l).any (fun e => e.2.2 == g))).foldl (fun s g => fixSlot g s)
    (countStreams { s with streams := streamEntries l }) else s
  let s := setLanes s.cfg.lanes s
  (r.1, { s with cfg := { s.cfg with planOther := s.otherTraffic } })

/-! ### Checks (R436) -/

/-- A DRAM accumulator whose source is too fast, or a length past its store (07 R192). -/
def State.accumulatorBad (s : State) : Bool :=
  (List.range 16).any (fun n => s.wacOn n &&
    (decide (lenLimit (s.wacDram n) < s.wacLen n) ||
      (s.wacDram n && decide (s.srcTr (s.get (Reg.WAC_CTL n) F.WAC_CTL_SRC) * s.srcRatio (s.get (Reg.WAC_CTL n) F.WAC_CTL_SRC) < 128 * 2 ^ 31))))

/-- Region `r` is not predicted to reach TARGET with plan `p`, or has no capability figure (02 R57, R64). -/
def State.marginBad (s : State) (r p : Nat) : Bool :=
  let v := min (s.get Reg.FAB_VLIMIT F.FAB_VLIMIT_VMAX)
    (s.get Reg.FAB_VDDC F.FAB_VDDC_TARGET + 32 * s.get Reg.FAB_PLAN_CTL F.FAB_PLAN_CTL_STEP)
  decide (0 < p) && (decide (s.get (Reg.FAB_RCAP r) F.FAB_RCAP_CAP = 0) ||
    decide (estimate s r (marginOf (s.get (Reg.FAB_RCAP r) F.FAB_RCAP_CAP) p) v < s.get Reg.FAB_THRESH_A F.FAB_THRESH_A_TARGET))

/-- The plan of the capture lanes of the ports of tile `r` that are enabled (02 R49). -/
def State.capturePlan (s : State) (r : Nat) : Nat :=
  if r < 4 ∧ (List.range 4).any (fun i => s.on (Reg.FCH_CTL (4 * r + i)) F.FCH_CTL_ENABLE) then 8192 else 0

/-- A unit of the regions is enabled and not bound to a group at rest (R437). -/
def State.regionBusy (s : State) (mask : Option Nat) : Bool :=
  allUnits.any (fun u => inLoad mask (unitRegion u.1 u.2) && s.unitOn u &&
    (decide (16 ≤ s.groupOf (unitReg u)) || s.gRunning (s.groupOf (unitReg u))))

/-- The first of a list of checks that fails, else 0. -/
def firstDetail : List (Bool × Nat) → Nat
  | [] => 0
  | (c, d) :: t => if c then d else firstDetail t

/-- The checks VALUE to REGION_FIXED on the candidate state `t` of a load on `s`. -/
def loadCheck (mask : Option Nat) (l : List ImgSect) (accepted : Bool) (s t : State) : Nat :=
  let plans := (List.range 8).map (fun r => (r, max (t.planOf t.cfg.lanes r) (t.capturePlan r)))
  let e := groupEntries l
  firstDetail [
    (!accepted || (eventEntries l).any eventBad || pmemBad (pmemLoads l), detValue),
    (e.any (fun x => !bindOk mask x) || boundTwice e || (laneEntries l).any (fun x => decide (1024 ≤ x.1) || decide (7 < x.2.2.1) || decide (7 < x.2.2.2)) ||
      (flowEntries l).any (fun x => decide (8192 ≤ x.1)), detBinding),
    (streamsBad (streamEntries l), detStreams),
    (t.accumulatorBad, detAccumulator),
    ((List.range 32).any t.stoLatencyBad, detStimLatency),
    (!t.withinCeiling (t.trafficWith 16 0), detMemory),
    (plans.any (fun p => decide (8192 < p.2)), detFabricPlan),
    (!s.on Reg.CKS_STATUS F.CKS_STATUS_LOCKED, detNotLocked),
    (plans.any (fun p => s.marginBad p.1 p.2), detMargin),
    (mask.isSome && s.regionBusy mask, detRegionBusy),
    (mask.isSome && (inLoad mask 5 || inLoad mask 6), detRegionFixed)]

/-! ### The load as a whole (R434 to R437) -/

/-- Every group's shadow list is emptied. -/
def emptyShadows (s : State) : State :=
  { s with regs := s.regs.filter (fun p => !(decide (Reg.CFG_SH_ADDR 0 0 ≤ p.1) && decide (p.1 < Reg.CFG_SH_ADDR 16 0)) &&
      !(List.range 16).any (fun g => p.1 == Reg.CFG_G_SHADOW g)) }

/-- Some unit is bound to group `g`. -/
def State.groupHas (s : State) (g : Nat) (p : Nat × Nat → Bool) : Bool :=
  allUnits.any (fun u => p u && s.groupOf (unitReg u) == g)

/-- Step 4 of a full load: groups, generation, identity (R435). -/
def commitFull (src : Nat) (b : List Byte) (l : List ImgSect) (s : State) : State :=
  let gen := s.rn Reg.CFG_GEN + 1
  let s := (emptyShadows s).wn Reg.CFG_GEN gen
  let named := (groupEntries l).map (fun e => e.2.2)
  let s := (List.range 16).foldl (fun s g =>
    if named.contains g then (s.setGst g gStopped).wn (Reg.CFG_G_GEN g) gen else s) s
  let s := (s.put Reg.CFG_STATUS F.CFG_STATUS_ACTIVE src).wr64 Reg.CFG_ACTIVE_ID_LO (imgId b)
  let s := (s.wn Reg.CFG_ACTIVE_VER (imgVersion b)).wr Reg.CFG_LOADED_REGIONS 0#32
  (eventEntries l).foldl applyEvent s

/-- The hand-over of a region load (R437). -/
def commitRegion (mask : Nat) (l : List ImgSect) (s : State) : State :=
  let gen := s.rn Reg.CFG_GEN + 1
  let s := s.wn Reg.CFG_GEN gen
  let named := (groupEntries l).map (fun e => e.2.2)
  let s := (List.range 16).foldl (fun s g => if named.contains g ∧ s.gst g = gUnused then s.setGst g gStopped else s) s
  let s := (List.range 16).foldl (fun s g =>
    if s.groupHas g (fun u => inLoad (some mask) (unitRegion u.1 u.2)) then s.wn (Reg.CFG_G_GEN g) gen else s) s
  s.wn Reg.CFG_LOADED_REGIONS (s.rn Reg.CFG_LOADED_REGIONS ||| mask)

/-- A refused activation (R436; 19 R482). -/
def loadRefused (d id : Nat) (s : State) : Nat × State :=
  let s := (s.put Reg.CFG_STATUS F.CFG_STATUS_DETAIL d).setFlag Reg.CFG_FLAGS F.CFG_FLAGS_LOAD_REFUSED
  (d, s.addLog 0x40 ((flagSource Reg.CFG_FLAGS F.CFG_FLAGS_LOAD_REFUSED.lo).getD 0) d id)

/-- The image of a source, 3 being the staging area (R434); none for an empty slot. -/
def sourceImage (src : Nat) (s : State) : Option (List Byte) × State :=
  if src = 3 then
    let r := stagedImage s
    (some r.1, r.2)
  else (s.slotImage src, s)

/-- Activate an image: 0, or the DETAIL of the refusal, and the state. The device state follows by the caller. -/
def activateImage (mask : Option Nat) (src : Nat) (s : State) : Nat × State :=
  if s.on Reg.CFG_STATUS F.CFG_STATUS_BUSY ∨ s.cfg.loading.isSome then loadRefused detBusy 0 s
  else if src = 3 ∧ s.memReady = false then loadRefused detNotReady 0 s
  else
    match sourceImage src s with
    | (none, s) => loadRefused detEmptySlot 0 s
    | (some b, s) =>
      let d := imgCheck s mask.isNone b
      if d ≠ 0 then loadRefused d (imgId b) s
      else
        let l := (sectsOf b).filter (fun x => sectKnown x.typ && (mask.isNone || inLoad mask x.region))
        let r := applySections mask l (sealAll s)
        let d := loadCheck mask l r.1 s r.2
        if d ≠ 0 then loadRefused d (imgId b) s
        else
          let t := match mask with
            | none => commitFull src b l r.2
            | some m => commitRegion m l r.2
          (0, t.setFlag Reg.CFG_FLAGS F.CFG_FLAGS_LOADED)

/-- IMAGE_LOAD by its PARAM (R434, R436): the device is CONFIGURED where it succeeds. -/
def imageLoad (param : Nat) (s : State) : Nat × State :=
  if 3 < param then loadRefused detBadParam 0 s
  else
    let r := activateImage none param s
    if r.1 = 0 then (0, r.2.setDev devConfigured) else r

/-- REGION_LOAD by its PARAM (R434, R436). -/
def regionLoad (param : Nat) (s : State) : Nat × State :=
  let mask := param / 256
  if mask = 0 ∨ 255 < mask ∨ 3 < param % 256 then loadRefused detBadParam 0 s
  else activateImage (some mask) (param % 256) s

/-- From the start of a region load to its hand-over the plan of each loaded region is the larger of the old one and `new`'s (02 R63). -/
def raisePlans (mask : Nat) (new s : State) : State :=
  let plans := ((List.range 8).filter (fun r => bitOf mask r)).map (fun r => (r, lookupD (fun _ => 0) new.fab.imagePlan r))
  State.refreshPlans (State.put { s with fab := { s.fab with loadPlan := plans } } Reg.FAB_STATUS F.FAB_STATUS_LOAD_REGIONS mask)

/-- The hand-over, or the end, of a load: the new plan alone applies (02 R63). -/
def dropPlans (s : State) : State :=
  State.refreshPlans (State.put { s with fab := { s.fab with loadPlan := [] } } Reg.FAB_STATUS F.FAB_STATUS_LOAD_REGIONS 0)

/-- The planner has still to raise VDDC for the plans of a load: it acts, and a loaded region's margin lies below its target (02 R60,
R63). -/
def State.planShort (s : State) (mask : Nat) : Bool :=
  s.fabMeasures && s.on Reg.FAB_CTL F.FAB_CTL_PLAN_EN && (List.range 8).any (fun r => bitOf mask r && s.rplan r != 0 &&
    decide (s.margin r < s.get Reg.FAB_THRESH_A F.FAB_THRESH_A_TARGET))

/-- 32 planner periods, in which every region reaches its target (02 R64). -/
def State.raiseTime (s : State) : Nat := 32 * s.get Reg.FAB_PLAN_CTL F.FAB_PLAN_CTL_PERIOD * windowTicks

/-- A unit is disabled by a write of its control register. -/
def disableUnit (s : State) (u : Nat × Nat) : State :=
  let a := unitReg u - 4
  let v := if u.1 = 6 then fldSet F.TPT_CTL_MODE (s.rd a) 0 else fldSet ⟨0, 1⟩ (s.rd a) 0
  if u.1 = 6 ∨ s.unitOn u then (blockWrite a v 0 true s).2 else s

/-- IMAGE_UNLOAD (01 R32, R33, R35; 12 R305; R447): no image is active, flows stop and every unit is disabled. -/
def imageUnload (s : State) : State :=
  let s := (List.range 16).foldl (fun s g => s.setGst g gUnused) (sealAll s)
  let s := (s.flowList.filter (fun f => !reservedFlow f)).foldl (fun s f => flowStop f s) s
  let s := allUnits.foldl disableUnit ((List.range 16).foldl (fun s p => abandonTrains p s) s)
  let s := allUnits.foldl (fun s u => s.put (unitReg u) ⟨4, 5⟩ 0x1F) s
  let s := { s with
    streams := [], rings := [], decs := [], trigQ := [], queues := s.queues.filter (fun p => decide (p.1 < 128)),
    cfg := { s.cfg with planOther := 0 } }
  let s := setFlowPlan [] (setLanes [] (emptyShadows (countStreams s)))
  let s := (s.put Reg.CFG_STATUS F.CFG_STATUS_ACTIVE 7).zero
    [Reg.CFG_ACTIVE_ID_LO, Reg.CFG_ACTIVE_ID_HI, Reg.CFG_ACTIVE_VER, Reg.CFG_LOADED_REGIONS]
  let s := (List.range 16).foldl (fun s g =>
    s.zero [Reg.POL_G_SLOT_LO g, Reg.POL_G_SLOT_HI g, Reg.POL_G_SPAN_LO g, Reg.POL_G_SPAN_HI g]) s
  s.setDev devUnconfigured

/-! ### Boot activation (R438) -/

/-- Every channel in use has left training phase 6 or has failed. -/
def State.channelsTrained (s : State) : Bool :=
  (List.range 8).all (fun m => !s.chUsed m || decide (7 ≤ s.phase m))

/-- Stage IMAGE of boot ends with device state `into` for the end of BOOT; DEV_BOOT_STAT shows a refusal's DETAIL (18 R471). -/
def imageStageEnds (into detail : Nat) (s : State) : State :=
  let s := s.put Reg.DEV_BOOT_STAT F.DEV_BOOT_STAT_DETAIL detail
  { s with boot := { s.boot with imageDone := true, into := into } }

/-- The activation at boot, with the golden image behind a refused slot. -/
def bootActivate (s : State) : State :=
  if s.on Reg.CFG_CTL F.CFG_CTL_BOOT_EN = false then imageStageEnds devUnconfigured 0 s
  else
    let r := activateImage none (s.get Reg.CFG_CTL F.CFG_CTL_BOOT_SLOT) s
    if r.1 = 0 then imageStageEnds devConfigured 0 r.2
    else
      let s := r.2.setFlag Reg.CFG_FLAGS F.CFG_FLAGS_GOLDEN_USED
      let s := s.addLog 0x41 ((flagSource Reg.CFG_FLAGS F.CFG_FLAGS_GOLDEN_USED.lo).getD 0) r.1 0
      let q := activateImage none 2 s
      if q.1 = 0 then imageStageEnds devConfigured r.1 q.2 else imageStageEnds devUnconfigured q.1 q.2

/-- BOOT_ACTIVATION (R438): in stage IMAGE (6) of boot, once the channels are trained. -/
def bootActivation (s : State) : State :=
  if s.dev ≠ devBoot ∨ s.get Reg.DEV_BOOT_STAT F.DEV_BOOT_STAT_STAGE ≠ 6 ∨ s.boot.imageDone ∨ s.channelsTrained = false then s
  else bootActivate s

/-- BOOT_ACTIVATION (R438). -/
def execBootActivation (s : State) : Host.Outcome State Fault Refusal := .next (bootActivation s)

end Sys2Proof.Machine
end

