-- ==== Sys2Proof/Machine/Reset.lean ====
section
/-! DEFINITION. Resets, start-up and its end, loss of power (18_power_reset_boot.md R450, R466 to R471; 00_scope.md R18). -/
namespace Sys2Proof.Machine

/-! ### Resets (R466, R467) -/

/-- The kinds of reset by their bit of DEV_RESET_CAUSE (R471). -/
def resetPowerOn : Nat := 0
def resetPin : Nat := 1
def resetSystem : Nat := 2
def resetWarm : Nat := 3

/-- DEV_RESET_CAUSE after a reset of a kind in this state: one bit, and FROM_FAULT. -/
def State.causeWord (s : State) (kind : Nat) : Nat :=
  2 ^ kind + 256 * b2n (kind != resetPowerOn && s.dev == devFault)

/-- Every block at its reset values; what no reset clears stays: the non-volatile store, the waiting commands, real time, the TAP,
and the frames that have left. -/
def State.cleared (s : State) : State :=
  { State.reset with
    pending := s.pending, rt := s.rt, free := s.free, nv := s.nv, fieldTrims := s.fieldTrims, tap := s.tap,
    mem := { fills := s.mem.fills }, hlk := { out := s.hlk.out }, boot := { since := s.rt } }

/-- The error log of `s` goes on in `t` (R466; 19 R482). -/
def keepLog (s t : State) : State :=
  State.wr { t with log := s.log, logWrapped := s.logWrapped } Reg.MON_LOG_HEAD (s.rd Reg.MON_LOG_HEAD)

/-- A register that a WARM reset keeps: the CKS, CHN and MCH blocks. -/
def warmKept (a : Nat) : Bool :=
  (decide (0x800000 ≤ a) && decide (a < 0x810000)) || (decide (0x900000 ≤ a) && decide (a < 0x980000)) ||
    (decide (0xE00000 ≤ a) && decide (a < 0xE10000))

/-- A snapshot that a reset cuts short reads CANCELLED after it (19 R478; DEDUCED, log entry 133). -/
def snapAfter (s t : State) : State :=
  if s.get Reg.MON_SNAP_STAT F.MON_SNAP_STAT_STATE = 1 then
    (t.put Reg.MON_SNAP_STAT F.MON_SNAP_STAT_STATE 3).setFlag Reg.MON_FLAGS F.MON_FLAGS_SNAP_CANCELLED
  else t

/-- POWER_ON: every block. -/
def powerOnReset (s : State) : State :=
  let t := s.cleared
  { t with tap := {} }

/-- PIN and SYSTEM: every block, not the error log. The entry of the reset is written first (19 R482). -/
def pinReset (kind : Nat) (s : State) : State :=
  let w := s.causeWord kind
  let s := s.addLog 0x02 0 w 0
  (snapAfter s (keepLog s s.cleared)).wn Reg.DEV_RESET_CAUSE w

/-- The flags that read 1 keep their lines high (14 R348), where their domain is not OFF (14 R357). -/
def showLines (s : State) : State :=
  (flagRegs.filter (fun a => decide (s.rn a ≠ 0))).foldl (fun s a =>
    ((((List.range 32).filter (fun b => bitOf (s.rn a) b)).filterMap (flagSource a)).filter (fun n => !s.lineLow n)).foldl (fun s n =>
      s.put (Reg.EVC_SRC_STAT n) F.EVC_SRC_STAT_LIVE 1) s) s

/-- WARM: every block but CKS, CHN, MCH and the error log; memory contents, the tick counter and the chain's timebase stay. The ticks at
which kept flags were set stay with them (14 R356). A window of the margin planner in progress runs on, and counts at its end as the first
since reset (02 R54; DESIGN CHOICE, log 143). -/
def warmClear (s : State) : State :=
  let w := s.causeWord resetWarm
  let s := s.addLog 0x02 0 w 0
  let t := s.cleared
  let t := { t with
    tick := s.tick, lastFrame := s.lastFrame, regs := s.regs.filter (fun p => warmKept p.1), clk := s.clk,
    fab := { lastEnd := some s.tick }, mdlls := s.mdlls, mchs := s.mchs, mem := { s.mem with spill := [] }, chn := s.chn,
    evc := { sets := s.evc.sets }, boot := { since := s.rt, warm := true } }
  showLines ((snapAfter s (keepLog s t)).wn Reg.DEV_RESET_CAUSE w)

/-- A WARM reset takes effect: sessions end, channels enter self-refresh, blocks clear (R467). -/
def warmTake (s : State) : State := warmClear (allSelfRefresh (endSessions s))

/-- The seals are done, or their time is over: the flows are asked to park, and the reset takes effect once none is left to (R467). -/
def warmFlows (s : State) : State :=
  let s := parkAll { s with boot := { s.boot with warmPark := true } }
  if s.parking then s else warmTake s

/-- A WARM reset that waits goes on as soon as its seals are done, then as soon as its flows have parked. -/
def warmCheck (s : State) : State :=
  if s.boot.warmWait.isNone then s
  else if s.boot.warmPark then (if s.parking then s else warmTake s)
  else if s.recordsDone then warmFlows s
  else s

/-- A WARM reset is asked for: running groups stop; the flows park once every polder is sealed, or 2 ms later (R467). -/
def warmReset (s : State) : State :=
  if s.boot.warmWait.isSome then s
  else
    let s := sealAll (((List.range 16).filter s.gRunning).foldl stopGroup s)
    warmCheck { s with boot := { s.boot with warmWait := some s.rt } }

/-- The time for the seals of a waiting WARM reset is over. -/
def warmDue (s : State) : State :=
  match s.boot.warmWait with
  | none => s
  | some t => if s.boot.warmPark = false ∧ t + usTicks 2000 ≤ s.rt then warmFlows s else warmCheck s

/-- WARM_SEAL_TIMEOUT (R467). -/
def execWarmSealTimeout (s : State) : Host.Outcome State Fault Refusal := .next (warmDue s.noOut)

/-- POWER_ON_RESET (R466): the hold of R450 is released. -/
def execPowerOnReset (s : State) : Host.Outcome State Fault Refusal := .next (powerOnReset s.noOut)

/-- PIN_RESET (R466); without its rails the device stays held in reset (R450). -/
def execPinReset (s : State) : Host.Outcome State Fault Refusal :=
  .next (if s.boot.held then s else pinReset resetPin s.noOut)

/-- TAP_RESET (R466). -/
def execTapReset (s : State) : Host.Outcome State Fault Refusal := .next { s with tap := {} }

/-- POWER_COLLAPSE (R450): the device is held in reset, and a store write is cut short. -/
def powerCollapse (s : State) : State :=
  let t := powerOnReset s
  { t with boot := { t.boot with held := true } }

/-- POWER_COLLAPSE (R450). -/
def execPowerCollapse (s : State) : Host.Outcome State Fault Refusal := .next (powerCollapse s.noOut)

/-! ### Start-up (R468; 17 R427, R444, R445) -/

/-- DEV_BOOT_STAT.STAGE. -/
def State.stage (s : State) : Nat := s.get Reg.DEV_BOOT_STAT F.DEV_BOOT_STAT_STAGE
def State.setStage (s : State) (x : Nat) : State := s.put Reg.DEV_BOOT_STAT F.DEV_BOOT_STAT_STAGE x

/-- Boot does not load registers that a WARM reset keeps. -/
def State.bootLoads (s : State) (a : Nat) : Bool := !(s.boot.warm && warmKept a)

/-- A register is loaded at boot. -/
def bootWrite (s : State) (a x : Nat) : State := if s.bootLoads a then s.wn a x else s

/-- The fixed dividers of the outputs (10 R257). -/
def outDiv : List Nat := [1, 1, 1, 1, 4, 1000, 4000, 64, 256]

/-- Stage FACTORY (the outputs stay held until the first release, 10 R275): serial number, station address, reference limit, output delays; slots and keys as the store has them. -/
def loadFactory (s : State) : State :=
  let s := (List.range 9).foldl (fun s o =>
    bootWrite s (Reg.CKS_OUT o) (2 ^ 31 + Config.outDelay o % 2 ^ 14 * 2 ^ 16 + outDiv.getD o 1)) s
  let s := s.wr64 Reg.DEV_SERIAL_LO Config.serial
  let s := (s.wn Reg.HLK_MAC_LO Config.mac).wn Reg.HLK_MAC_HI (Config.mac / 2 ^ 32 % 2 ^ 16)
  let spec := Config.refSpec % 2 ^ 16
  let s := s.wn (Reg.PCV_REF_SPEC 0) spec
  let s := s.wn (Reg.PCV_REF_DRIFT 0) (2 ^ 16 * unsx 16 (satS 16 (spec : Int)))
  showKey (showStore s)

/-- The stored memory rate (17 R444). -/
def loadRate (s : State) : State :=
  if s.bootLoads (Reg.CKS_MDLL_CTL 0) then
    let r := fldGet F.CKS_MDLL_CTL_MULT (lookupD (fun _ => 0#32) s.nv.saved (Reg.CKS_MDLL_CTL 0))
    { s with clk := { s.clk with rate := r } }
  else s

/-- The records that fail their CRC are ignored from now on: the value committed before them applies (17 R445). -/
def dropSettings (bad : BadRecords) (nv : NvHid) : NvHid :=
  let nv := bad.settings.foldl (fun nv a =>
    let r := dropLatest 1 (lookup? nv.saved a) (lookupD (fun _ => []) nv.past a)
    { nv with saved := setKey nv.saved a r.1, past := updateD (fun _ => []) nv.past a r.2 }) nv
  let nv := (bad.keys.map (fun k => k.val)).foldl (fun nv k =>
    let r := dropLatest 1 (lookup? nv.keys k) (lookupD (fun _ => []) nv.pastKeys k)
    { nv with keys := setKey nv.keys k r.1, pastKeys := updateD (fun _ => []) nv.pastKeys k r.2 }) nv
  let a := dropLatest bad.addr nv.addr nv.pastAddr
  let k := dropLatest bad.key nv.key nv.pastKey
  { nv with addr := a.1, pastAddr := a.2, key := k.1, pastKey := k.2 }

/-- Copies of field trim sets that fail their CRC are ignored: the older copy counts, then none, and the factory set loads (17 R428). -/
def dropFields (bad : List (Fin 16)) (s : State) : State :=
  (bad.map (fun q => q.val)).foldl (fun s q => { s with
    fieldTrims := updateD (fun _ => []) s.fieldTrims q (lookupD (fun _ => []) s.nv.fieldOld q),
    nv := { s.nv with fieldOld := eraseKey q s.nv.fieldOld } }) s

/-- Stage SETTINGS: the saved registers at their latest committed values whose records pass their CRC, the rest at the values that the
chapters name (17 R444, R445); the link's settings come into force. -/
def loadSettings (bad : BadRecords) (s : State) : State :=
  let nv := dropSettings bad s.nv
  let s := State.setFlagIf { s with nv := nv } (nv != s.nv) Reg.CFG_FLAGS F.CFG_FLAGS_SETTINGS_CORRUPT
  let s := (nv.saved.filter (fun p => p.1 != Reg.CKS_MDLL_CTL 0)).foldl (fun s p => bootWrite s p.1 p.2.toNat) s
  hlkLoad (showKey (showKeys (loadRate s)))

/-- REFSEL is matched to REFCLK, which lies within 0.3 % of the frequency with code `ref`; the host-link PLL takes that frequency,
and the SPLL begins to lock (10 R271). -/
def matchRef (ref : Nat) (s : State) : State :=
  let s := { s with clk := { s.clk with hlRef := ref } }
  if s.bootLoads Reg.CKS_REF_CTL then
    State.put { s with clk := { s.clk with runRt := s.rt } } Reg.CKS_REF_CTL F.CKS_REF_CTL_REFSEL ref
  else s

/-- Stage CLOCKS is done: the SPLL is locked and the tick counter runs. -/
def State.clocksRun (s : State) : Bool :=
  s.on Reg.CKS_STATUS F.CKS_STATUS_LOCKED && s.clk.released && !s.on Reg.CKS_STATUS F.CKS_STATUS_GATED

/-- FAB, MEM and the domains of PWR_DOM_CTL are to be powered. -/
def bootPower (s : State) : State := ((List.range 8).filter s.domTarget).foldl (fun s d => powerUp d s) s

/-- They read ON, and VDDC is read back. -/
def bootPowered (vddc : Nat) (s : State) : State := noteVddc vddc ((List.range 8).foldl (fun s d => domainOn d s) s)

/-- Stage MEMORY begins: initialisation, or the return from self-refresh (R467). -/
def bootMemory (s : State) : State :=
  if s.boot.warm then (List.range 8).foldl (channelReturn false) s else (List.range 8).foldl (fun s m => startInit m s) s

/-- Every channel has left phases 1 to 6 and its retrain. -/
def State.memoryTrained (s : State) : Bool :=
  (List.range 8).all (fun m => (s.phase m == phOff || decide (7 ≤ s.phase m)) && !s.channelSleeps m)

/-- The precision trim sets of the factory area that fail their check (08 R220). -/
def noteTrims (bad : List (Fin 24)) (s : State) : State :=
  (List.range 24).foldl (fun s k => s.setPcv k { s.pcv k with trimBad := bad.any (fun b => b.val == k) }) s

/-- The stage in progress completes where its work is done, and the next begins. A factory record that fails in both copies is a cause
of FAULT (17 R427), and so is VDDC out of its range (R454). `ref`: the code of the frequency at which REFCLK
lies; `vddc`: VDDC in mV as read back. -/
def stageEnd (ref : Nat) (bad : BadRecords) (vddc : Nat) (s : State) : State :=
  if s.boot.held ∨ s.dev ≠ devBoot then s
  else if s.stage = 1 then
    (if bad.factory then faultArises causeStore s else (dropFields bad.fields (noteTrims bad.trims (loadFactory s))).setStage 2)
  else if s.stage = 2 then (matchRef ref (loadSettings bad s)).setStage 3
  else if s.stage = 3 then (if s.clocksRun then bootPower ((List.range 4).foldl startIf (s.setStage 4)) else s)
  else if s.stage = 4 then vddcJudge (bootMemory ((bootPowered vddc s).setStage 5))
  else if s.stage = 5 then (if s.memoryTrained then s.setStage 6 else s)
  else if s.stage = 6 then (if s.boot.imageDone ∧ (s.hif 0).held = false then s.setStage 7 else s)
  else s

/-- BOOT_STAGE_END (R468). -/
def execBootStageEnd (ref : Fin 4) (bad : BadRecords) (vddc : BitVec 10) (s : State) : Host.Outcome State Fault Refusal :=
  .next (stageEnd ref.val bad vddc.toNat s.noOut)

/-- Hours of HEALTH records are counted from now (19 R481). -/
def healthOrigin (s : State) : State := { s with mon := { s.mon with healthFrom := s.rt } }

/-- BOOT ends (R469): IMAGE has ended and interface 0 holds an address. The device takes the state that the image stage gave. -/
def bootEnd (s : State) : State :=
  if s.dev ≠ devBoot ∨ s.stage = 0xFF ∨ s.boot.imageDone = false ∨ (s.hif 0).held = false then s
  else
    let s := s.wn Reg.DEV_BOOT_TIME ((ticksToUs (s.rt - s.boot.since) + 999) / 1000)
    settleDomains (healthStart s.rt (healthOrigin ((s.setStage 8).setDev s.boot.into)))

/-- BOOT_END (R469). -/
def execBootEnd (s : State) : Host.Outcome State Fault Refusal := .next (bootEnd s)

end Sys2Proof.Machine
end

