-- ==== Sys2Proof/Machine/Btp.lean ====
section
/-! DEFINITION. BTP requests: reception, sequencing, sessions, register and memory transactions, block reads, event
acknowledgement (15_host_link.md R375 to R392, R396, R397). -/
namespace Sys2Proof.Machine

/-! ### Reception (R375, R379, R381, R382) -/

/-- The tagged part of a message as received: its header has ACK, STATUS and DSTATE 0 and GSTATE 0x0F. -/
def msgSigned (m : Msg) (typ : Nat) : List Byte :=
  btpHeader typ m.flags.toNat m.data.length m.sess.toNat m.seq.toNat 0 0 0 0x0F ++ m.data

/-- The tag is there and right. -/
def msgTagOk (m : Msg) (typ : Nat) (key : List Byte) : Bool :=
  bitOf m.flags.toNat 0 && m.tag == btpTag key (msgSigned m typ)

/-- A reply outside the sequence of a session, with the SEQ of the message that it answers. -/
def sendAside (x : Session) (typ seq status : Nat) (s : State) : State :=
  sendBytes x.iface x.v6 (btpMessage x.auth x.key (typ % 128 + 0x80) x.id seq x.e status s.dev 0x0F []) s

/-- A message of a session that fails its tag is discarded (R379). -/
def tagFailed (s : State) : State := (s.bump Reg.HLK_AUTHFAIL 1).setFlag Reg.HLK_FLAGS F.HLK_FLAGS_AUTH_FAIL

/-- The session's timeout starts anew (R382). -/
def refresh (k : Nat) (s : State) : State := s.modSession k (fun x => { x with last := s.rt })

/-- The bytes of the frame that carries a message of `n` bytes, from destination address to frame check sequence (R370). -/
def frameBytes (v6 : Bool) (n : Nat) : Nat := 18 + (if v6 then 40 else 20) + 8 + n

/-- The frame is longer than the MAC accepts (R370). -/
def frameTooLong (v6 : Bool) (n : Nat) : Bool := decide (9216 < frameBytes v6 n)

/-- The datagram reaches BTP: its interface hears it, it is no fragment, and it is for the port of BTP (R373, R375). -/
def State.takesMsg (s : State) (m : Msg) : Bool :=
  s.reachable m.iface.val m.v6 && !m.frag && (match m.port with
    | none => false
    | some p => p.toNat == s.btpPort)

/-- A message arrives (R370, R373): `f` takes it where its frame is not too long and its datagram reaches BTP. -/
def arrives (m : Msg) (f : State → State) (s : State) : State :=
  if frameTooLong m.v6 (24 + m.data.length + m.tag.length) then (if s.hlkUp m.iface.val then macDiscard false s else s)
  else if s.takesMsg m then f s
  else s

/-- A message reaches the session that it names; `f` is what its type does there. One that names no open session is answered
NO_SESSION where it is a request. -/
def receive (typ : Nat) (request : Bool) (m : Msg) (f : Nat → State → State) (s : State) : State :=
  arrives m (fun s =>
    match s.sessSlot m.sess.toNat with
    | none =>
      let s := s.bump Reg.HLK_RXCNT 1
      if request then sendBare m.iface.val m.v6 typ m.sess.toNat m.seq.toNat stNoSession [] s else s
    | some k =>
      match s.session k with
      | none => s
      | some x =>
        if x.auth ∧ msgTagOk m typ x.key = false then tagFailed s
        else f k (refresh k s)) s.noOut

/-- A message is accepted (R400). -/
def accepted (s : State) : State := s.bump Reg.HLK_RXCNT 1

/-! ### Register transactions (R385, R386) -/

/-- The first status other than OK of a list, else OK. -/
def firstBad (l : List Nat) : Nat := (l.find? (fun c => c != 0)).getD 0

/-- The words of a payload from byte `o` on, `n` of them. -/
def payloadWords (p : List Byte) (o n : Nat) : List Nat := (List.range n).map (fun i => leAt p (o + 4 * i) 4)

/-- Reads in order: statuses and words, latest first, and the state. -/
def readEntries : List Nat → State → List (Nat × Word) × State
  | [], s => ([], s)
  | a :: t, s =>
    let r := readReg a s
    let q := readEntries t r.2.2
    ((r.1.code, r.2.1) :: q.1, q.2)

/-- Writes in order, by a session: statuses and the state. The line of a flag that an entry clears has fallen before the next entry
(R383). -/
def writeEntries (sess : Nat) (auth : Bool) : List (Nat × Nat) → State → List Nat × State
  | [], s => ([], s)
  | (a, v) :: t, s =>
    let r := writeReg a (BitVec.ofNat 32 v) sess auth s
    let q := writeEntries sess auth t (settleFalls r.2)
    (r.1.code :: q.1, q.2)

/-- A payload of a register request is malformed. -/
def regReqBad (p : List Byte) (each : Nat) : Bool :=
  let n := leAt p 0 2
  decide (p.length < 4) || decide (n = 0) || decide (256 < n) || decide (p.length ≠ 4 + each * n)

/-- REG_READ of slot `k`. -/
def runRegRead (k : Nat) (x : Session) (p : List Byte) (s : State) : State :=
  let n := leAt p 0 2
  if regReqBad p 4 ∨ s.fits x.iface x.v6 x.auth (4 + 8 * n) = false then answer k 0x10 stMalformed 0x0F [] s
  else
    let r := readEntries (payloadWords p 4 n) s
    let body := r.1.flatMap (fun e => leBytes 4 e.2.toNat ++ leBytes 2 e.1 ++ leBytes 2 0)
    answer k 0x10 (firstBad (r.1.map (fun e => e.1))) 0x0F (leBytes 2 n ++ leBytes 2 0 ++ body) r.2

/-- REG_WRITE of slot `k`. -/
def runRegWrite (k : Nat) (x : Session) (p : List Byte) (s : State) : State :=
  let n := leAt p 0 2
  if regReqBad p 8 then answer k 0x11 stMalformed 0x0F [] s
  else
    let l := (List.range n).map (fun i => (leAt p (4 + 8 * i) 4, leAt p (8 + 8 * i) 4))
    let r := writeEntries x.id x.auth l s
    answer k 0x11 (firstBad r.1) 0x0F (leBytes 2 n ++ leBytes 2 0 ++ r.1.flatMap (leBytes 2)) r.2

/-! ### Memory transactions (R387, R398) -/

/-- The refusal of a range of a space before any byte moves; 0 where there is none. -/
def memStatus (space a n : Nat) (write : Bool) (s : State) : Nat :=
  if space = 1 then (if a + n > pmemSize then stRange else 0)
  else if s.capacity = 0 then stNotReady
  else if a + n > s.capacity then stRange
  else if s.memReady = false then stNotReady
  else if s.rangeFault a n then stChannel
  else if write ∧ s.dikeProtected a n then stProtected
  else 0

/-- The state keeps a memory request from being legal (R398). -/
def State.memRefused (s : State) (write : Bool) : Bool :=
  s.dev == devStandby || (write && s.dev == devFault)

/-- SPACE or LENGTH of a payload is none that R387 names. -/
def memBad (p : List Byte) : Bool :=
  decide (p.length < 16) || decide (1 < leAt p 0 1) || decide (leAt p 4 4 = 0) || decide (8192 < leAt p 4 4)

/-- MEM_READ of slot `k`. -/
def runMemRead (k : Nat) (x : Session) (p : List Byte) (s : State) : State :=
  let n := leAt p 4 4
  let a := leAt p 8 8
  if memBad p ∨ s.fits x.iface x.v6 x.auth n = false then answer k 0x12 stMalformed 0x0F [] s
  else if s.memRefused false then answer k 0x12 stStateRefused 0x0F [] s
  else
    let st := memStatus (leAt p 0 1) a n false s
    if st ≠ 0 then answer k 0x12 st 0x0F [] s
    else if leAt p 0 1 = 1 then answer k 0x12 0 0x0F (s.pmemBytes a n) s
    else
      let r := memRead a n s
      answer k 0x12 (if r.2.1 then stPoison else 0) 0x0F r.1 r.2.2

/-- A request waits: a MEM_READ while a channel of its range sleeps for holdover (11_acquisition_memory.md R299); an image command while a
region load is under way, since there is one configuration buffer (17_configuration_images.md R434; DESIGN CHOICE, log 71). -/
def State.requestWaits (s : State) (typ : Nat) (p : List Byte) : Bool :=
  (typ == 0x12 && !memBad p && leAt p 0 1 == 0 && !s.memRefused false && memStatus 0 (leAt p 8 8) (leAt p 4 4) false s == 0 &&
    s.rangeSleeps (leAt p 8 8) (leAt p 4 4)) ||
  (typ == 0x30 && s.cfg.loading.isSome && [0x20, 0x21, 0x22].contains (leAt p 0 1))

/-- MEM_WRITE of slot `k`. -/
def runMemWrite (k : Nat) (p : List Byte) (s : State) : State :=
  let n := leAt p 4 4
  let a := leAt p 8 8
  if memBad p ∨ p.length ≠ 16 + n then answer k 0x13 stMalformed 0x0F [] s
  else if s.memRefused true then answer k 0x13 stStateRefused 0x0F [] s
  else
    let st := memStatus (leAt p 0 1) a n true s
    if st ≠ 0 then answer k 0x13 st 0x0F [] s
    else answer k 0x13 0 0x0F [] (if leAt p 0 1 = 1 then s.pmemPuts a (p.drop 16) else memWrite a (p.drop 16) s)

/-! ### Block reads (R389 to R392) -/

/-- Bytes of a packing group (03_fast_inputs.md R86, R87). -/
def packBytes (e : Nat) : Nat := [24, 72, 3].getD e 3

/-- The payload names no block read that R389 allows. -/
def blockBad (p : List Byte) : Bool :=
  let mode := leAt p 1 1
  let frame := leAt p 4 2
  let window := leAt p 6 2
  let len := leAt p 16 8
  decide (p.length < 24) || decide (1 < leAt p 0 1) || decide (1 < mode) || decide (7 < leAt p 3 1) ||
    decide (frame < 64) || decide (8896 < frame) || decide (frame % 64 ≠ 0) || decide (window = 0) || decide (4096 < window) ||
    decide (len = 0) || decide (2 ^ 41 < len) ||
    (mode == 1 && (decide (leAt p 0 1 ≠ 0) || decide (2 < leAt p 2 1) || decide (len % packBytes (leAt p 2 1) ≠ 0) ||
      decide (leAt p 8 8 % packBytes (leAt p 2 1) ≠ 0)))

/-- BLOCK_READ of slot `k`. -/
def runBlockRead (k : Nat) (x : Session) (p : List Byte) (s : State) : State :=
  let a := leAt p 8 8
  let n := leAt p 16 8
  if blockBad p ∨ s.fits x.iface x.v6 x.auth (24 + leAt p 4 2) = false then answer k 0x20 stMalformed 0x0F [] s
  else if s.memRefused false then answer k 0x20 stStateRefused 0x0F [] s
  else
    let st := memStatus (leAt p 0 1) a n false s
    let busy := (s.blkOf k (leAt p 3 1)).isSome || decide (8 ≤ s.blks.length) ||
      (leAt p 1 1 == 1 && (List.range 8).all (fun c => !s.on (Reg.CMP_CTL c) F.CMP_CTL_ENABLE))
    if st ≠ 0 then answer k 0x20 st 0x0F [] s
    else if busy then answer k 0x20 stBusy 0x0F [] s
    else
      let b : BlkStream := {
        sess := k, id := leAt p 3 1, seq := x.e, space := leAt p 0 1, mode := leAt p 1 1, elem := leAt p 2 1,
        frame := leAt p 4 2, window := leAt p 6 2, addr := a, len := n, since := s.rt }
      showSessions (handChunks { answer k 0x20 0 0x0F [] s with blks := s.blks ++ [b] })

/-- A DATA frame's content: offset, chunk, bytes, poison, end of a chunk, end of the read. -/
structure Frame where
  ofs  : Nat
  chunk : Nat
  data : List Byte
  poisoned : Bool
  chunkEnd : Bool
  last : Bool
  deriving DecidableEq, Repr

/-- Frame `f` of a RAW read. -/
def rawFrame (b : BlkStream) (f : Nat) (s : State) : Frame × State :=
  let o := f * b.frame
  let n := min b.frame (b.len - o)
  if b.space = 1 then (⟨o, 0, s.pmemBytes (b.addr + o) n, false, false, decide (b.len ≤ o + n)⟩, s)
  else
    let r := memRead (b.addr + o) n s
    (⟨o, 0, r.1, r.2.1, false, decide (b.len ≤ o + n)⟩, r.2.2)

/-- The frame that begins at offset `o` of chunk `c`, coded as `code`. -/
def codedFrame (b : BlkStream) (c o : Nat) (code : List Byte) (poisoned : Bool) : Frame :=
  let n := min b.frame (code.length - o)
  let ends := decide (code.length ≤ o + n)
  ⟨o, c, (code.drop o).take n, poisoned, ends, ends && decide (b.chunks ≤ c + 1)⟩

/-- Frame `f` again: read again, and its chunk coded again (R388; 13 R345). -/
def frameAgain (b : BlkStream) (f : Nat) (s : State) : Frame × State :=
  if b.mode = 0 then rawFrame b f s
  else
    let p := b.places.getD f (0, 0)
    let c := b.chunkAt p.1
    let d := memRead c.addr (elemBytes c.elem c.nsamp) s
    (codedFrame b p.1 p.2 (codeStream c.elem c.nsamp d.1) d.2.1, d.2.2)

/-- A DATA message leaves (R390): DFLAGS beside those of its content, and the status of a LAST frame. -/
def sendFrame (x : Session) (b : BlkStream) (f : Nat) (again : Bool) (last : Option Nat) (c : Frame) (s : State) : State :=
  let fl := b2n last.isSome + 2 * b2n c.poisoned + 4 * b2n again + 8 * b2n c.chunkEnd
  let sub := leBytes 1 b.id ++ leBytes 1 fl ++ leBytes 2 0 ++ leBytes 4 f ++ leBytes 8 c.ofs ++ leBytes 4 c.chunk ++ leBytes 4 0
  let s := if again then s.bump Reg.HLK_RETXCNT 1 else s
  notify x 0x21 b.seq (last.getD 0) (sub ++ c.data) s

/-- A frame without data. -/
def emptyFrame : Frame := ⟨0, 0, [], false, false, false⟩

/-- A stream is free again; chunks of it that an engine still holds are dropped (R392). -/
def freeStream (k id : Nat) (s : State) : State :=
  dropChunks k id { s with blks := s.blks.filter (fun c => !(c.sess == k && c.id == id)) }

/-- A read ends early with a LAST frame that carries a status (R390). -/
def endStream (x : Session) (b : BlkStream) (status : Nat) (s : State) : State :=
  let s := sendFrame x b b.next false (some status) emptyFrame s
  let since := if b.next = b.cum then s.rt else b.since
  dropChunks b.sess b.id
    (s.setBlk { b with last := some (b.next, status), next := b.next + 1, again := [], lastSends := 1, since := since })

/-- It ends so once the window has room for that frame (R391). -/
def endInWindow (x : Session) (b : BlkStream) (status : Nat) (s : State) : State :=
  if b.cum + b.window ≤ b.next then s.setBlk { b with fail := some status } else endStream x b status s

/-- The channels of a stream's range have failed (R390). -/
def State.streamFault (s : State) (b : BlkStream) (o n : Nat) : Bool := b.space == 0 && s.rangeFault (b.addr + o) n

/-- Frame `f` of a stream is sent again. -/
def resend (x : Session) (b : BlkStream) (f : Nat) (s : State) : State :=
  let n := if b.mode = 0 then min b.frame (b.len - f * b.frame) else b.len
  let fin : Option Nat := match b.last with
    | some (g, st) => if g = f then some st else none
    | none => none
  let early := match fin with
    | some st => decide (st ≠ 0 ∧ st ≠ stPoison)
    | none => false
  if early then
    (sendFrame x b f true fin emptyFrame s).setBlk { b with lastSends := b.lastSends + 1 }
  else if b.last.isNone ∧ s.streamFault b (if b.mode = 0 then f * b.frame else 0) n then endInWindow x b stChannel s
  else
    let r := frameAgain b f s
    let sends := if fin.isSome then b.lastSends + 1 else b.lastSends
    (sendFrame x b f true fin r.1 r.2).setBlk { b with lastSends := sends, poisoned := b.poisoned || r.1.poisoned }

/-- A new frame has been sent. -/
def sentFrame (x : Session) (b : BlkStream) (c : Frame) (s : State) : State :=
  let p := b.poisoned || c.poisoned
  let fin := if c.last then some (if p then stPoison else 0) else none
  let s := sendFrame x b b.next false fin c s
  let since := if b.next = b.cum then s.rt else b.since
  let b := { b with
    next := b.next + 1, poisoned := p, since := since, last := fin.map (fun st => (b.next, st)), lastSends := b2n c.last }
  let b := if b.mode = 0 then b
    else if c.chunkEnd then
      { b with places := b.places ++ [(c.chunk, c.ofs)], chunk := c.chunk + 1, ofs := 0,
               coded := b.coded.filter (fun q => q.idx != c.chunk) }
    else { b with places := b.places ++ [(c.chunk, c.ofs)], ofs := c.ofs + c.data.length }
  handChunks (s.setBlk b)

/-- The next new frame of a stream, where there is one to send. -/
def newFrame (x : Session) (b : BlkStream) (s : State) : State :=
  if b.last.isSome ∨ b.cum + b.window ≤ b.next then s
  else
    match b.fail with
    | some st => endStream x b st s
    | none =>
      if b.mode = 0 then
        let o := b.next * b.frame
        if s.streamFault b o (min b.frame (b.len - o)) then endStream x b stChannel s
        else
          let r := rawFrame b b.next s
          sentFrame x b r.1 r.2
      else
        match b.coded.find? (fun q => q.idx == b.chunk) with
        | none => s
        | some q => sentFrame x b (codedFrame b b.chunk b.ofs q.data q.poisoned) s

/-- A stream whose LAST frame has been sent 16 times is free (R392). -/
def freeSpent (k id : Nat) (s : State) : State :=
  match s.blkOf k id with
  | none => s
  | some b =>
    if 16 ≤ b.lastSends then freeStream k id s else s

/-- The frames of a stream wait: the link is down or paused, or the channels that hold the next one sleep (R370;
11_acquisition_memory.md R299). -/
def State.streamWaits (s : State) (x : Session) (b : BlkStream) (f : Nat) : Bool :=
  !s.hlkUp x.iface || decide (s.rt < (s.hif x.iface).pause) ||
    (b.space == 0 && (s.dev == devStandby ||
      (if b.mode = 0 then s.rangeSleeps (b.addr + f * b.frame) b.frame else decide (f < b.next) && s.rangeSleeps b.addr b.len)))

/-- Stream `id` of slot `k` sends its next frame: one asked for again ahead of new ones (R391). -/
def dataSend (k id : Nat) (s : State) : State :=
  match s.session k, s.blkOf k id with
  | some x, some b =>
    if s.streamWaits x b (b.again.headD b.next) then s
    else
      match b.again with
      | f :: t => showSessions (freeSpent k id (resend x { b with again := t } f s))
      | [] => showSessions (newFrame x b s)
  | _, _ => s

/-- DATA_SEND (R390): stream `id` of the session in slot `k`. -/
def execDataSend (k id : Fin 8) (s : State) : Host.Outcome State Fault Refusal := .next (dataSend k.val id.val s.noOut)

/-- The frames of one range of a DATA_ACK that are outstanding and not yet asked for. -/
def wanted (b : BlkStream) (first count : Nat) : List Nat :=
  let lo := max b.cum first
  let hi := min b.next (first + count)
  ((List.range (hi - lo)).map (fun i => lo + i)).filter (fun f => !b.again.contains f)

/-- A DATA_ACK reaches its stream (R391). -/
def ackStream (p : List Byte) (b : BlkStream) (s : State) : State :=
  let cum := leAt p 4 4
  if b.next < cum then s
  else
    let b := if b.cum < cum then { b with cum := cum, since := s.rt, timeouts := 0 } else b
    let b := { b with again := b.again.filter (fun f => decide (b.cum ≤ f)) }
    let b := (List.range (leAt p 1 1)).foldl (fun b i =>
      { b with again := b.again ++ wanted b (leAt p (8 + 8 * i) 4) (leAt p (12 + 8 * i) 4) }) b
    let done := match b.last with
      | some (f, _) => decide (f < b.cum)
      | none => false
    if done then
      showSessions (freeStream b.sess b.id s)
    else s.setBlk b

/-- A DATA_ACK of slot `k`; one that is malformed is discarded, since it draws no answer. -/
def dataAck (p : List Byte) (k : Nat) (s : State) : State :=
  if p.length < 8 ∨ 32 < leAt p 1 1 ∨ p.length ≠ 8 + 8 * leAt p 1 1 then s
  else
    match s.blkOf k (leAt p 0 1) with
    | none => s
    | some b => ackStream p b s

/-- DATA_ACK (R391). -/
def execDataAck (m : Msg) (s : State) : Host.Outcome State Fault Refusal := .next (receive 0x22 false m (fun k s => dataAck m.data k (accepted s)) s)

/-- The stream ends with TIMEOUT: a LAST frame follows, or the LAST frame that went out before carries TIMEOUT from now on. The frames
before it are given up, so it leaves whatever the window (R391, R392). -/
def timeOutStream (x : Session) (b : BlkStream) (s : State) : State :=
  let s := s.setFlag Reg.HLK_FLAGS F.HLK_FLAGS_STREAM_TIMEOUT
  match b.last with
  | none => endStream x { b with timeouts := 0 } stTimeout s
  | some (f, _) => resend x { b with timeouts := 0, again := [], last := some (f, stTimeout) } f s

/-- The frame that a timeout sends again: the oldest unacknowledged one; of a stream that has ended with TIMEOUT, its LAST frame. -/
def BlkStream.oldest (b : BlkStream) : Nat :=
  match b.last with
  | none => b.cum
  | some (f, st) => if st = stTimeout then f else b.cum

/-- CUM of stream `id` of slot `k` has not advanced for HLK_RTO.DATA µs with frames outstanding (R392). -/
def dataRto (k id : Nat) (s : State) : State :=
  match s.session k, s.blkOf k id with
  | some x, some b =>
    if b.next = b.cum ∨ s.rt < b.since + s.get Reg.HLK_RTO F.HLK_RTO_DATA * tickUs ∨ s.streamWaits x b b.oldest then s
    else
      let b := { b with timeouts := b.timeouts + 1, since := s.rt }
      let onlyLast := match b.last with
        | some (f, _) => decide (f = b.oldest)
        | none => false
      let s := freeSpent k id (resend x b b.oldest s)
      match s.blkOf k id with
      | none => showSessions s
      | some b => showSessions (if 16 ≤ b.timeouts ∧ onlyLast = false then timeOutStream x b s else s)
  | _, _ => s

/-- DATA_RTO (R392): stream `id` of the session in slot `k`. -/
def execDataRto (k id : Fin 8) (s : State) : Host.Outcome State Fault Refusal := .next (dataRto k.val id.val s.noOut)

/-- BLOCK_CANCEL of slot `k` (R392). -/
def runBlockCancel (k : Nat) (x : Session) (p : List Byte) (s : State) : State :=
  if p.length < 4 then answer k 0x23 stMalformed 0x0F [] s
  else
    let id := leAt p 0 1
    let s := match s.blkOf k id with
      | none => s
      | some b =>
        freeStream k id (cancelStream x s b)
    showSessions (answer k 0x23 0 0x0F [] s)

/-! ### Events (R397) -/

/-- EVENT_ACK of slot `k`. -/
def runEventAck (k : Nat) (p : List Byte) (s : State) : State :=
  let n := leAt p 4 2
  if p.length < 8 ∨ p.length ≠ 8 + 2 * n then answer k 0x41 stMalformed 0x0F [] s
  else
    let s := s.modSession k (fun x => { x with evs := x.evs.filter (fun e => e.evseq != leAt p 0 4) })
    let l := (List.range n).map (fun i => leAt p (8 + 2 * i) 2)
    answer k 0x41 0 0x0F [] (l.foldl (fun s a => complete 1 a s) s)

end Sys2Proof.Machine
end

