-- ==== Sys2Proof/Machine/Command.lean ====
section
/-! DEFINITION. BTP sessions and commands: OPEN, the order of requests, COMMAND and its deferred replies, unknown messages
(15_host_link.md R375 to R383, R394, R395, R398; 17_configuration_images.md R434; 18_power_reset_boot.md R463, R464, R466). -/
namespace Sys2Proof.Machine

/-! ### Commands (R394, R395, R398) -/

/-- A fixed group of some states stands in the way of a command: the first such group. -/
def State.groupNot (s : State) (ok : List Nat) : Option Nat := (List.range 16).find? (fun g => !ok.contains (s.gst g))

/-- The states of every group in which an image may be loaded over, or unloaded. -/
def atRest : List Nat := [gStopped, gHalted, gFault, gUnused]

/-- A command of the device state alone: the refusal, or `f`. -/
def inStates (k : Nat) (states : List Nat) (groups : List Nat) (f : State → State) (s : State) : State :=
  if states.contains s.dev = false then answerCommand k stStateRefused 0xFF 0 s
  else if s.dev = devConfigured then
    match s.groupNot groups with
    | some g => answerCommand k stStateRefused g 0 s
    | none => f s
  else f s

/-- ARM, HALT or STOP on this device. -/
def localGroups (k op mask : Nat) (s : State) : State :=
  if s.dev ≠ devConfigured then answerGroups k stStateRefused 0xFF mask 0 s
  else
    match runGroupOp op mask s with
    | (some (g, st), s) => answerGroups k st g mask 0 s
    | (none, s) => answerGroups k stOk 0xFF mask 0 s

/-- With SCOPE = CHAIN: from the root of a formed chain (16 R418). -/
def chainGroups (k op mask at_ seq : Nat) (s : State) : State :=
  if s.root ∧ s.chnFormed then chainCommand op mask at_ k seq (deferReply k s)
  else answerGroups k stStateRefused 0xFF mask 0 s

/-- A group command (R394, R395). -/
def groupOp (k seq op : Nat) (p : List Byte) (s : State) : State :=
  if leAt p 2 2 = 0 then answerCommand k stMalformed 0xFF 0 s
  else if leAt p 1 1 = 1 then chainGroups k op (leAt p 2 2) (leAt p 8 8) seq s
  else localGroups k op (leAt p 2 2) s

/-- STANDBY: the reply comes with entry (18 R463). Whether the wake set refuses it is told by the end of the control cycle, since events
of that cycle count (14 R365); a set that is not empty now refuses it at once. -/
def standbyOp (k id : Nat) (s : State) : State :=
  if standbyStatus s = stWakePending then answerCommand k stWakePending 0xFF 0 (standbyRefused s)
  else
    let s := deferReply k s
    { s with pwr := { s.pwr with toEnter := s.pwr.toEnter ++ [(k, id, s.tick)], asked := true } }

/-- WAKE: the reply comes with the return (18 R464). -/
def wakeOp (k id : Nat) (s : State) : State :=
  if s.dev ≠ devStandby then answerCommand k stStateRefused 0xFF 0 s
  else
    let s := startWake true (deferReply k s)
    { s with pwr := { s.pwr with toWake := s.pwr.toWake ++ [(k, id, s.tick)] } }

/-- The reply to an image command by its DETAIL. -/
def answerImage (k : Nat) (r : Nat × State) : State :=
  if r.1 = 0 then answerCommand k stOk 0xFF 0 r.2 else answerCommand k stImageRefused 0xFF r.1 r.2

/-- REGION_LOAD (17 R437): refused at once, or handed over at once where the planner need not raise VDDC first; else the raised plans
stand until it has (02 R63). -/
def regionOp (k id param : Nat) (s : State) : State :=
  let r := regionLoad param s
  let u := raisePlans (param / 256) r.2 s
  if r.1 = 0 ∧ u.planShort (param / 256) then
    deferReply k { u with cfg := { u.cfg with loading := some (param, k, id, u.rt) } }
  else answerImage k r

/-- RESET: the reply first, then the reset (18 R466). -/
def resetOp (k param : Nat) (s : State) : State :=
  if 1 < param then answerCommand k stMalformed 0xFF 0 s
  else
    let s := answerCommand k stOk 0xFF 0 s
    { s with hlk := { s.hlk with reset := param + 1 } }

/-- A COMMAND of slot `k`, whose payload begins with OP. -/
def runCommand (k : Nat) (x : Session) (p : List Byte) (s : State) : State :=
  let op := leAt p 0 1
  let param := leAt p 4 4
  if p.length = 0 then answer k 0x30 stMalformed 0x0F [] s
  else if [1, 2, 3, 0x10, 0x11, 0x20, 0x21, 0x22, 0x30].contains op = false then answerCommand k stUnsupported 0xFF 0 s
  else if p.length < 16 ∨ 1 < leAt p 1 1 ∨ (leAt p 1 1 = 1 ∧ 3 < op) then answerCommand k stMalformed 0xFF 0 s
  else if op ≤ 3 then groupOp k x.e op p s
  else if op = 0x10 then inStates k [devConfigured] [gStopped, gHalted, gUnused] (standbyOp k x.id) s
  else if op = 0x11 then wakeOp k x.id s
  else if op = 0x20 then inStates k [devUnconfigured, devConfigured] atRest (fun s => answerImage k (imageLoad param s)) s
  else if op = 0x21 then
    inStates k [devConfigured] (List.range 16) (regionOp k x.id param) s
  else if op = 0x22 then inStates k [devConfigured] atRest (fun s => answerCommand k stOk 0xFF 0 (imageUnload s)) s
  else resetOp k param s

/-! ### The order of requests (R381, R383) -/

/-- A request of slot `k` is executed; a COMMAND's payload begins with its OP. -/
def runRequest (typ k : Nat) (x : Session) (p : List Byte) (s : State) : State :=
  match typ with
  | 0x02 => endSession k (answer k 0x02 0 0x0F [] s)
  | 0x03 => answer k 0x03 0 0x0F [] s
  | 0x10 => runRegRead k x p s
  | 0x11 => runRegWrite k x p s
  | 0x12 => runMemRead k x p s
  | 0x13 => runMemWrite k p s
  | 0x20 => runBlockRead k x p s
  | 0x23 => runBlockCancel k x p s
  | 0x30 => runCommand k x p s
  | 0x41 => runEventAck k p s
  | _ => answer k typ stUnsupported 0x0F [] s

/-- What a request leaves owed until its reply has been sent: a relink (R369) or a reset (18 R466, R467). -/
def afterReply (s : State) : State :=
  if s.hlk.relink then relink s
  else if s.hlk.reset = 1 then pinReset resetSystem s
  else if s.hlk.reset = 2 then warmReset { s with hlk := { s.hlk with reset := 0 } }
  else s

/-- The buffered request that is due, where there is one. -/
def dueRequest (x : Session) : Option (Nat × Nat × Msg) := if x.busy then none else x.buf.find? (fun q => q.1 == x.e)

/-- Buffered requests of slot `k` that are due execute in order; `fuel` bounds them. -/
def drainSession : Nat → Nat → State → State
  | 0, _, s => s
  | f + 1, k, s =>
    match s.session k with
    | none => s
    | some x =>
      match dueRequest x with
      | none => s
      | some (q, typ, m) =>
        if s.requestWaits typ m.data then s else
        let s := s.setSession k { x with buf := x.buf.filter (fun y => y.1 != q) }
        drainSession f k (afterReply (runRequest typ k x m.data s))

/-- A request with SEQ *E* is executed, and those behind it that are then due. -/
def execute (typ k : Nat) (x : Session) (m : Msg) (s : State) : State :=
  drainSession 256 k (afterReply (runRequest typ k x m.data s))

/-- A duplicate: the cached reply again (R381). -/
def duplicate (x : Session) (seq : Nat) (s : State) : State :=
  let s := s.bump Reg.HLK_DUPCNT 1
  match x.cache.find? (fun c => c.1 == seq) with
  | none => s
  | some c => sendBytes x.iface x.v6 c.2 s

/-- A request meets the window of its session (R381). -/
def sequence (typ : Nat) (m : Msg) (k : Nat) (s : State) : State :=
  match s.session k with
  | none => s
  | some x =>
    let q := m.seq.toNat
    let d := (q + 2 ^ 32 - x.e) % 2 ^ 32
    if x.w ≤ d ∧ d < 2 ^ 31 then (s.bump Reg.HLK_DROPCNT 1).setFlag Reg.HLK_FLAGS F.HLK_FLAGS_SEQ_DROP
    else
      let s := accepted s
      let keep : State := if x.buf.any (fun y => y.1 == q) then s else s.setSession k { x with buf := x.buf ++ [(q, typ, m)] }
      if d = 0 then (if x.busy then s else if s.requestWaits typ m.data then keep else execute typ k x m s)
      else if d < x.w then keep
      else if 2 ^ 32 - x.w ≤ d then duplicate x q s
      else sendAside x typ q stStaleSeq s

/-- A sequenced request arrives. -/
def request (typ : Nat) (m : Msg) (s : State) : State := receive typ true m (sequence typ m) s

/-- A COMMAND with an operation arrives; `m` holds the payload after OP. -/
def command (op : Nat) (m : Msg) (s : State) : State :=
  request 0x30 { m with data := BitVec.ofNat 8 op :: m.data } s

/-- CLOSE (R377). -/
def execClose (m : Msg) (s : State) : Host.Outcome State Fault Refusal := .next (request 0x02 m s)

/-- KEEPALIVE (R382). -/
def execKeepalive (m : Msg) (s : State) : Host.Outcome State Fault Refusal := .next (request 0x03 m s)

/-- REG_READ (R385). -/
def execRegRead (m : Msg) (s : State) : Host.Outcome State Fault Refusal := .next (request 0x10 m s)

/-- REG_WRITE (R385). -/
def execRegWrite (m : Msg) (s : State) : Host.Outcome State Fault Refusal := .next (request 0x11 m s)

/-- MEM_READ (R387). -/
def execMemRead (m : Msg) (s : State) : Host.Outcome State Fault Refusal := .next (request 0x12 m s)

/-- MEM_WRITE (R387). -/
def execMemWrite (m : Msg) (s : State) : Host.Outcome State Fault Refusal := .next (request 0x13 m s)

/-- BLOCK_READ (R389). -/
def execBlockRead (m : Msg) (s : State) : Host.Outcome State Fault Refusal := .next (request 0x20 m s)

/-- BLOCK_CANCEL (R392). -/
def execBlockCancel (m : Msg) (s : State) : Host.Outcome State Fault Refusal := .next (request 0x23 m s)

/-- EVENT_ACK (R397). -/
def execEventAck (m : Msg) (s : State) : Host.Outcome State Fault Refusal := .next (request 0x41 m s)

/-- ARM (R36). -/
def execArm (m : Msg) (s : State) : Host.Outcome State Fault Refusal := .next (command 0x01 m s)

/-- HALT (R36). -/
def execHalt (m : Msg) (s : State) : Host.Outcome State Fault Refusal := .next (command 0x02 m s)

/-- STOP (R36). -/
def execStop (m : Msg) (s : State) : Host.Outcome State Fault Refusal := .next (command 0x03 m s)

/-- STANDBY (18 R463). -/
def execStandby (m : Msg) (s : State) : Host.Outcome State Fault Refusal := .next (command 0x10 m s)

/-- WAKE (18 R464). -/
def execWake (m : Msg) (s : State) : Host.Outcome State Fault Refusal := .next (command 0x11 m s)

/-- IMAGE_LOAD (17 R434, R435). -/
def execImageLoad (m : Msg) (s : State) : Host.Outcome State Fault Refusal := .next (command 0x20 m s)

/-- REGION_LOAD (17 R434, R437). -/
def execRegionLoad (m : Msg) (s : State) : Host.Outcome State Fault Refusal := .next (command 0x21 m s)

/-- IMAGE_UNLOAD (01 R33). -/
def execImageUnload (m : Msg) (s : State) : Host.Outcome State Fault Refusal := .next (command 0x22 m s)

/-- PARAM of a COMMAND, from the payload after OP. -/
def paramOf (m : Msg) : Nat := leAt m.data 3 4

/-- SYSTEM_RESET (18 R466): RESET with PARAM 0, or with a PARAM that is answered MALFORMED. -/
def execSystemReset (m : Msg) (s : State) : Host.Outcome State Fault Refusal :=
  .next (if paramOf m = 1 then s else command 0x30 m s)

/-- WARM_RESET (18 R467): RESET with PARAM 1. -/
def execWarmReset (m : Msg) (s : State) : Host.Outcome State Fault Refusal :=
  .next (if paramOf m = 1 then command 0x30 m s else s)

/-! ### Deferred replies (R383; 18 R463, R464; 16 R420) -/

/-- The buffered requests of every session that are due. -/
def drainSessions (s : State) : State := (List.range 8).foldl (fun s k => drainSession 256 k s) s

/-- A session has a request that is due and need not wait any longer (11_acquisition_memory.md R299). -/
def State.requestDue (s : State) : Bool :=
  s.hlk.sess.any (fun p => match dueRequest p.2 with
    | none => false
    | some q => !s.requestWaits q.2.1 q.2.2.data)

/-- Requests that have waited for memory execute once their channels have left self-refresh. -/
def wakeRequests (s : State) : State := if s.requestDue then drainSessions s.noOut else s

/-- A waiting COMMAND is answered with a status. -/
def answerLate (status : Nat) (s : State) (q : Nat × Nat × Nat) : State :=
  match s.session q.1 with
  | none => s
  | some x =>
    if x.id ≠ q.2.1 ∨ x.busy = false then s
    else
      let s := s.setFlagIf (status == stStateRefused) Reg.HLK_ERR F.HLK_ERR_STATE
      answer q.1 0x30 status 0x0F (commandReply q.2.2 (s.rn Reg.CKS_EPOCH) 0xFF 0) s

/-- The requests that wait for entry to STANDBY, or for the return, are answered. -/
def answerEnter (status : Nat) (s : State) : State :=
  let l := s.pwr.toEnter
  drainSessions (l.foldl (answerLate status) { s with pwr := { s.pwr with toEnter := [] } })
def answerWake (status : Nat) (s : State) : State :=
  let l := s.pwr.toWake
  drainSessions (l.foldl (answerLate status) { s with pwr := { s.pwr with toWake := [] } })

/-- The reply to a region load whose session has not ended meanwhile. -/
def answerLoad (k id : Nat) (r : Nat × State) : State :=
  match r.2.session k with
  | none => r.2
  | some x => if x.id = id ∧ x.busy then drainSessions (answerImage k r) else r.2

/-- A region load that waits for VDDC is handed over once no loaded region is short of its margin, or after the 32 planner periods of
02 R64; where the device is no longer CONFIGURED it ends. -/
def loadCycle (s : State) : State :=
  match s.cfg.loading with
  | none => s
  | some (param, k, id, t) =>
    let u := dropPlans { s with cfg := { s.cfg with loading := none } }.noOut
    if s.dev ≠ devConfigured then answerLate stStateRefused u (k, id, s.tick)
    else if s.planShort (param / 256) ∧ s.rt < t + s.raiseTime then s
    else answerLoad k id (regionLoad param u)

/-- At the end of the control cycle in which STANDBY was accepted: entry begins, unless the wake set or a group refuses it after all
(14 R365). -/
def standbyJudge (s : State) : State :=
  if s.pwr.asked = false then s
  else
    let s := { s with pwr := { s.pwr with asked := false } }
    if s.pwr.entering.isSome then s
    else
      let st := standbyStatus s
      if st = stOk then standbyBegin s
      else answerEnter st (if st = stWakePending then standbyRefused s.noOut else s.noOut)

/-- STANDBY_ENTERED (18 R463). -/
def standbyEntered (s : State) : State :=
  match s.pwr.entering with
  | none => s
  | some t =>
    let v := standbySettle s
    if v.standbyWaits then v else answerEnter stOk (standbyWoken (standbyTake t v))

def execStandbyEntered (s : State) : Host.Outcome State Fault Refusal := .next (standbyEntered s.noOut)

/-- WAKE_COMPLETE (18 R464). -/
def wakeComplete (s : State) : State :=
  match s.pwr.waking with
  | none => s
  | some (_, cmd) => if s.wakeReady then answerWake stOk (wakeUnits (wakeTake cmd s)) else s

def execWakeComplete (s : State) : Host.Outcome State Fault Refusal := .next (wakeComplete s.noOut)

/-- Requests that wait for an entry to STANDBY or a return from it are answered STATE_REFUSED where a fault has ended it. -/
def answerFault (s : State) : State :=
  if s.dev = devFault ∧ (s.pwr.toEnter ≠ [] ∨ s.pwr.toWake ≠ []) then
    answerWake stStateRefused (answerEnter stStateRefused s.noOut)
  else s

/-- MEASUREMENT_WINDOW_END (02 R54), with the judgement of VDDC (18 R454). -/
def execMeasurementWindowEnd (readings : List Nat) (meas : BitVec 10) (s : State) : Host.Outcome State Fault Refusal :=
  let t := measurementWindowEnd readings meas.toNat s
  .next (if s.windowEnds ∧ s.fabMeasures then answerFault (vddcJudge t) else t)

/-- TEMPERATURE_UPDATE (19 R480) with the readings of sensors 0 to 7, and the thermal trip (18 R465). -/
def execTemperatureUpdate (t : List (BitVec 16)) (s : State) : Host.Outcome State Fault Refusal :=
  .next (if s.tempDue then answerFault (thermalJudge (temperatureUpdate t s)) else s)

/-- DEVICE_FAULT (01 R33, R34): a cause of DEV_FAULT_CAUSE, and the rails that are within range. It ends an entry to STANDBY and a
return from it; the requests that wait for them are answered STATE_REFUSED. -/
def execDeviceFault (cause : Fin 5) (rails : BitVec 10) (s : State) : Host.Outcome State Fault Refusal :=
  .next (answerFault (deviceFault cause.val rails.toNat s.noOut))

/-- CHAIN_CMD_APPLY (16 R418): a reply that the root owes is sent with its outcome. -/
def execChainCmdApply (s : State) : Host.Outcome State Fault Refusal := .next (drainSessions (chainCmdApply s.noOut))

/-! ### OPEN (R378, R379) -/

/-- A nonzero identifier that no open session holds: no rule says which (a free value). -/
def State.newId (s : State) : Nat :=
  (((List.range 10).map (fun i => (s.freeVal 1 + i) % 2 ^ 32)).find? (fun i => i != 0 && (s.sessSlot i).isNone)).getD 1

/-- DEVICE_NONCE (a free value). -/
def State.newNonce (s : State) : List Byte := (List.range 16).map (fun i => BitVec.ofNat 8 (s.freeVal (16 + i)))

/-- The lowest session slot that is not in use; none with eight sessions open. -/
def State.freeSlot (s : State) : Option Nat := (List.range 8).find? (fun k => (s.session k).isNone)

/-- The session that an OPEN asks for is opened and answered. -/
def openSession (k : Nat) (m : Msg) (auth events : Bool) (s : State) : State :=
  let id := s.newId
  let nonce := s.newNonce
  let host := (m.data.drop 4).take 16
  let ascii : List Byte := [0x42#8, 0x54#8, 0x50#8, 0x31#8]
  let key := if auth then hmac (s.nv.key.getD []) (ascii ++ host ++ nonce ++ leBytes 4 id) else []
  let w := s.act Reg.HLK_CTL F.HLK_CTL_WINDOW
  let x : Session := {
    id := id, iface := m.iface.val, v6 := m.v6, auth := auth, key := key, events := events, w := w, e := m.seq.toNat, last := s.rt }
  let body := leBytes 4 id ++ leBytes 2 (b2n events + 2 * b2n auth) ++ leBytes 1 w ++ leBytes 1 s.chnAddr ++ nonce ++
    leBytes 8 (s.rd64 Reg.DEV_SERIAL_LO) ++ leBytes 8 s.tick
  let s := answer k 0x01 stOk 0x0F body (s.useFree.setSession k x)
  (showSessions s).setFlag Reg.HLK_FLAGS F.HLK_FLAGS_SESSION_OPEN

/-- An OPEN arrives. -/
def openMessage (m : Msg) (s : State) : State :=
  arrives m (fun s =>
    let s := accepted s
    let refuse (st : Nat) : State := sendBare m.iface.val m.v6 0x01 m.sess.toNat m.seq.toNat st [] s
    let wantAuth := bitOf (leAt m.data 0 2) 1
    if m.data.length < 36 then refuse stMalformed
    else
      match s.freeSlot with
      | none => refuse stSessionLimit
      | some k =>
        if (wantAuth = false ∧ s.act Reg.HLK_CTL F.HLK_CTL_AUTH_REQ = 1) ∨ (wantAuth ∧ s.nv.key.isNone) then refuse stAuthRequired
        else openSession k m wantAuth (bitOf (leAt m.data 0 2) 0 && !s.hlk.sess.any (fun p => p.2.events)) s) s

/-- OPEN (R378). -/
def execOpen (m : Msg) (s : State) : Host.Outcome State Fault Refusal := .next (openMessage m s.noOut)

/-! ### Messages that are no request of R376 -/

/-- The types that a host may send. -/
def hostTypes : List Nat := [0x01, 0x02, 0x03, 0x10, 0x11, 0x12, 0x13, 0x20, 0x22, 0x23, 0x30, 0x41]

/-- The message that raw bytes spell. -/
def parseMsg (iface : Fin 4) (v6 : Bool) (port : BitVec 16) (b : List Byte) : Msg :=
  let n := leAt b 6 2
  { iface := iface, v6 := v6, flags := BitVec.ofNat 16 (leAt b 4 2), sess := BitVec.ofNat 32 (leAt b 8 4),
    seq := BitVec.ofNat 32 (leAt b 12 4), data := (b.drop 24).take n, tag := b.drop (24 + n), port := some port }

/-- MAGIC and length are as R375 says. -/
def wellFramed (b : List Byte) : Bool :=
  decide (24 ≤ b.length) && decide (leAt b 0 2 = 0x5442) &&
    decide (b.length = 24 + leAt b 6 2 + 16 * (leAt b 4 2 % 2))

/-- A message of unknown VERSION or TYPE is answered UNSUPPORTED, in its session where it names one. -/
def unsupported (b : List Byte) (m : Msg) (s : State) : State :=
  let typ := leAt b 3 1
  match s.sessSlot m.sess.toNat with
  | none => sendBare m.iface.val m.v6 (typ % 128) m.sess.toNat m.seq.toNat stUnsupported [] (s.bump Reg.HLK_RXCNT 1)
  | some k =>
    match s.session k with
    | none => s
    | some x =>
      if x.auth ∧ !(bitOf m.flags.toNat 0 && m.tag == btpTag x.key (b.take (24 + m.data.length))) then tagFailed s
      else sendAside x typ m.seq.toNat stUnsupported (refresh k (s.bump Reg.HLK_RXCNT 1))

/-- A datagram for the port of BTP whose message no other row names arrives: badly framed, of unknown VERSION or TYPE, or a COMMAND
with an OP that R394 does not list. -/
def unknownMessage (iface : Fin 4) (v6 : Bool) (b : List Byte) (s : State) : State :=
  if frameTooLong v6 b.length then (if s.hlkUp iface.val then macDiscard false s else s)
  else if s.reachable iface.val v6 = false then s
  else if wellFramed b = false then s.bump Reg.HLK_DROPCNT 1
  else
    let m := parseMsg iface v6 (BitVec.ofNat 16 s.btpPort) b
    if leAt b 2 1 ≠ 1 ∨ hostTypes.contains (leAt b 3 1) = false then unsupported b m s
    else if leAt b 3 1 = 0x30 ∧ [1, 2, 3, 0x10, 0x11, 0x20, 0x21, 0x22, 0x30].contains (leAt m.data 0 1) = false then
      request 0x30 m s
    else s

/-- UNKNOWN_MESSAGE (R375, R376). -/
def execUnknownMessage (iface : Fin 4) (v6 : Bool) (b : List Byte) (s : State) : Host.Outcome State Fault Refusal :=
  .next (unknownMessage iface v6 b s.noOut)

end Sys2Proof.Machine
end

