-- ==== Sys2Proof/Machine/Tap.lean ====
section
/-! DEFINITION. The IEEE 1149.1 test access port (21_electrical_and_package.md R510, R511; 18_power_reset_boot.md R470). -/
namespace Sys2Proof.Machine

/-- The instruction that a code selects: BYPASS for every code that R510 does not list. -/
def tapCode (c : Nat) : Nat := if c ≤ 6 ∨ c = 0x20 then c else 0xFF

/-- The instructions that take the balls. -/
def tapDrives (c : Nat) : Bool := c == 0x00 || c == 0x03 || c == 0x04 || c == 0x05 || c == 0x06

/-- The device state leaves the balls to the TAP. -/
def State.tapAllowed (s : State) : Bool := s.dev == devBoot || s.dev == devUnconfigured

/-- The balls are under the control of the TAP now. -/
def State.ballsTaken (s : State) : Bool := tapDrives s.tap.ir && s.tapAllowed

/-- The instruction as it acts: SAMPLE/PRELOAD for one that would take the balls and may not. -/
def State.tapActs (s : State) : Nat := if tapDrives s.tap.ir && !s.tapAllowed then 0x01 else s.tap.ir

/-- The IDCODE word (00_scope.md R6). -/
def idcode : Word := 0x19144B47#32

/-- What the selected data register captures: the identification word, DEV_BOOT_STAT, the 0 of BYPASS; the boundary cells hold what
the balls carry, which no state of the device tells. -/
def State.tapCapture (s : State) (c : Nat) : Option Word :=
  if c = 0x02 then some idcode
  else if c = 0x20 then some (s.rd Reg.DEV_BOOT_STAT)
  else if c = 0xFF then some 0#32
  else none

/-- TAP_INSTRUCTION (R511): an 8-bit instruction is loaded. -/
def tapInstruction (code : Byte) (s : State) : State :=
  let c := tapCode code.toNat
  { s with tap := ⟨c, s.tapCapture c⟩ }

/-- TAP_INSTRUCTION (R511). -/
def execTapInstruction (code : Byte) (s : State) : Host.Outcome State Fault Refusal := .next (tapInstruction code s)

end Sys2Proof.Machine
end

