-- ==== Sys2Proof/Machine/Dispatch.lean ====
section
/-! DEFINITION. exec: one arm per command, each a direct call of its meaning. -/
namespace Sys2Proof.Machine

/-- The effect of a command on everything but the queue of waiting commands. -/
def exec (i : Instr) (s : State) : Host.Outcome State Fault Refusal :=
  match i with
  | .registerWrite a v sess auth => Sys2Proof.Machine.execRegisterWrite a v sess auth s
  | .measurementWindowEnd readings meas => Sys2Proof.Machine.execMeasurementWindowEnd readings meas s
  | .plannerAction => Sys2Proof.Machine.execPlannerAction s
  | .avsWriteAck ok => Sys2Proof.Machine.execAvsWriteAck ok s
  | .avsRetry => Sys2Proof.Machine.execAvsRetry s
  | .settlingEnd => Sys2Proof.Machine.execSettlingEnd s
  | .fabVlimitWrite v => Sys2Proof.Machine.execFabVlimitWrite v s
  | .portEnable n v => Sys2Proof.Machine.execPortEnable n v s
  | .portReady n => Sys2Proof.Machine.execPortReady n s
  | .portDisable n v => Sys2Proof.Machine.execPortDisable n v s
  | .portStop n => Sys2Proof.Machine.execPortStop n s
  | .frameBoundary conv => Sys2Proof.Machine.execFrameBoundary conv s
  | .captureDiscard n lane => Sys2Proof.Machine.execCaptureDiscard n lane s
  | .ovrHard n => Sys2Proof.Machine.execOvrHard n s
  | .fchClrLost n => Sys2Proof.Machine.execFchClrLost n s
  | .fchClrOvr n => Sys2Proof.Machine.execFchClrOvr n s
  | .stepDue q => Sys2Proof.Machine.execStepDue q s
  | .stepRelease q => Sys2Proof.Machine.execStepRelease q s
  | .deferExpired q => Sys2Proof.Machine.execDeferExpired q s
  | .stepStart t => Sys2Proof.Machine.execStepStart t s
  | .stepEnd t e1 e2 => Sys2Proof.Machine.execStepEnd t e1 e2 s
  | .spareSwap t e1 e2 => Sys2Proof.Machine.execSpareSwap t e1 e2 s
  | .standInEnd t e1 e2 => Sys2Proof.Machine.execStandInEnd t e1 e2 s
  | .sliceResume t => Sys2Proof.Machine.execSliceResume t s
  | .fcalStep q => Sys2Proof.Machine.execFcalStep q s
  | .fcalFull q => Sys2Proof.Machine.execFcalFull q s
  | .restoreFactory q => Sys2Proof.Machine.execRestoreFactory q s
  | .fcalAbort q => Sys2Proof.Machine.execFcalAbort q s
  | .abortResume t => Sys2Proof.Machine.execAbortResume t s
  | .chainEnable n v => Sys2Proof.Machine.execChainEnable n v s
  | .chainDisable n v => Sys2Proof.Machine.execChainDisable n v s
  | .chainWord n => Sys2Proof.Machine.execChainWord n s
  | .dcbBlockEnd n => Sys2Proof.Machine.execDcbBlockEnd n s
  | .settlingComplete n => Sys2Proof.Machine.execSettlingComplete n s
  | .dcfSync n => Sys2Proof.Machine.execDcfSync n s
  | .dcfSyncAt n => Sys2Proof.Machine.execDcfSyncAt n s
  | .syncAtReached n => Sys2Proof.Machine.execSyncAtReached n s
  | .truWord u => Sys2Proof.Machine.execTruWord u s
  | .holdoffEnd u => Sys2Proof.Machine.execHoldoffEnd u s
  | .force u => Sys2Proof.Machine.execForce u s
  | .clearHold u => Sys2Proof.Machine.execClearHold u s
  | .truCntclr u => Sys2Proof.Machine.execTruCntclr u s
  | .chainTriggerRelease => Sys2Proof.Machine.execChainTriggerRelease s
  | .triggerTaken g => Sys2Proof.Machine.execTriggerTaken g s
  | .arm m => Sys2Proof.Machine.execArm m s
  | .halt m => Sys2Proof.Machine.execHalt m s
  | .stop m => Sys2Proof.Machine.execStop m s
  | .armingComplete g => Sys2Proof.Machine.execArmingComplete g s
  | .polderClose g => Sys2Proof.Machine.execPolderClose g s
  | .polderSeal g => Sys2Proof.Machine.execPolderSeal g s
  | .polderWord k credit => Sys2Proof.Machine.execPolderWord k credit s
  | .sluiceReopen => Sys2Proof.Machine.execSluiceReopen s
  | .slotRelease g v => Sys2Proof.Machine.execSlotRelease g v s
  | .polCntclr => Sys2Proof.Machine.execPolCntclr s
  | .wacCaptureEnd n => Sys2Proof.Machine.execWacCaptureEnd n s
  | .wacMergeEnd n => Sys2Proof.Machine.execWacMergeEnd n s
  | .wacFlush n => Sys2Proof.Machine.execWacFlush n s
  | .wacClear n => Sys2Proof.Machine.execWacClear n s
  | .pcvEnable k v => Sys2Proof.Machine.execPcvEnable k v s
  | .pcvReady k => Sys2Proof.Machine.execPcvReady k s
  | .pcvDisable k v => Sys2Proof.Machine.execPcvDisable k v s
  | .pcvStart k => Sys2Proof.Machine.execPcvStart k s
  | .pcvUrgent k => Sys2Proof.Machine.execPcvUrgent k s
  | .pcvAbort k => Sys2Proof.Machine.execPcvAbort k s
  | .clearQueue k => Sys2Proof.Machine.execClearQueue k s
  | .pcvCntclr k => Sys2Proof.Machine.execPcvCntclr k s
  | .pcvTimerDue k => Sys2Proof.Machine.execPcvTimerDue k s
  | .startTakesEffect k => Sys2Proof.Machine.execStartTakesEffect k s
  | .urgentTakesEffect k => Sys2Proof.Machine.execUrgentTakesEffect k s
  | .urgentEntryEnd k => Sys2Proof.Machine.execUrgentEntryEnd k s
  | .resultComplete k v trip => Sys2Proof.Machine.execResultComplete k v trip s
  | .ringResume k => Sys2Proof.Machine.execRingResume k s
  | .entryRunEnd k => Sys2Proof.Machine.execEntryRunEnd k s
  | .refDriftUpdate drift => Sys2Proof.Machine.execRefDriftUpdate drift s
  | .stoEnable n v => Sys2Proof.Machine.execStoEnable n v s
  | .stoDisable n v => Sys2Proof.Machine.execStoDisable n v s
  | .primeComplete n => Sys2Proof.Machine.execPrimeComplete n s
  | .stoStart n => Sys2Proof.Machine.execStoStart n s
  | .startAt n => Sys2Proof.Machine.execStartAt n s
  | .stoStop n => Sys2Proof.Machine.execStoStop n s
  | .playStart n => Sys2Proof.Machine.execPlayStart n s
  | .playEnd n => Sys2Proof.Machine.execPlayEnd n s
  | .stopTakesEffect n => Sys2Proof.Machine.execStopTakesEffect n s
  | .underrun n => Sys2Proof.Machine.execUnderrun n s
  | .stoCntclr n => Sys2Proof.Machine.execStoCntclr n s
  | .tpEdge p back rise => Sys2Proof.Machine.execTpEdge p back rise s
  | .fifoInfoRead p => Sys2Proof.Machine.execFifoInfoRead p s
  | .fire p => Sys2Proof.Machine.execFire p s
  | .fireAt p => Sys2Proof.Machine.execFireAt p s
  | .tptStop p => Sys2Proof.Machine.execTptStop p s
  | .trainEdge p => Sys2Proof.Machine.execTrainEdge p s
  | .tptCntclr p => Sys2Proof.Machine.execTptCntclr p s
  | .spllLoss back lost => Sys2Proof.Machine.execSpllLoss back lost s
  | .timebaseFreeze conv => Sys2Proof.Machine.execTimebaseFreeze conv s
  | .spllLock => Sys2Proof.Machine.execSpllLock s
  | .spllRelease => Sys2Proof.Machine.execSpllRelease s
  | .relockTimeout => Sys2Proof.Machine.execRelockTimeout s
  | .relock => Sys2Proof.Machine.execRelock s
  | .refCtlWrite v => Sys2Proof.Machine.execRefCtlWrite v s
  | .chainReferenceMove => Sys2Proof.Machine.execChainReferenceMove s
  | .mrefReturn => Sys2Proof.Machine.execMrefReturn s
  | .mdllCtlWrite m v => Sys2Proof.Machine.execMdllCtlWrite m v s
  | .mdllLoss m => Sys2Proof.Machine.execMdllLoss m s
  | .mdllHoldoverEnd m => Sys2Proof.Machine.execMdllHoldoverEnd m s
  | .mdllLock m => Sys2Proof.Machine.execMdllLock m s
  | .mdllRelease m => Sys2Proof.Machine.execMdllRelease m s
  | .mdllFail m => Sys2Proof.Machine.execMdllFail m s
  | .hlHoldover => Sys2Proof.Machine.execHlHoldover s
  | .hlRelock => Sys2Proof.Machine.execHlRelock s
  | .mchInit m => Sys2Proof.Machine.execMchInit m s
  | .trainingPhaseEnd m ok spd rd wr => Sys2Proof.Machine.execTrainingPhaseEnd m ok spd rd wr s
  | .reducedRetrainEnd m rd wr => Sys2Proof.Machine.execReducedRetrainEnd m rd wr s
  | .srEnter m => Sys2Proof.Machine.execSrEnter m s
  | .srExit m => Sys2Proof.Machine.execSrExit m s
  | .srIdleExpiry m => Sys2Proof.Machine.execSrIdleExpiry m s
  | .memoryAccess a => Sys2Proof.Machine.execMemoryAccess a s
  | .rawWaitEnd m => Sys2Proof.Machine.execRawWaitEnd m s
  | .refreshWindowEnd m => Sys2Proof.Machine.execRefreshWindowEnd m s
  | .scrubRead m ecc => Sys2Proof.Machine.execScrubRead m ecc s
  | .caParityAlert m again => Sys2Proof.Machine.execCaParityAlert m again s
  | .dimmTempRead m t0 t1 => Sys2Proof.Machine.execDimmTempRead m t0 t1 s
  | .mchCntclr m => Sys2Proof.Machine.execMchCntclr m s
  | .dmaStart f => Sys2Proof.Machine.execDmaStart f s
  | .dmaStop f => Sys2Proof.Machine.execDmaStop f s
  | .dmaResume f => Sys2Proof.Machine.execDmaResume f s
  | .semAdd f n => Sys2Proof.Machine.execSemAdd f n s
  | .dmaCntclr => Sys2Proof.Machine.execDmaCntclr s
  | .fetchFailure f => Sys2Proof.Machine.execFetchFailure f s
  | .moveOp f => Sys2Proof.Machine.execMove f s
  | .loopOp f => Sys2Proof.Machine.execLoop f s
  | .waitOp f => Sys2Proof.Machine.execWait f s
  | .waitSatisfied f => Sys2Proof.Machine.execWaitSatisfied f s
  | .signalOp f => Sys2Proof.Machine.execSignal f s
  | .endOp f => Sys2Proof.Machine.execEnd f s
  | .burstComplete f => Sys2Proof.Machine.execBurstComplete f s
  | .cmpSubmitStart n hi => Sys2Proof.Machine.execCmpSubmitStart n hi s
  | .cmpSubmitResume n hi => Sys2Proof.Machine.execCmpSubmitResume n hi s
  | .cmpAbort n => Sys2Proof.Machine.execCmpAbort n s
  | .cmpFlush n => Sys2Proof.Machine.execCmpFlush n s
  | .cmpCntclr n => Sys2Proof.Machine.execCmpCntclr n s
  | .jobStart n => Sys2Proof.Machine.execJobStart n s
  | .groupCommit n => Sys2Proof.Machine.execGroupCommit n s
  | .jobComplete n => Sys2Proof.Machine.execJobComplete n s
  | .chunkStart n => Sys2Proof.Machine.execChunkStart n s
  | .chunkComplete n => Sys2Proof.Machine.execChunkComplete n s
  | .setPulse => Sys2Proof.Machine.execSetPulse s
  | .lineFall => Sys2Proof.Machine.execLineFall s
  | .claimRead => Sys2Proof.Machine.execClaimRead s
  | .hntClaim => Sys2Proof.Machine.execHntClaim s
  | .chfClaim => Sys2Proof.Machine.execChfClaim s
  | .chfComplete => Sys2Proof.Machine.execChfComplete s
  | .complete t n => Sys2Proof.Machine.execComplete t n s
  | .srcCfgWrite n v fw => Sys2Proof.Machine.execSrcCfgWrite n v fw s
  | .mgcSleep => Sys2Proof.Machine.execMgcSleep s
  | .evcCntclr => Sys2Proof.Machine.execEvcCntclr s
  | .macDiscard full => Sys2Proof.Machine.execMacDiscard full s
  | .pauseFrame n quanta => Sys2Proof.Machine.execPauseFrame n quanta s
  | .arpRequest n sha spa tpa => Sys2Proof.Machine.execArpRequest n sha spa tpa s
  | .neighbourSolicitation target => Sys2Proof.Machine.execNeighbourSolicitation target s
  | .echoRequest n v6 data => Sys2Proof.Machine.execEchoRequest n v6 data s
  | .ptpEventMessage m => Sys2Proof.Machine.execPtpEventMessage m s
  | .dhcpReply n addr mask gw lease => Sys2Proof.Machine.execDhcpReply n addr mask gw lease s
  | .dhcpTimeout n => Sys2Proof.Machine.execDhcpTimeout n s
  | .dhcpRetry n => Sys2Proof.Machine.execDhcpRetry n s
  | .leaseRenewal n => Sys2Proof.Machine.execLeaseRenewal n s
  | .dhcpRenew => Sys2Proof.Machine.execDhcpRenew s
  | .linkUp n eye => Sys2Proof.Machine.execLinkUp n eye s
  | .linkDown n => Sys2Proof.Machine.execLinkDown n s
  | .relink => Sys2Proof.Machine.execRelink s
  | .keyCommit => Sys2Proof.Machine.execKeyCommit s
  | .keyErase auth => Sys2Proof.Machine.execKeyErase auth s
  | .hlkCntclr => Sys2Proof.Machine.execHlkCntclr s
  | .openMsg m => Sys2Proof.Machine.execOpen m s
  | .closeMsg m => Sys2Proof.Machine.execClose m s
  | .keepalive m => Sys2Proof.Machine.execKeepalive m s
  | .regRead m => Sys2Proof.Machine.execRegRead m s
  | .regWrite m => Sys2Proof.Machine.execRegWrite m s
  | .memRead m => Sys2Proof.Machine.execMemRead m s
  | .memWrite m => Sys2Proof.Machine.execMemWrite m s
  | .blockRead m => Sys2Proof.Machine.execBlockRead m s
  | .dataSend k id => Sys2Proof.Machine.execDataSend k id s
  | .dataAck m => Sys2Proof.Machine.execDataAck m s
  | .dataRto k id => Sys2Proof.Machine.execDataRto k id s
  | .blockCancel m => Sys2Proof.Machine.execBlockCancel m s
  | .eventRto k => Sys2Proof.Machine.execEventRto k s
  | .eventAck m => Sys2Proof.Machine.execEventAck m s
  | .sessionTimeout k => Sys2Proof.Machine.execSessionTimeout k s
  | .standby m => Sys2Proof.Machine.execStandby m s
  | .standbyEntered => Sys2Proof.Machine.execStandbyEntered s
  | .wake m => Sys2Proof.Machine.execWake m s
  | .wakeComplete => Sys2Proof.Machine.execWakeComplete s
  | .imageLoad m => Sys2Proof.Machine.execImageLoad m s
  | .regionLoad m => Sys2Proof.Machine.execRegionLoad m s
  | .imageUnload m => Sys2Proof.Machine.execImageUnload m s
  | .systemReset m => Sys2Proof.Machine.execSystemReset m s
  | .warmReset m => Sys2Proof.Machine.execWarmReset m s
  | .warmSealTimeout => Sys2Proof.Machine.execWarmSealTimeout s
  | .rootSearchEnd => Sys2Proof.Machine.execRootSearchEnd s
  | .chainLinkUp k eye => Sys2Proof.Machine.execChainLinkUp k eye s
  | .chainLinkDown k => Sys2Proof.Machine.execChainLinkDown k s
  | .idleCell k ack credit aligned eye => Sys2Proof.Machine.execIdleCell k ack credit aligned eye s
  | .cellResend k => Sys2Proof.Machine.execCellResend k s
  | .triggerCell k c => Sys2Proof.Machine.execTriggerCell k c s
  | .enumClaim c earlier => Sys2Proof.Machine.execEnumClaim c earlier s
  | .enumReturn c => Sys2Proof.Machine.execEnumReturn c s
  | .enumAssign c displaced => Sys2Proof.Machine.execEnumAssign c displaced s
  | .enumDone c => Sys2Proof.Machine.execEnumDone c s
  | .config c => Sys2Proof.Machine.execConfig c s
  | .topo c => Sys2Proof.Machine.execTopo c s
  | .enumerationStart => Sys2Proof.Machine.execEnumerationStart s
  | .timeExchangeStart => Sys2Proof.Machine.execTimeExchangeStart s
  | .timeReq back => Sys2Proof.Machine.execTimeReq back s
  | .timeRsp t2 frac res back => Sys2Proof.Machine.execTimeRsp t2 frac res back s
  | .alignmentRoundEnd => Sys2Proof.Machine.execAlignmentRoundEnd s
  | .deferredStep => Sys2Proof.Machine.execDeferredStep s
  | .eventCell c => Sys2Proof.Machine.execEventCell c s
  | .cmd c => Sys2Proof.Machine.execCmd c s
  | .chainCmdApply => Sys2Proof.Machine.execChainCmdApply s
  | .cmdRes c => Sys2Proof.Machine.execCmdRes c s
  | .cmdDoneTimeout => Sys2Proof.Machine.execCmdDoneTimeout s
  | .snap c => Sys2Proof.Machine.execSnap c s
  | .ptpmap c => Sys2Proof.Machine.execPtpmap c s
  | .ptpmapBroadcast => Sys2Proof.Machine.execPtpmapBroadcast s
  | .revtInfoRead => Sys2Proof.Machine.execRevtInfoRead s
  | .reenum => Sys2Proof.Machine.execReenum s
  | .realign => Sys2Proof.Machine.execRealign s
  | .chnCntclr => Sys2Proof.Machine.execChnCntclr s
  | .mapRateWrite v => Sys2Proof.Machine.execMapRateWrite v s
  | .slotWrite slot => Sys2Proof.Machine.execSlotWrite slot s
  | .slotWriteComplete ok => Sys2Proof.Machine.execSlotWriteComplete ok s
  | .slotErase slot ok => Sys2Proof.Machine.execSlotErase slot ok s
  | .saveSettings ok => Sys2Proof.Machine.execSaveSettings ok s
  | .eraseSettings ok => Sys2Proof.Machine.execEraseSettings ok s
  | .keyInstall key auth ok => Sys2Proof.Machine.execKeyInstall key auth ok s
  | .keyRemove key auth ok => Sys2Proof.Machine.execKeyRemove key auth ok s
  | .keyExport key => Sys2Proof.Machine.execKeyExport key s
  | .shadowAddrWrite g e v => Sys2Proof.Machine.execShadowAddrWrite g e v s
  | .shadowDataWrite g e v => Sys2Proof.Machine.execShadowDataWrite g e v s
  | .handover g => Sys2Proof.Machine.execHandover g s
  | .bootActivation => Sys2Proof.Machine.execBootActivation s
  | .domainPowerDown d => Sys2Proof.Machine.execDomainPowerDown d s
  | .parkTimeout => Sys2Proof.Machine.execParkTimeout s
  | .domainOff d => Sys2Proof.Machine.execDomainOff d s
  | .domainPowerUp d => Sys2Proof.Machine.execDomainPowerUp d s
  | .domainOn d => Sys2Proof.Machine.execDomainOn d s
  | .pwrCntclr => Sys2Proof.Machine.execPwrCntclr s
  | .deviceFault cause rails => Sys2Proof.Machine.execDeviceFault cause rails s
  | .avsAlert status still => Sys2Proof.Machine.execAvsAlert status still s
  | .vddcDev => Sys2Proof.Machine.execVddcDev s
  | .powerOnReset => Sys2Proof.Machine.execPowerOnReset s
  | .pinReset => Sys2Proof.Machine.execPinReset s
  | .tapReset => Sys2Proof.Machine.execTapReset s
  | .bootStageEnd ref bad vddc => Sys2Proof.Machine.execBootStageEnd ref bad vddc s
  | .bootEnd => Sys2Proof.Machine.execBootEnd s
  | .monCntCfgWrite c v => Sys2Proof.Machine.execMonCntCfgWrite c v s
  | .snapshotArm => Sys2Proof.Machine.execSnapshotArm s
  | .armChain => Sys2Proof.Machine.execArmChain s
  | .snapshotCancel => Sys2Proof.Machine.execSnapshotCancel s
  | .snapshotInstant => Sys2Proof.Machine.execSnapshotInstant s
  | .temperatureUpdate t => Sys2Proof.Machine.execTemperatureUpdate t s
  | .healthRecord => Sys2Proof.Machine.execHealthRecord s
  | .logClear => Sys2Proof.Machine.execLogClear s
  | .monClrCnt => Sys2Proof.Machine.execMonClrCnt s
  | .monClrAv => Sys2Proof.Machine.execMonClrAv s
  | .tstUnlockWrite v sess auth => Sys2Proof.Machine.execTstUnlockWrite v sess auth s
  | .unlockGapExpiry => Sys2Proof.Machine.execUnlockGapExpiry s
  | .testLock => Sys2Proof.Machine.execTestLock s
  | .tstCaparFire v => Sys2Proof.Machine.execTstCaparFire v s
  | .tstChnerrFire v => Sys2Proof.Machine.execTstChnerrFire v s
  | .unknownMessage iface v6 b => Sys2Proof.Machine.execUnknownMessage iface v6 b s
  | .badCell k unlisted => Sys2Proof.Machine.execBadCell k unlisted s
  | .mgcClaim => Sys2Proof.Machine.execMgcClaim s
  | .coincidenceExpiry u => Sys2Proof.Machine.execCoincidenceExpiry u s
  | .tapInstruction code => Sys2Proof.Machine.execTapInstruction code s
  | .powerCollapse => Sys2Proof.Machine.execPowerCollapse s

end Sys2Proof.Machine
end

