-- ==== Sys2Proof/Machine/Tick.lean ====
section
/-! DEFINITION. What one control cycle without a command does: the tick counter and real time advance, and what is bound to
instants and not to a command happens (00_scope.md R516, R9; 09_stimulus_and_timing_ports.md R231, R252; 06_triggers.md R161;
11_acquisition_memory.md R289, R298; 16_eweone_chain.md R402). -/
namespace Sys2Proof.Machine

/-- Ticks of one control cycle (R516). -/
def cycleTicks : Nat := 128

/-- The tick counter runs. -/
def State.counts (s : State) : Bool := s.clk.released && !s.on Reg.CKS_STATUS F.CKS_STATUS_FROZEN

/-- The tick after the present cycle: control cycles begin at multiples of 128 (R516), also after a step of the counter
(16_eweone_chain.md R412); a pending freeze stops the counter at its frame boundary (10_clock_synthesis.md R265). -/
def State.nextTick (s : State) : Nat :=
  let t := (s.tick / cycleTicks + 1) * cycleTicks % 2 ^ 64
  match s.clk.lossD with
  | none => t
  | some d => if tickBefore (nextBoundary d) t then nextBoundary d else t

/-- The outputs that sample: enabled stimulus ports. -/
def State.dacs (s : State) : List Nat := (List.range 16).filter (fun n => decide (1 ≤ s.stoState n))

/-- The multiples of 64 ticks after tick `t` up to tick `u` of the same control cycle. -/
def instantsOf (t u : Nat) : List Nat :=
  [(t / 64 + 1) * 64 % 2 ^ 64, (t / 64 + 2) * 64 % 2 ^ 64].filter (fun x => !tickBefore u x)

/-- GAIN, OFFSET and IDLE are taken over at a frame boundary `x` (09 R252). -/
def frameLatch (x : Nat) (s : State) : State :=
  if x % frameTicks = 0 then (List.range 16).foldl (fun s n => latchScale n s) s else s

/-- The DAC instants of every enabled output from tick `t` on, up to the present tick. -/
def dacInstants (t : Nat) (s : State) : State :=
  (instantsOf t s.tick).foldl (fun s x => s.dacs.foldl (fun s n => dacSample n x s) (frameLatch x s)) s

/-- Both chain ports have a cell slot every 2,048 ticks. -/
def cellSlots (s : State) : State := if s.tick % 2048 = 0 then cellSlot 1 (cellSlot 0 s) else s

/-- A channel issues a decided self-refresh entry; its oldest queued write reaches the DRAM, behind every older write to the same
lines, unless the channel sleeps (11_acquisition_memory.md R289, R299). -/
def channelCycle (s : State) (m : Nat) : State :=
  let s := srIssue m s
  match (s.mch m).wq with
  | [] => s
  | w :: _ =>
    if s.rangeSleeps w.addr w.data.length then s else settleRange w.addr w.data.length s

/-- The memory channels' part of a control cycle; a running MREF_RETURN goes on with its next channel (10_clock_synthesis.md R273). -/
def channelCycles (s : State) : State := mrefDone ((List.range 8).foldl channelCycle s)

/-- What follows from the tick counter's advance. -/
def timed (t : Nat) (s : State) : State :=
  cellSlots (settleUsers (if s.on Reg.CKS_STATUS F.CKS_STATUS_GATED then s else dacInstants t s))

/-- What is judged by all events of a control cycle, as it ends: the hand-over of a region load, entry to STANDBY, park requests and their timeout, the
issue of bursts (02_handshake_fabric.md R63; 12_dma_flows.md R326, R328; 14_event_controller.md R365; 18_power_reset_boot.md R462, R463). -/
def endOfCycle (s : State) : State := issueBursts (parkTimes (parkIdle (standbyCycle (standbyJudge (loadCycle s)))))

/-- One control cycle with no command waiting. -/
def idleCycle (s : State) : State :=
  let t := s.tick
  let s := endOfCycle s
  let s := noteHolds (pcvSettleAll (holdOver { s with rt := s.rt + cycleTicks }))
  if s.boot.held then s
  else
    let s := wakeRequests (warmCheck (channelCycles (releaseFrames s)))
    if s.counts then timed t { s with tick := s.nextTick } else s

end Sys2Proof.Machine
end

