-- ==== Sys2Proof/WellFormed.lean ====
section
/-! DEFINITION. What makes a command of the block well formed: the lengths and ranges that the spec gives the parts of a
message, a cell, a set of readings or a frame of conversions, where the operand's type does not fix them. -/
namespace Sys2Proof

/-- A BTP message: at most `n` payload bytes (LENGTH is 16 bits, and a COMMAND's OP takes one byte of it), and a tag of 16 bytes
exactly where FLAGS.AUTH is 1 (15_host_link.md R375, R376, R379). -/
def wfMsg (n : Nat) (m : Msg) : Bool :=
  decide (m.data.length ≤ n) && decide (m.tag.length = if m.flags.getLsbD 0 then 16 else 0)

/-- A message cell: ten payload bytes (16_eweone_chain.md R402). -/
def wfCell (c : Cell) : Bool := decide (c.data.length = 10)

/-- The conversions of a frame: each port at most once, 64 samples per port in force (03_fast_inputs.md R72). -/
def wfConv (conv : List (Nat × List Sample)) : Bool :=
  decide ((conv.map Prod.fst).Nodup) && conv.all (fun p => decide (p.1 < 16) && decide (p.2.length = 64))

/-- A memory request lies in the 41-bit address space (11_acquisition_memory.md R285). -/
def wfAccess (a : Access) : Bool := decide (a.addr < 2 ^ 41) && decide (a.len < 2 ^ 41)

/-- Register addresses are multiples of 4 (00_scope.md R15, R16). -/
def wfBad (bad : List Nat) : Bool := bad.all (fun x => decide (x % 4 = 0) && decide (x < 2 ^ 32))

/-- A command is well formed. -/
def wellFormed (i : Instr) : Bool :=
  match i with
  | .registerWrite _ _ _ _ => true
  | .measurementWindowEnd readings _ => decide (readings.length = 256) && readings.all (fun r => decide (r < 65536))
  | .plannerAction => true
  | .avsWriteAck _ => true
  | .avsRetry => true
  | .settlingEnd => true
  | .fabVlimitWrite _ => true
  | .portEnable _ _ => true
  | .portReady _ => true
  | .portDisable _ _ => true
  | .portStop _ => true
  | .frameBoundary conv => wfConv conv
  | .captureDiscard _ _ => true
  | .ovrHard _ => true
  | .fchClrLost _ => true
  | .fchClrOvr _ => true
  | .stepDue _ => true
  | .stepRelease _ => true
  | .deferExpired _ => true
  | .stepStart _ => true
  | .stepEnd _ _ _ => true
  | .spareSwap _ _ _ => true
  | .standInEnd _ _ _ => true
  | .sliceResume _ => true
  | .fcalStep _ => true
  | .fcalFull _ => true
  | .restoreFactory _ => true
  | .fcalAbort _ => true
  | .abortResume _ => true
  | .chainEnable _ _ => true
  | .chainDisable _ _ => true
  | .chainWord _ => true
  | .dcbBlockEnd _ => true
  | .settlingComplete _ => true
  | .dcfSync _ => true
  | .dcfSyncAt _ => true
  | .syncAtReached _ => true
  | .truWord _ => true
  | .holdoffEnd _ => true
  | .force _ => true
  | .clearHold _ => true
  | .truCntclr _ => true
  | .chainTriggerRelease => true
  | .triggerTaken _ => true
  | .arm m => wfMsg 65534 m
  | .halt m => wfMsg 65534 m
  | .stop m => wfMsg 65534 m
  | .armingComplete _ => true
  | .polderClose _ => true
  | .polderSeal _ => true
  | .polderWord _ _ => true
  | .sluiceReopen => true
  | .slotRelease _ _ => true
  | .polCntclr => true
  | .wacCaptureEnd _ => true
  | .wacMergeEnd _ => true
  | .wacFlush _ => true
  | .wacClear _ => true
  | .pcvEnable _ _ => true
  | .pcvReady _ => true
  | .pcvDisable _ _ => true
  | .pcvStart _ => true
  | .pcvUrgent _ => true
  | .pcvAbort _ => true
  | .clearQueue _ => true
  | .pcvCntclr _ => true
  | .pcvTimerDue _ => true
  | .startTakesEffect _ => true
  | .urgentTakesEffect _ => true
  | .urgentEntryEnd _ => true
  | .resultComplete _ _ _ => true
  | .ringResume _ => true
  | .entryRunEnd _ => true
  | .refDriftUpdate _ => true
  | .stoEnable _ _ => true
  | .stoDisable _ _ => true
  | .primeComplete _ => true
  | .stoStart _ => true
  | .startAt _ => true
  | .stoStop _ => true
  | .playStart _ => true
  | .playEnd _ => true
  | .stopTakesEffect _ => true
  | .underrun _ => true
  | .stoCntclr _ => true
  | .tpEdge _ _ _ => true
  | .fifoInfoRead _ => true
  | .fire _ => true
  | .fireAt _ => true
  | .tptStop _ => true
  | .trainEdge _ => true
  | .tptCntclr _ => true
  | .spllLoss _ _ => true
  | .timebaseFreeze conv => wfConv conv
  | .spllLock => true
  | .spllRelease => true
  | .relockTimeout => true
  | .relock => true
  | .refCtlWrite _ => true
  | .chainReferenceMove => true
  | .mrefReturn => true
  | .mdllCtlWrite _ _ => true
  | .mdllLoss _ => true
  | .mdllHoldoverEnd _ => true
  | .mdllLock _ => true
  | .mdllRelease _ => true
  | .mdllFail _ => true
  | .hlHoldover => true
  | .hlRelock => true
  | .mchInit _ => true
  | .trainingPhaseEnd _ _ _ _ _ => true
  | .reducedRetrainEnd _ _ _ => true
  | .srEnter _ => true
  | .srExit _ => true
  | .srIdleExpiry _ => true
  | .memoryAccess a => wfAccess a
  | .rawWaitEnd _ => true
  | .refreshWindowEnd _ => true
  | .scrubRead _ _ => true
  | .caParityAlert _ _ => true
  | .dimmTempRead _ _ _ => true
  | .mchCntclr _ => true
  | .dmaStart _ => true
  | .dmaStop _ => true
  | .dmaResume _ => true
  | .semAdd _ _ => true
  | .dmaCntclr => true
  | .fetchFailure _ => true
  | .moveOp _ => true
  | .loopOp _ => true
  | .waitOp _ => true
  | .waitSatisfied _ => true
  | .signalOp _ => true
  | .endOp _ => true
  | .burstComplete _ => true
  | .cmpSubmitStart _ _ => true
  | .cmpSubmitResume _ _ => true
  | .cmpAbort _ => true
  | .cmpFlush _ => true
  | .cmpCntclr _ => true
  | .jobStart _ => true
  | .groupCommit _ => true
  | .jobComplete _ => true
  | .chunkStart _ => true
  | .chunkComplete _ => true
  | .setPulse => true
  | .lineFall => true
  | .claimRead => true
  | .hntClaim => true
  | .chfClaim => true
  | .chfComplete => true
  | .complete _ _ => true
  | .srcCfgWrite _ _ _ => true
  | .mgcSleep => true
  | .evcCntclr => true
  | .macDiscard _ => true
  | .pauseFrame _ _ => true
  | .arpRequest _ _ _ _ => true
  | .neighbourSolicitation _ => true
  | .echoRequest _ _ data => decide (data.length ≤ 9198)
  | .ptpEventMessage m => decide (m.data.length ≤ 9198)
  | .dhcpReply _ _ _ _ _ => true
  | .dhcpTimeout _ => true
  | .dhcpRetry _ => true
  | .leaseRenewal _ => true
  | .dhcpRenew => true
  | .linkUp _ _ => true
  | .linkDown _ => true
  | .relink => true
  | .keyCommit => true
  | .keyErase _ => true
  | .hlkCntclr => true
  | .openMsg m => wfMsg 65535 m
  | .closeMsg m => wfMsg 65535 m
  | .keepalive m => wfMsg 65535 m
  | .regRead m => wfMsg 65535 m
  | .regWrite m => wfMsg 65535 m
  | .memRead m => wfMsg 65535 m
  | .memWrite m => wfMsg 65535 m
  | .blockRead m => wfMsg 65535 m
  | .dataSend _ _ => true
  | .dataAck m => wfMsg 65535 m
  | .dataRto _ _ => true
  | .blockCancel m => wfMsg 65535 m
  | .eventRto _ => true
  | .eventAck m => wfMsg 65535 m
  | .sessionTimeout _ => true
  | .standby m => wfMsg 65534 m
  | .standbyEntered => true
  | .wake m => wfMsg 65534 m
  | .wakeComplete => true
  | .imageLoad m => wfMsg 65534 m
  | .regionLoad m => wfMsg 65534 m
  | .imageUnload m => wfMsg 65534 m
  | .systemReset m => wfMsg 65534 m
  | .warmReset m => wfMsg 65534 m
  | .warmSealTimeout => true
  | .rootSearchEnd => true
  | .chainLinkUp _ _ => true
  | .chainLinkDown _ => true
  | .idleCell _ _ _ _ _ => true
  | .cellResend _ => true
  | .triggerCell _ c => decide (c.length = 13)
  | .enumClaim c _ => wfCell c
  | .enumReturn c => wfCell c
  | .enumAssign c _ => wfCell c
  | .enumDone c => wfCell c
  | .config c => wfCell c
  | .topo c => wfCell c
  | .enumerationStart => true
  | .timeExchangeStart => true
  | .timeReq _ => true
  | .timeRsp _ _ _ _ => true
  | .alignmentRoundEnd => true
  | .deferredStep => true
  | .eventCell c => wfCell c
  | .cmd c => wfCell c
  | .chainCmdApply => true
  | .cmdRes c => wfCell c
  | .cmdDoneTimeout => true
  | .snap c => wfCell c
  | .ptpmap c => wfCell c
  | .ptpmapBroadcast => true
  | .revtInfoRead => true
  | .reenum => true
  | .realign => true
  | .chnCntclr => true
  | .mapRateWrite _ => true
  | .slotWrite _ => true
  | .slotWriteComplete _ => true
  | .slotErase _ _ => true
  | .saveSettings _ => true
  | .eraseSettings _ => true
  | .keyInstall _ _ _ => true
  | .keyRemove _ _ _ => true
  | .keyExport _ => true
  | .shadowAddrWrite _ _ _ => true
  | .shadowDataWrite _ _ _ => true
  | .handover _ => true
  | .bootActivation => true
  | .domainPowerDown _ => true
  | .parkTimeout => true
  | .domainOff _ => true
  | .domainPowerUp _ => true
  | .domainOn _ => true
  | .pwrCntclr => true
  | .deviceFault _ _ => true
  | .avsAlert _ _ => true
  | .vddcDev => true
  | .powerOnReset => true
  | .pinReset => true
  | .tapReset => true
  | .bootStageEnd _ bad _ => wfBad bad.settings
  | .bootEnd => true
  | .monCntCfgWrite _ _ => true
  | .snapshotArm => true
  | .armChain => true
  | .snapshotCancel => true
  | .snapshotInstant => true
  | .temperatureUpdate t => decide (t.length = 8)
  | .healthRecord => true
  | .logClear => true
  | .monClrCnt => true
  | .monClrAv => true
  | .tstUnlockWrite _ _ _ => true
  | .unlockGapExpiry => true
  | .testLock => true
  | .tstCaparFire _ => true
  | .tstChnerrFire _ => true
  | .unknownMessage _ _ b => decide (b.length ≤ 9198)
  | .badCell _ _ => true
  | .mgcClaim => true
  | .coincidenceExpiry _ => true
  | .tapInstruction _ => true
  | .powerCollapse => true

end Sys2Proof
end

