-- ==== Sys2Proof/Safety.lean ====
section
/-! DEFINITION. The terms in which claims about the block are stated: that a command completes, what it leaves alone, and the
canonical form of the stored data that every step must keep. -/
namespace Sys2Proof.Machine

/-- The command completes: it answers the next state `t`. -/
def Runs (c : Instr) (s t : State) : Prop := exec c s = .next t

/-- Only registers changed, set pulses or falls left for the event controller, and the record of what this control cycle did (R22,
R23): every other field of the state is as it was. -/
def RegsOnly (s t : State) : Prop := t = { s with regs := t.regs, lines := t.lines, cyc := t.cyc }

/-- Every register outside the list reads as before. -/
def KeepsRegs (s t : State) (l : List Nat) : Prop := ∀ a, a ∉ l → t.rd a = s.rd a

/-- Every byte of acquisition memory and of program memory reads as before. -/
def KeepsMem (s t : State) : Prop := (∀ a, t.memByte a = s.memByte a) ∧ ∀ a, t.pmemByte a = s.pmemByte a

/-- Whether each flag bit listed reads 1 and has sent its set pulse (00_scope.md R22; 14_event_controller.md R348). -/
def Raised (s t : State) (a : Nat) (f : Fld) : Prop :=
  t.on a f = true ∧ ∀ src, flagSource a f.lo = some src → ⟨src, true⟩ ∈ t.lines ∧ s.lines.length < t.lines.length

/-- Each count register listed is cleared, the increments of the same control cycle coming after the clear (00_scope.md R23), and
nothing else changes. -/
def Cleared (s t : State) (l : List Nat) : Prop :=
  (∀ a ∈ l, t.rn a = min (s.countNow a) (2 ^ 32 - 1)) ∧ RegsOnly s t ∧ KeepsRegs s t l

/-- A refused write of the register at `a`: the bit `f` of HLK_ERR is raised, `ra` names the address, and nothing else changes
(15_host_link.md R399). -/
def Reported (s t : State) (f : Fld) (ra a : Nat) : Prop :=
  Raised s t Reg.HLK_ERR f ∧ t.rn ra = a ∧ RegsOnly s t ∧ KeepsRegs s t [Reg.HLK_ERR, ra]

/-- A write of `v` to FCH_CTL of port `n` that no rule refuses (03_fast_inputs.md R71, R76, R77, R80, R90). -/
abbrev PortWriteLegal (n : Nat) (v : Word) (s : State) : Prop :=
  fldGet F.FCH_CTL_MODE v ≠ 3 ∧ fldGet F.FCH_CTL_BWL v ≠ 3 ∧
  (n % 2 = 1 → fldGet F.FCH_CTL_PAIRED v = 0 ∧ (fldGet F.FCH_CTL_ENABLE v = 1 → s.paired (n - 1) = false)) ∧
  s.unitRunning (Reg.FCH_STATUS n) = false ∧
  (n % 2 = 0 → fldGet F.FCH_CTL_PAIRED v = 1 → s.get (Reg.FCH_CTL n) F.FCH_CTL_PAIRED = 0 → s.fchState (n + 1) = 0) ∧
  (s.fchState n ≠ 0 → fldGet F.FCH_CTL_PAIRED v = s.get (Reg.FCH_CTL n) F.FCH_CTL_PAIRED ∧
    fldGet F.FCH_CTL_BWL v = s.get (Reg.FCH_CTL n) F.FCH_CTL_BWL ∧ fldGet F.FCH_CTL_MODE v = s.get (Reg.FCH_CTL n) F.FCH_CTL_MODE)

/-- A write of `v` to DCF_CTL of chain `n` that no rule refuses or gates (05_filter_chains.md R126, R138, R139). -/
abbrev ChainWriteLegal (n : Nat) (v : Word) (s : State) : Prop :=
  fldGet F.DCF_CTL_RS_PROTO v ≠ 3 ∧ fldGet F.DCF_CTL_NSTAGE v ≤ 10 ∧ s.unitRunning (Reg.DCF_STATUS n) = false ∧
  (s.dcfState n ≠ 0 → fldGet F.DCF_CTL_RS_PROTO v = s.get (Reg.DCF_CTL n) F.DCF_CTL_RS_PROTO ∧
    fldGet F.DCF_CTL_SRC v = s.get (Reg.DCF_CTL n) F.DCF_CTL_SRC ∧
    fldGet F.DCF_CTL_NSTAGE v = s.get (Reg.DCF_CTL n) F.DCF_CTL_NSTAGE ∧
    fldGet F.DCF_CTL_RS_EN v = s.get (Reg.DCF_CTL n) F.DCF_CTL_RS_EN) ∧
  (s.chainTriggersRunning n = true → s.latencyWith n (Reg.DCF_CTL n) v = s.rn (Reg.DCF_LATENCY n))

/-- A write of `v` to STO_CTL of output `n` that no rule refuses or gates (09_stimulus_and_timing_ports.md R232, R233, R252). -/
abbrev StoWriteLegal (n : Nat) (v : Word) (s : State) : Prop :=
  fldGet F.STO_CTL_NS v ≠ 3 ∧ fldGet F.STO_CTL_LOG2_I v ≤ 10 ∧ fldGet F.STO_CTL_SRC v ≤ 1 ∧
  s.unitRunning (Reg.STO_STATUS n) = false ∧
  (s.stoState n ≠ 0 → s.wouldBe (Reg.STO_CTL n) v ||| 1#32 = s.rd (Reg.STO_CTL n) ||| 1#32)

/-- The canonical form of what the block stores in tables keyed by address: no two entries for one address, none that merely
repeats what an unlisted address reads as. -/
def Canonical (s : State) : Prop :=
  sparseWf resetWord s.regs = true ∧ keysRising s.mem.cells = true ∧ sparseWf (fun _ => 0#8) s.pmem = true

/-- A write of `v` to PCV_CTL of converter `k` that no rule refuses or gates (08_precision_inputs.md R201, R220, R228;
11_acquisition_memory.md R282). -/
abbrev PcvWriteLegal (k : Nat) (v : Word) (s : State) : Prop :=
  (fldGet F.PCV_CTL_LP v = 1 → ∀ p < 4, profBad true (s.rd (Reg.PCV_PROF k p)) = false) ∧ s.unitRunning (Reg.PCV_STATUS k) = false ∧
  ((s.pcvState k ≠ 0 ∨ s.on (Reg.PCV_STATUS k) F.PCV_STATUS_POWERING = true) →
    v &&& 0x01FFF332#32 = s.rd (Reg.PCV_CTL k) &&& 0x01FFF332#32) ∧
  (fldGet F.PCV_CTL_ENABLE v = 1 → s.pcvOn k = false → (s.pcv k).trimBad = false ∧ (fldGet F.PCV_CTL_RING_MODE v = 0 →
    s.memReady = true ∧ s.groupBase (Reg.PCV_RING_BASE_LO k) (Reg.PCV_RING_BASE_HI k) +
      6 * s.get (Reg.PCV_RING_UNITS k) F.PCV_RING_UNITS_UNITS ≤ s.capacity))

/-- A write of `v` to CKS_MDLL_CTL of channel `m` that no rule refuses (10_clock_synthesis.md R259, R264, R275). -/
abbrev MdllWriteLegal (m : Nat) (v : Word) (s : State) : Prop :=
  legalMult (fldGet F.CKS_MDLL_CTL_MULT v) = true ∧ legalMult (fldGet F.CKS_MDLL_CTL_MAXMULT v) = true ∧
  fldGet F.CKS_MDLL_CTL_MREF v ≠ 3 ∧ fldGet F.CKS_MDLL_CTL_MULT v ≤ fldGet F.CKS_MDLL_CTL_MAXMULT v ∧
  fldGet F.CKS_MDLL_CTL_MAXMULT v ≤ (s.mch m).maxLoaded ∧
  ((fldGet F.CKS_MDLL_CTL_MULT v ≠ s.get (Reg.CKS_MDLL_CTL m) F.CKS_MDLL_CTL_MULT ∨
      fldGet F.CKS_MDLL_CTL_MREF v ≠ s.get (Reg.CKS_MDLL_CTL m) F.CKS_MDLL_CTL_MREF) →
    s.phase m = phSr ∨ s.phase m = phOff ∨ s.phase m = phFault ∧ (s.mch m).wasReady = false)

/-- The frame is the one that leaves; while a pause holds its interface, or frames of the interface wait for the end of one, it waits last
behind them (15_host_link.md R370). -/
def Leaves (f : FrameOut) (s t : State) : Prop :=
  if s.rt < (s.hif f.iface).pause ∨ s.hlk.held.any (fun y => y.iface == f.iface) = true then
    t.hlk.out = [] ∧ t.hlk.held = s.hlk.held ++ [f]
  else t.hlk.out = [f] ∧ t.hlk.held = s.hlk.held

/-- No pause holds the interface, and no frame of it waits (15_host_link.md R370). -/
abbrev Unpaused (n : Nat) (s : State) : Prop := (s.hif n).pause ≤ s.rt ∧ s.hlk.held.any (fun y => y.iface == n) = false

/-- A BTP message in a frame of an interface: a datagram from the port of BTP, over IPv4 with DF (15_host_link.md R373, R375). -/
def btpFrame (iface : Nat) (v6 : Bool) (b : List Byte) (s : State) : FrameOut :=
  { iface := iface, kind := 0, data := b, port := s.btpPort, df := !v6 }

/-- The message's frame is not too long for the MAC (15_host_link.md R370). -/
abbrev Short (m : Msg) : Prop := frameTooLong m.v6 (24 + m.data.length + m.tag.length) = false

/-- The message reaches BTP: its frame is short enough, its interface hears it, it is no fragment, and it is for the port of BTP
(15_host_link.md R370, R373, R375). -/
abbrev Reaches (m : Msg) (s : State) : Prop := Short m ∧ s.takesMsg m = true

/-- The message `m` of TYPE `typ` reaches the device and is the request that the session `x` in slot `k` expects; nothing is
buffered behind it, and neither a relink nor a reset is owed. -/
abbrev Expected (typ : Nat) (m : Msg) (k : Nat) (x : Session) (s : State) : Prop :=
  Reaches m s ∧ s.sessSlot m.sess.toNat = some k ∧ s.session k = some x ∧
  (x.auth = true → msgTagOk m typ x.key = true) ∧ m.seq.toNat = x.e ∧ x.busy = false ∧ x.buf = [] ∧ 0 < x.w ∧
  s.hlk.relink = false ∧ s.hlk.reset = 0

/-- The one frame sent is the reply to that request, with these STATUS, GSTATE and payload, and the session, its timeout begun
anew, expects the next SEQ (15_host_link.md R375, R381, R382). -/
def Answered (typ status gstate : Nat) (payload : List Byte) (k : Nat) (x : Session) (s t : State) : Prop :=
  Leaves (btpFrame x.iface x.v6
    (btpMessage x.auth x.key (typ + 0x80) x.id x.e ((x.e + 1) % 2 ^ 32) status t.dev gstate payload) s) s t ∧
  ∃ y, t.session k = some y ∧ y.id = x.id ∧ y.e = (x.e + 1) % 2 ^ 32 ∧ y.busy = false ∧ y.last = s.rt

/-- The state in which a request of slot `k` executes: it is counted and its session's timeout begins anew. -/
def received (k : Nat) (s : State) : State := accepted (refresh k s.noOut)

/-- No hardware event of group `g` is due in the present control cycle, which a group command would come after: no trigger, no close
of its polder, no end of ARMING (01_architecture.md R37). -/
def Quiet (s : State) (g : Nat) : Prop :=
  (∀ t rest, s.trigs g = t :: rest → tsBefore (s.now256 : Nat) (t.ts + ((s.alignLatency g * 256 : Nat) : Int)) = true) ∧
  (∀ r, s.openRing g = some r → s.closeDue g r = false) ∧ (s.gst g = gArming → s.armReady g = false)

/-- A sequenced message cell that arrives on port `i` of the chain is taken: the link is up, its LSEQ is the one expected, and a receive
buffer is free, on the root's downstream port only while its remote event FIFO has room (16_eweone_chain.md R402, R405, R416). -/
abbrev Accepts (i : Nat) (c : Cell) (s : State) : Prop :=
  s.linkUp i = true ∧ c.lseq.toNat = (s.port i).rxSeq ∧ (s.port (1 - i)).msgQ.length < 16 ∧
  (i = 1 → s.root = true → s.chn.revt.length < 256)

/-- The state once port `i` has taken a sequenced message cell. -/
def cellTaken (i : Nat) (s : State) : State := s.setPort i { s.port i with rxSeq := ((s.port i).rxSeq + 1) % 256 }

/-- The device keeps its timebase to the chain: it is not root, its upstream link is up and its SPLL is locked to the chain's reference
(16_eweone_chain.md R411). -/
abbrev KeepsTime (s : State) : Prop :=
  s.root = false ∧ s.linkUp 0 = true ∧ s.on Reg.CKS_STATUS F.CKS_STATUS_ACTIVE_SRC = true ∧ s.on Reg.CKS_STATUS F.CKS_STATUS_LOCKED = true

/-- A message cell of this TYPE and SRC as it waits on a port (16_eweone_chain.md R403). -/
def messageOut (typ src : Nat) (payload : List Byte) : MsgOut :=
  ⟨leBytes 1 typ ++ leBytes 1 src ++ leBytes 1 0 ++ (payload ++ List.replicate 10 0#8).take 10, false⟩

/-- A message cell of this TYPE and SRC waits last on port `i` of the chain (16_eweone_chain.md R403, R405). -/
def Queued (i typ src : Nat) (payload : List Byte) (s t : State) : Prop :=
  (t.port i).msgQ = (s.port i).msgQ ++ [messageOut typ src payload]

/-- The register that a command writes for the host, where the command is one write of a register of a block that a power domain
holds. -/
def hostRegOf : Instr → Option Nat
  | .portEnable n _ | .portDisable n _ => some (Reg.FCH_CTL n)
  | .fchClrLost n | .fchClrOvr n => some (Reg.FCH_CNTCLR n)
  | .fcalStep q | .fcalFull q | .restoreFactory q | .fcalAbort q => some (Reg.FCAL_CMD (q / 4))
  | .chainEnable n _ | .chainDisable n _ => some (Reg.DCF_CTL n)
  | .dcfSync n | .dcfSyncAt n => some (Reg.DCF_CMD n)
  | .force u | .clearHold u => some (Reg.TRU_CMD u)
  | .truCntclr u => some (Reg.TRU_CNTCLR u)
  | .slotRelease g _ => some (Reg.POL_G_RELEASE g)
  | .polCntclr => some Reg.POL_CNTCLR
  | .wacFlush n | .wacClear n => some (Reg.WAC_CMD n)
  | .pcvEnable k _ | .pcvDisable k _ => some (Reg.PCV_CTL k)
  | .pcvStart k | .pcvUrgent k | .pcvAbort k | .clearQueue k => some (Reg.PCV_CMD k)
  | .pcvCntclr k => some (Reg.PCV_CNTCLR k)
  | .stoEnable n _ | .stoDisable n _ => some (Reg.STO_CTL n)
  | .stoStart n | .startAt n | .stoStop n => some (Reg.STO_CMD n)
  | .stoCntclr n => some (Reg.STO_CNTCLR n)
  | .mchInit m | .srEnter m | .srExit m => some (Reg.MCH_CMD m)
  | .mchCntclr m => some (Reg.MCH_CNTCLR m)
  | .cmpSubmitStart n _ | .cmpSubmitResume n _ => some (Reg.CMP_SUBMIT_HI n)
  | .cmpAbort n | .cmpFlush n => some (Reg.CMP_CMD n)
  | .cmpCntclr n => some (Reg.CMP_CNTCLR n)
  | _ => none

end Sys2Proof.Machine
end

