-- ==== Sys2Proof/Certificates/Slice0/Obligations.lean ====
section
/-! DEFINITION. The statements about the model that the provers are to prove. Each docstring names the rules of spec/ that the
statement rests on. -/
open Sys2Proof Sys2Proof.Machine

/-! ### The margin planner (02_handshake_fabric.md) -/

/-- Resting on R54, R55, R57; 18_power_reset_boot.md R454: a window ends where the tick count is a multiple of 2^20, once:
FAB_WINDOW counts it, also while the fabric's domain is down; then, and where SETTLING makes it stale, it gives no new capability:
the figures of all regions stand, and VALID reads 0. A measured VDDC outside 630 mV to 870 mV is a rail out of its range. At any
other tick nothing happens. Resting on R60, R61: SETTLING clears once SETTLE windows have passed since the last attempt, with no
write in flight and no retry owed, and not before; a target that new limits left outside is then moved into them, the planner
being disabled. Resting on R61, R68, R19, R399: limits with 650 ≤ VMIN ≤ VMAX ≤ 850 are taken; with the planner disabled and no
step settling the target is within them after the write. Any other value is refused whole, sets HLK_ERR.REFUSED and is named in
HLK_REFUSED_ADDR. -/
def Obligations.MarginWindowsAndLimits : Prop :=
  (∀ (readings : List Nat) (meas : BitVec 10) (s : State),
     let measures := s.domOn domFab = true ∧ s.dev ≠ devStandby
     let good := 630 ≤ meas.toNat ∧ meas.toNat ≤ 870
     (s.tick % 2 ^ 20 = 0 → s.fab.lastEnd ≠ some s.tick →
       ((good ∨ ¬ measures) → ∃ t, Runs (.measurementWindowEnd readings meas) s t ∧
         t.rn Reg.FAB_WINDOW = (s.rn Reg.FAB_WINDOW + 1) % 2 ^ 32 ∧ t.fab.lastEnd = some s.tick ∧ t.fab.acted = false ∧
         (measures → t.get Reg.PWR_VDDC F.PWR_VDDC_MEAS = meas.toNat) ∧
         ((¬ measures ∨ s.on Reg.FAB_STATUS F.FAB_STATUS_SETTLING = true ∧ s.fab.settleFrom ≠ s.tick) →
           ∀ r < 8, t.on (Reg.FAB_RCAP r) F.FAB_RCAP_VALID = false ∧
             t.get (Reg.FAB_RCAP r) F.FAB_RCAP_CAP = s.get (Reg.FAB_RCAP r) F.FAB_RCAP_CAP ∧
             t.get (Reg.FAB_RCAP r) F.FAB_RCAP_WORST = s.get (Reg.FAB_RCAP r) F.FAB_RCAP_WORST)) ∧
       (measures → ¬ good → s.pwr.toEnter = [] → s.pwr.toWake = [] → ∃ t, Runs (.measurementWindowEnd readings meas) s t ∧ t.on Reg.PWR_RAIL_STAT ⟨0, 1⟩ = false ∧
         t.on Reg.DEV_FAULT_CAUSE F.DEV_FAULT_CAUSE_RAIL = true ∧
         (s.on Reg.DEV_FAULT_CAUSE F.DEV_FAULT_CAUSE_RAIL = false → s.dev ≠ devBoot → t.dev = devFault))) ∧
     ((s.tick % 2 ^ 20 ≠ 0 ∨ s.fab.lastEnd = some s.tick) → Runs (.measurementWindowEnd readings meas) s s)) ∧
  (∀ s : State,
     (s.on Reg.FAB_STATUS F.FAB_STATUS_SETTLING = true → s.fab.inFlight = false → s.fab.retryDue = false →
       0 ≤ tickDiff s.tick s.fab.settleAt → s.fab.limitMove = false →
       ∃ t, Runs .settlingEnd s t ∧ t.on Reg.FAB_STATUS F.FAB_STATUS_SETTLING = false ∧
         t.rd Reg.FAB_VDDC = s.rd Reg.FAB_VDDC ∧ t.fab.limitMove = false) ∧
     (s.on Reg.FAB_STATUS F.FAB_STATUS_SETTLING = true → s.fab.inFlight = false → s.fab.retryDue = false →
       0 ≤ tickDiff s.tick s.fab.settleAt → s.fab.limitMove = true → s.on Reg.FAB_CTL F.FAB_CTL_PLAN_EN = false →
       s.get Reg.FAB_VLIMIT F.FAB_VLIMIT_VMIN ≤ s.get Reg.FAB_VLIMIT F.FAB_VLIMIT_VMAX →
       ∃ t, Runs .settlingEnd s t ∧ t.fab.limitMove = false ∧ t.get Reg.FAB_VDDC F.FAB_VDDC_TARGET =
         max (s.get Reg.FAB_VLIMIT F.FAB_VLIMIT_VMIN)
           (min (s.get Reg.FAB_VLIMIT F.FAB_VLIMIT_VMAX) (s.get Reg.FAB_VDDC F.FAB_VDDC_TARGET))) ∧
     ((s.on Reg.FAB_STATUS F.FAB_STATUS_SETTLING = false ∨ s.fab.inFlight = true ∨ s.fab.retryDue = true ∨
       tickDiff s.tick s.fab.settleAt < 0) → Runs .settlingEnd s s)) ∧
  (∀ (v : Word) (s : State),
     let lo := fldGet F.FAB_VLIMIT_VMIN v
     let hi := fldGet F.FAB_VLIMIT_VMAX v
     (650 ≤ lo → lo ≤ hi → hi ≤ 850 →
       ∃ t, Runs (.fabVlimitWrite v) s t ∧ t.get Reg.FAB_VLIMIT F.FAB_VLIMIT_VMIN = lo ∧
         t.get Reg.FAB_VLIMIT F.FAB_VLIMIT_VMAX = hi ∧
         (s.on Reg.FAB_CTL F.FAB_CTL_PLAN_EN = false → s.on Reg.FAB_STATUS F.FAB_STATUS_SETTLING = false →
           t.get Reg.FAB_VDDC F.FAB_VDDC_TARGET = max lo (min hi (s.get Reg.FAB_VDDC F.FAB_VDDC_TARGET)))) ∧
     ((lo < 650 ∨ 850 < hi ∨ hi < lo) →
       ∃ t, Runs (.fabVlimitWrite v) s t ∧ Raised s t Reg.HLK_ERR F.HLK_ERR_REFUSED ∧
         t.rn Reg.HLK_REFUSED_ADDR = Reg.FAB_VLIMIT ∧ KeepsRegs s t [Reg.HLK_ERR, Reg.HLK_REFUSED_ADDR]))

/-- Resting on R60, R66: at the end of a window whose number is a multiple of PERIOD, PLAN_EN = 1 and no step settling, the
planner acts. FORCE_VMAX or LOSS_HOLD takes the target to VMAX; HOLD keeps a target that is within the limits; a worst margin
below TARGET raises it by STEP, not past VMAX; a worst margin at or above DOWN, the DOWN_PERIODS-th time in a row, lowers it by
STEP, not below VMIN; between the two it stays. MARGIN_LOW sets where the margins were not low at the action before (that it does
not set again while they stay low is the model's choice, log entry 115); a new target starts an AVSBus write and SETTLING. While a
step settles it does nothing. Resting on R60, R62: the answer to an AVSBus write. An acknowledged target is the last one and
enters MAX_SEEN; an error counts; the fourth error in a row sets AVS_FAULT and takes TARGET back to the last acknowledged value;
before that a retry is owed one window later. The retry sends the target again. With no write in flight, and with no retry due,
nothing happens. -/
def Obligations.PlannerAndRail : Prop :=
  (∀ s : State,
     let target := s.get Reg.FAB_VDDC F.FAB_VDDC_TARGET
     let vmin := s.get Reg.FAB_VLIMIT F.FAB_VLIMIT_VMIN
     let vmax := s.get Reg.FAB_VLIMIT F.FAB_VLIMIT_VMAX
     let step := s.get Reg.FAB_PLAN_CTL F.FAB_PLAN_CTL_STEP
     let worst := (worstMargin s s.planned).1
     let low := s.get Reg.FAB_THRESH_A F.FAB_THRESH_A_TARGET
     let down := s.get Reg.FAB_THRESH_B F.FAB_THRESH_B_DOWN
     let forced := s.on Reg.FAB_CTL F.FAB_CTL_FORCE_VMAX || s.on Reg.FAB_STATUS F.FAB_STATUS_LOSS_HOLD
     (s.domOn domFab = true → s.dev ≠ devStandby → s.on Reg.FAB_CTL F.FAB_CTL_PLAN_EN = true → s.fab.lastEnd = some s.tick →
       s.fab.acted = false → s.fab.staleWins = 0 → 0 < s.rn Reg.FAB_WINDOW →
       (s.rn Reg.FAB_WINDOW - 1) % s.get Reg.FAB_PLAN_CTL F.FAB_PLAN_CTL_PERIOD = 0 →
       s.on Reg.FAB_STATUS F.FAB_STATUS_SETTLING = false → vmin ≤ target → target ≤ vmax →
       ∃ t, Runs .plannerAction s t ∧ t.fab.acted = true ∧ t.get Reg.FAB_STATUS F.FAB_STATUS_WORST_MARGIN = worst ∧
         (forced = true → t.get Reg.FAB_VDDC F.FAB_VDDC_TARGET = vmax) ∧
         (forced = false → s.on Reg.FAB_CTL F.FAB_CTL_HOLD = true → t.get Reg.FAB_VDDC F.FAB_VDDC_TARGET = target) ∧
         (forced = false → s.on Reg.FAB_CTL F.FAB_CTL_HOLD = false → worst < low →
           t.get Reg.FAB_VDDC F.FAB_VDDC_TARGET = min vmax (target + step) ∧ t.fab.downRun = 0) ∧
         (forced = false → s.on Reg.FAB_CTL F.FAB_CTL_HOLD = false → low ≤ worst → down ≤ worst →
           (s.fab.downRun + 1 < s.get Reg.FAB_PLAN_CTL F.FAB_PLAN_CTL_DOWN_PERIODS →
             t.get Reg.FAB_VDDC F.FAB_VDDC_TARGET = target ∧ t.fab.downRun = s.fab.downRun + 1) ∧
           (s.get Reg.FAB_PLAN_CTL F.FAB_PLAN_CTL_DOWN_PERIODS ≤ s.fab.downRun + 1 →
             t.get Reg.FAB_VDDC F.FAB_VDDC_TARGET = max vmin (target - step) ∧ t.fab.downRun = 0)) ∧
         (forced = false → s.on Reg.FAB_CTL F.FAB_CTL_HOLD = false → low ≤ worst → worst < down →
           t.get Reg.FAB_VDDC F.FAB_VDDC_TARGET = target ∧ t.fab.downRun = 0) ∧
         (worst < low → s.fab.condLow = false → t.on Reg.FAB_FLAGS F.FAB_FLAGS_MARGIN_LOW = true) ∧
         (t.get Reg.FAB_VDDC F.FAB_VDDC_TARGET ≠ target →
           t.fab.inFlight = true ∧ t.fab.avsSent = t.get Reg.FAB_VDDC F.FAB_VDDC_TARGET ∧ t.fab.tries = 0 ∧
           t.on Reg.FAB_STATUS F.FAB_STATUS_SETTLING = true)) ∧
     (s.on Reg.FAB_CTL F.FAB_CTL_PLAN_EN = false → Runs .plannerAction s s) ∧
     (s.on Reg.FAB_STATUS F.FAB_STATUS_SETTLING = true → Runs .plannerAction s s)) ∧
  (∀ s : State,
     let target := s.get Reg.FAB_VDDC F.FAB_VDDC_TARGET
     let errs := s.get Reg.FAB_AVS_ERRCNT F.FAB_AVS_ERRCNT_COUNT
     (s.fab.inFlight = true →
       (∃ t, Runs (.avsWriteAck true) s t ∧ t.fab.inFlight = false ∧ t.fab.lastAck = target ∧
         t.get Reg.FAB_VDDC F.FAB_VDDC_MAX_SEEN = max target (s.get Reg.FAB_VDDC F.FAB_VDDC_MAX_SEEN)) ∧
       (s.fab.tries < 3 → ∃ t, Runs (.avsWriteAck false) s t ∧ t.fab.inFlight = false ∧ t.fab.retryDue = true ∧
         t.fab.retryAt = s.tick + 2 ^ 20 ∧ t.get Reg.FAB_AVS_ERRCNT F.FAB_AVS_ERRCNT_COUNT = incSatN 16 errs 1 ∧
         KeepsRegs s t [Reg.FAB_AVS_ERRCNT]) ∧
       (3 ≤ s.fab.tries → s.fab.lastAck < 2 ^ 10 → ∃ t, Runs (.avsWriteAck false) s t ∧ t.fab.inFlight = false ∧
         t.on Reg.FAB_FLAGS F.FAB_FLAGS_AVS_FAULT = true ∧ t.get Reg.FAB_VDDC F.FAB_VDDC_TARGET = s.fab.lastAck ∧
         t.get Reg.FAB_AVS_ERRCNT F.FAB_AVS_ERRCNT_COUNT = incSatN 16 errs 1)) ∧
     (s.fab.inFlight = false → ∀ ok, Runs (.avsWriteAck ok) s s) ∧
     (s.fab.retryDue = true → 0 ≤ tickDiff s.tick s.fab.retryAt → ∃ t, Runs .avsRetry s t ∧ t.fab.inFlight = true ∧
       t.fab.avsSent = target ∧ t.fab.tries = s.fab.tries + 1 ∧ t.fab.retryDue = false ∧
       t.on Reg.FAB_STATUS F.FAB_STATUS_SETTLING = true ∧ KeepsRegs s t [Reg.FAB_STATUS]) ∧
     (s.fab.retryDue = false → Runs .avsRetry s s))

/-! ### Fast input ports (03_fast_inputs.md) -/

/-- Resting on R88, R90: a write of FCH_CTL with ENABLE = 1 that no rule refuses, to a port that is OFF in a CONFIGURED device
with its tile powered, leaves the port POWERING; the register holds the written fields. Resting on R77, R90, R399: a write of
FCH_CTL that R71, R76, R77, R80 or R90 refuses changes no register but those of the report, in both commands. Resting on R89: a
write of FCH_CTL with ENABLE = 0 that no rule refuses puts a POWERING port OFF at once, and gives a RUNNING port the next frame
boundary as its end, the port running on until then. Resting on R88, R72: a POWERING port that is ready at a frame boundary is
RUNNING, FCH_START_TS holds that boundary, and its first frame begins there; off a boundary, in any other state, and while the
tick counter is frozen, nothing happens. Resting on R89: a RUNNING port whose stop is accepted and whose last frame is handed over
is OFF, FCH_STOP_TS holds the end, and its stream ends for its consumers; before that it goes on. A port that ENABLE = 1 was
written to meanwhile starts anew (the model's choice, log entry 16). -/
def Obligations.PortLifecycle : Prop :=
  (∀ (n : Fin 16) (v : Word) (s : State), PortWriteLegal n (withEnable v true) s → s.fchState n = 0 → s.dev = devConfigured →
     s.domOn (n / 4) = true → s.pwr.entering = none →
     ∃ t, Runs (.portEnable n v) s t ∧ t.fchState n = 1 ∧ t.on (Reg.FCH_CTL n) F.FCH_CTL_ENABLE = true ∧
       t.get (Reg.FCH_CTL n) F.FCH_CTL_MODE = fldGet F.FCH_CTL_MODE v ∧
       t.get (Reg.FCH_CTL n) F.FCH_CTL_BWL = fldGet F.FCH_CTL_BWL v ∧
       t.get (Reg.FCH_CTL n) F.FCH_CTL_PAIRED = fldGet F.FCH_CTL_PAIRED v) ∧
  (∀ (n : Fin 16) (v : Word) (e : Bool) (s : State), ¬ PortWriteLegal n (withEnable v e) s →
     ∃ t, Runs (if e then .portEnable n v else .portDisable n v) s t ∧ RegsOnly s t ∧
       KeepsRegs s t [Reg.HLK_ERR, Reg.HLK_GATED_ADDR, Reg.HLK_REFUSED_ADDR] ∧ t.rd Reg.HLK_ERR ≠ 0) ∧
  (∀ (n : Fin 16) (v : Word) (s : State), PortWriteLegal n (withEnable v false) s → s.standbyBlocked (Reg.FCH_CTL n) = false →
     (s.fchState n = 1 → ∃ t, Runs (.portDisable n v) s t ∧ t.fchState n = 0) ∧
     (s.fchState n = 2 → (s.fch n).stopping = false →
       ∃ t, Runs (.portDisable n v) s t ∧ t.fchState n = 2 ∧ (t.fch n).stopping = true ∧
         (t.fch n).stopAt = (s.tick / 1024 + 1) * 1024 % 2 ^ 64)) ∧
  (∀ (n : Fin 16) (s : State),
     (s.fchState n = 1 → isFrame s.tick = true → s.on Reg.CKS_STATUS F.CKS_STATUS_FROZEN = false → s.tick < 2 ^ 64 →
       ∃ t, Runs (.portReady n) s t ∧ t.fchState n = 2 ∧ t.rd64 (Reg.FCH_START_TS_LO n) = s.tick ∧
         (t.fch n).nextFrame = s.tick ∧ (t.fch n).stopping = false) ∧
     (s.fchState n ≠ 1 → Runs (.portReady n) s s) ∧
     (isFrame s.tick = false → Runs (.portReady n) s s) ∧
     (s.on Reg.CKS_STATUS F.CKS_STATUS_FROZEN = true → Runs (.portReady n) s s)) ∧
  (∀ (n : Fin 16) (s : State),
     (s.fchState n = 2 → (s.fch n).stopping = true → tickBefore s.tick (s.fch n).stopAt = false →
       tickBefore (s.fch n).nextFrame (s.fch n).stopAt = false → (s.fch n).stopAt < 2 ^ 64 →
       ∃ u, Runs (.portStop n) s (drainEnds u) ∧ u.rd64 (Reg.FCH_STOP_TS_LO n) = (s.fch n).stopAt ∧
         (s.on (Reg.FCH_CTL n) F.FCH_CTL_ENABLE = false → u.fchState n = 0) ∧
         (s.on (Reg.FCH_CTL n) F.FCH_CTL_ENABLE = true → s.dev = devConfigured → s.domOn (n / 4) = true →
           s.pwr.entering = none → u.fchState n = 1) ∧
         u.fch n = { adjOld := (s.fch n).adjOld, adjFrom := (s.fch n).adjFrom }) ∧
     ((s.fch n).stopping = false → Runs (.portStop n) s (drainEnds s)))

/-- Resting on R72, R89: at a frame boundary that has come, the boundary passes, and every RUNNING port whose frame ends there and
lies in its stream goes on to the next frame; with none due nothing happens. Resting on R78, R79, R80: the code a sample is handed
over with: 64 times the slice code in range, the end of the range beyond an edge and marked over range; the ramp and the constant
pattern are never over range. Resting on 01_architecture.md R29; R92: a word that finds the 64-word buffer of a lane of a RUNNING
port full is discarded: FCH_LOSTCNT and the lane's count go up and saturate, LOST sets, and the lane's next word owes GAP. A
buffer can be full where its words wait, where a test slows the tile's stages, and where the region's margin lies below 0x1000;
elsewhere the fabric delivers every word. Resting on R82: a hard comparator of a POWERING or RUNNING port sets OVR_HARD and
nothing else; of any other port, nothing. Resting on R92, R23: CLR_LOST clears FCH_LOSTCNT and every lane count, CLR_OVR clears
FCH_OVRCNT, increments of the same control cycle coming after the clear, and neither touches anything else. -/
def Obligations.SamplesAndCounts : Prop :=
  (∀ (conv : List (Nat × List Sample)) (s : State),
     let b := (s.lastFrame + 1024) % 2 ^ 64
     (tickBefore s.tick b = false →
       ∃ t, Runs (.frameBoundary conv) s t ∧ t.lastFrame = b ∧ t.tick = s.tick ∧ t.free = s.free + 1 ∧
         ∀ n < 16, s.fchState n = 2 → (s.fch n).stopping = false → ((s.fch n).nextFrame + 1024) % 2 ^ 64 = b →
           t.fchState n = 2 ∧ (t.fch n).nextFrame = b ∧ (t.fch n).pattern = s.get (Reg.FCH_PATTERN n) F.FCH_PATTERN_CODE) ∧
     (tickBefore s.tick b = true → Runs (.frameBoundary conv) s s)) ∧
  (∀ (n : Fin 16) (t : Nat) (x : Sample) (s : State),
     (s.get (Reg.FCH_CTL n) F.FCH_CTL_MODE = 0 → x.rail = 0 → sampleCode n t x s = (64 * x.code.toInt, false)) ∧
     (s.get (Reg.FCH_CTL n) F.FCH_CTL_MODE = 0 → x.rail = 1 → sampleCode n t x s = (131071, true)) ∧
     (s.get (Reg.FCH_CTL n) F.FCH_CTL_MODE = 0 → x.rail = 2 → sampleCode n t x s = (-131072, true)) ∧
     (s.get (Reg.FCH_CTL n) F.FCH_CTL_MODE = 1 →
       sampleCode n t x s = (64 * (((t / s.period n % 4096 : Nat) : Int) - 2048), false)) ∧
     (s.get (Reg.FCH_CTL n) F.FCH_CTL_MODE = 2 → sampleCode n t x s = (64 * sext 12 (s.fch n).pattern, false))) ∧
  (∀ (n lane : Fin 16) (s : State),
     (s.fchState n = 2 → s.mayDiscard n lane = true → (lane.val < 8 ∨ s.paired n = true) →
     ∃ t, Runs (.captureDiscard n lane) s t ∧
       t.rd (Reg.FCH_LOSTCNT n) = incSat32 (s.rd (Reg.FCH_LOSTCNT n)) 1 ∧
       t.get (Reg.FCH_LANELOST n (lane / 2)) (if lane.val % 2 = 0 then F.FCH_LANELOST_EVEN else F.FCH_LANELOST_ODD) =
         incSatN 16 (s.get (Reg.FCH_LANELOST n (lane / 2)) (if lane.val % 2 = 0 then F.FCH_LANELOST_EVEN else F.FCH_LANELOST_ODD)) 1 ∧
       t.on (Reg.FCH_FLAGS n) F.FCH_FLAGS_LOST = true ∧ lane.val ∈ (t.fch n).gapLanes ∧
       (∀ q, t.queue q = s.queue q) ∧
       KeepsRegs s t [Reg.FCH_LOSTCNT n, Reg.FCH_LANELOST n (lane / 2), Reg.FCH_FLAGS n, Reg.MON_AV_DOWN_LO n, Reg.MON_AV_DOWN_LO n + 4]) ∧
     (64 ≤ s.laneLoad n lane → s.mayDiscard n lane = true) ∧
     ((s.fchState n ≠ 2 ∨ s.mayDiscard n lane = false ∨ 8 ≤ lane.val ∧ s.paired n = false) → Runs (.captureDiscard n lane) s s)) ∧
  (∀ (n : Fin 16) (s : State),
     (s.portUp n = true → ∃ t, Runs (.ovrHard n) s t ∧ Raised s t (Reg.FCH_FLAGS n) F.FCH_FLAGS_OVR_HARD ∧ RegsOnly s t ∧
       KeepsRegs s t [Reg.FCH_FLAGS n]) ∧
     (s.portUp n = false → Runs (.ovrHard n) s s)) ∧
  (∀ (n : Fin 16) (s : State), s.standbyBlocked (Reg.FCH_CNTCLR n) = false →
     (∃ t, Runs (.fchClrLost n) s t ∧ Cleared s t (Reg.FCH_LOSTCNT n :: (List.range 8).map (Reg.FCH_LANELOST n))) ∧
     (∃ t, Runs (.fchClrOvr n) s t ∧ Cleared s t [Reg.FCH_OVRCNT n]))

/-! ### Interleave calibration (04_interleave_calibration.md) -/

/-- Resting on R103, R104, R105: at a due instant of a port that schedules, a step waits, held where DEFER holds it; at a frame
boundary at which nothing holds it any more, a held step is released; held for DEFER_MAX seconds it is released with
DEFER_EXPIRED. Each of the three leaves every register alone but FCAL_STATUS and, for the last, the port's flags. Resting on R94,
R99, R101, R104: at a frame boundary at which the tile is free, the next port's step starts on its NEXT_SLICE: guarded, with a
serviceable spare, where GUARD names the port; else ordinary, the port withholding its samples. FCAL_STATUS shows it. Resting on
R95, R96, R97, R98: 1,536 frames after its start an ordinary step ends. Two measurements that agree move the slice's trims by
their mean, held in range; two that do not leave the trims, count in DISCNT, and at the fourth attempt set CAL_DISAGREE and move
on. The port delivers again and STEPCNT counts. Before that instant nothing happens. Resting on R97, R100, R101: a guarded step.
After 1,536 frames a spare that agrees within range takes the corrected trims and stands in; after 3,072 frames the slice has been
judged and returns over 64 frames; then the step ends and GSTEPCNT counts. A spare that does not agree ends the step. -/
def Obligations.CalibrationSteps : Prop :=
  (∀ (q : Fin 16) (s : State),
     (s.schedules q = true → s.tick % s.calInterval (q / 4) = q % 4 * (s.calInterval (q / 4) / 4) →
       (s.calPort q).sched = false → (s.calPort q).lastDue ≠ some s.tick →
       ∃ t, Runs (.stepDue q) s t ∧ (t.calPort q).sched = true ∧ (t.calPort q).lastDue = some s.tick ∧
         (t.calPort q).heldSince = (if s.defers q then some s.tick else none) ∧
         (t.calPort q).released = false ∧ KeepsRegs s t [Reg.FCAL_STATUS (q / 4)]) ∧
     (s.schedules q = false → Runs (.stepDue q) s s) ∧
     (isFrame s.tick = true → (s.calPort q).sched = true → (s.calPort q).released = false → (s.calPort q).heldSince ≠ none →
       s.defers q = false → s.notNormal q = false → ∃ t, Runs (.stepRelease q) s t ∧ (t.calPort q).released = true ∧
         (t.calPort q).heldSince = none ∧ KeepsRegs s t []) ∧
     (s.defers q = true → Runs (.stepRelease q) s s) ∧
     (∀ h, (s.calPort q).heldSince = some h → (s.calPort q).sched = true → (s.calPort q).released = false →
       s.notNormal q = false →
       ((s.get (Reg.FCAL_DEFER_MAX (q / 4)) F.FCAL_DEFER_MAX_S * 163840000000 : Nat) : Int) ≤ tickDiff s.tick h →
       ∃ t, Runs (.deferExpired q) s t ∧ (t.calPort q).released = true ∧
         Raised s t (calFlags q) F.FCAL_P_FLAGS_DEFER_EXPIRED ∧ KeepsRegs s t [calFlags q]) ∧
     ((s.calPort q).heldSince = none → Runs (.deferExpired q) s s)) ∧
  (∀ (t : Fin 4) (i : Nat) (s : State), isFrame s.tick = true → (s.calTile t).run = none → s.nextPort t = some i →
     let slice := s.get (calState (4 * t + i)) F.FCAL_P_STATE_NEXT_SLICE
     let named := decide (s.get (Reg.FCAL_CTL t) F.FCAL_CTL_GUARD = i)
     ∃ u, Runs (.stepStart t) s u ∧ u.on (Reg.FCAL_STATUS t) F.FCAL_STATUS_ACTIVE = true ∧
       u.get (Reg.FCAL_STATUS t) F.FCAL_STATUS_ACTIVE_PORT = i ∧
       (∀ k, named = true → s.pickSpare t = some k →
         (u.calTile t).run = some { port := i, slice := slice, guarded := true, spare := k, start := s.tick, phase := 2 } ∧
           u.get (Reg.FCAL_STATUS t) F.FCAL_STATUS_PHASE = 2) ∧
       ((named = false ∨ s.pickSpare t = none) →
         (u.calTile t).run = some { port := i, slice := slice, guarded := false, spare := 0, start := s.tick, phase := 1 } ∧
           u.get (Reg.FCAL_STATUS t) F.FCAL_STATUS_PHASE = 1 ∧ (u.fch (4 * t + i)).hold = true)) ∧
  (∀ (t : Fin 4) (e1 e2 : Quad) (s : State) (r : CalStep), (s.calTile t).run = some r → r.phase = 1 → r.port < 4 →
     r.slice < s.nSlices (4 * t + r.port) →
     let q := 4 * t + r.port
     (1536 * 1024 ≤ tickDiff s.tick r.start →
       ∃ u, Runs (.stepEnd t e1 e2) s u ∧ (u.calTile t).run = none ∧
         u.rd (Reg.FCAL_P_STEPCNT t r.port) = incSat32 (s.rd (Reg.FCAL_P_STEPCNT t r.port)) 1 ∧
         (u.fch q).gapFirst = true ∧ (u.fch q).holdTo = some s.tick ∧
         (agree e1 e2 = true → readTrims u (trimA q r.slice) = clampQ (subQ (readTrims s (trimA q r.slice)) (meanSteps e1 e2))) ∧
         (agree e1 e2 = false → readTrims u (trimA q r.slice) = readTrims s (trimA q r.slice) ∧
           u.rd (Reg.FCAL_P_DISCNT t r.port) = incSat32 (s.rd (Reg.FCAL_P_DISCNT t r.port)) 1 ∧
           (s.get (calState q) F.FCAL_P_STATE_ATTEMPT = 3 → u.on (calFlags q) F.FCAL_P_FLAGS_CAL_DISAGREE = true ∧
             u.get (calState q) F.FCAL_P_STATE_ATTEMPT = 0) ∧
           (s.get (calState q) F.FCAL_P_STATE_ATTEMPT < 3 → u.get (calState q) F.FCAL_P_STATE_ATTEMPT =
             s.get (calState q) F.FCAL_P_STATE_ATTEMPT + 1))) ∧
     (tickDiff s.tick r.start < 1536 * 1024 → Runs (.stepEnd t e1 e2) s s)) ∧
  (∀ (t : Fin 4) (e1 e2 : Quad) (s : State) (r : CalStep), (s.calTile t).run = some r → r.port < 4 → r.spare < 4 →
     let x := subQ (readTrims s (Reg.FCAL_SP_TRIMA t r.spare)) (meanSteps e1 e2)
     (r.phase = 2 → 1536 * 1024 ≤ tickDiff s.tick r.start → agree e1 e2 = true → clampQ x = x →
       ∃ u, Runs (.spareSwap t e1 e2) s u ∧ (u.calTile t).run = some { r with phase := 3 } ∧
         readTrims u (Reg.FCAL_SP_TRIMA t r.spare) = x ∧ u.get (Reg.FCAL_STATUS t) F.FCAL_STATUS_PHASE = 3) ∧
     (r.phase = 2 → 1536 * 1024 ≤ tickDiff s.tick r.start → agree e1 e2 = false →
       ∃ u, Runs (.spareSwap t e1 e2) s u ∧ (u.calTile t).run = none ∧
         u.on (Reg.FCAL_STATUS t) F.FCAL_STATUS_ACTIVE = false) ∧
     (r.phase = 3 → 3072 * 1024 ≤ tickDiff s.tick r.start →
       ∃ u b, Runs (.standInEnd t e1 e2) s u ∧ (u.calTile t).run =
           some { r with phase := 4, endAt := r.start + 3136 * 1024, moveOn := b, agreed := agree e1 e2 } ∧
         (agree e1 e2 = true → b = true) ∧ u.get (Reg.FCAL_STATUS t) F.FCAL_STATUS_PHASE = 4) ∧
     (r.phase = 4 → r.guarded = true → r.aborted = false → 0 ≤ tickDiff s.tick r.endAt →
       ∃ u, Runs (.sliceResume t) s u ∧ (u.calTile t).run = none ∧
         u.rd (Reg.FCAL_P_GSTEPCNT t r.port) = incSat32 (s.rd (Reg.FCAL_P_GSTEPCNT t r.port)) 1))

/-- Resting on R106: STEP and FULL wait on a RUNNING port in MODE NORMAL that has no command waiting; a port in another state
draws a state refusal, reported in HLK_ERR.STATE. Resting on R106, R107, R108, R109: RESTORE_FACTORY writes the factory set as the
port's field set, and a RUNNING port takes it at the next frame boundary and is no longer converged. ABORT of a port with an
ordinary step running drops its waiting work, sets STEP_ABANDONED and returns it to delivery at the 64th frame boundary; with
nothing to abandon it has no effect. -/
def Obligations.CalibrationCommands : Prop :=
  (∀ (q : Fin 16) (s : State),
     (s.standbyBlocked (Reg.FCAL_CMD (q / 4)) = false → s.fchState q = 2 → (s.calPort q).cmd = 0 → (s.calPort q).fullLeft = 0 → s.notNormal q = false →
       (∃ t, Runs (.fcalStep q) s t ∧ (t.calPort q).cmd = 1 ∧ KeepsRegs s t [Reg.FCAL_STATUS (q / 4)]) ∧
       (∃ t, Runs (.fcalFull q) s t ∧ (t.calPort q).cmd = 2 ∧ KeepsRegs s t [Reg.FCAL_STATUS (q / 4)])) ∧
     (s.fchState q ≠ 2 →
       (∃ t, Runs (.fcalStep q) s t ∧ t.on Reg.HLK_ERR F.HLK_ERR_STATE = true ∧ t.calPort q = s.calPort q) ∧
       (∃ t, Runs (.fcalFull q) s t ∧ t.on Reg.HLK_ERR F.HLK_ERR_STATE = true ∧ t.calPort q = s.calPort q))) ∧
  (∀ (q : Fin 16) (s : State), s.standbyBlocked (Reg.FCAL_CMD (q / 4)) = false →
     (∃ t, Runs (.restoreFactory q) s t ∧ t.fieldSet q = (List.range (s.nSlices q)).map (fun j => (j, factoryQ q j)) ∧
       (s.fchState q = 2 → (t.calPort q).restore = true ∧ t.on (calState q) F.FCAL_P_STATE_CONVERGED = false)) ∧
     (∀ r, (s.calTile (q / 4)).run = some r → r.port = q % 4 → r.phase = 1 →
       ∃ t, Runs (.fcalAbort q) s t ∧ t.on (calFlags q) F.FCAL_P_FLAGS_STEP_ABANDONED = true ∧
         (t.calTile (q / 4)).run = some { r with phase := 4, aborted := true, endAt := (s.tick / 1024 + 64) * 1024 } ∧
         (t.calPort q).cmd = 0 ∧ (t.calPort q).sched = false ∧ (t.calPort q).fullLeft = 0) ∧
     (s.calBusy q = false → Runs (.fcalAbort q) s s) ∧
     (∀ r, (s.calTile (q / 4)).run = some r → r.port = q % 4 → r.aborted = true → r.guarded = false →
       0 ≤ tickDiff s.tick r.endAt →
       ∃ t, Runs (.abortResume ⟨q / 4, by omega⟩) s t ∧ (t.calTile (q / 4)).run = none ∧ (t.fch q).gapFirst = true ∧
         (t.fch q).holdTo = some s.tick))

/-! ### Filter chains (05_filter_chains.md) -/

/-- Resting on R138: a write of DCF_CTL that no rule refuses, with ENABLE = 1, takes a STOPPED chain to WAITING and leaves a chain
in another state as it is; one with ENABLE = 0 stops the chain, drops what waited for it and cancels a pending SYNC_AT. Resting on
R132, R133, R134: the first word of a WAITING chain makes a synchronising reset: SETTLE_TOTAL holds N_settle, LAST_SYNC the word's
instant, and the chain is SETTLING, or RUNNING where N_settle is 0. The word has left the chain's queue. Resting on R132, R137:
SYNC of a SETTLING or RUNNING chain owes a reset to the next word; SYNC_AT makes its instant pending where the chain has not yet
taken a word at or after it, else owes a late reset to the next word; both are ignored in any other state. Resting on R132, R137:
the first word at or after a pending SYNC_AT makes the reset: SYNC_PENDING clears and LAST_SYNC holds the word's instant; a word
that a late SYNC_AT owes the reset to makes it and sets SYNC_LATE; while no such word is at the head of the queue nothing is
taken. -/
def Obligations.FilterChainRuns : Prop :=
  (∀ (n : Fin 32) (v : Word) (s : State), s.standbyBlocked (Reg.DCF_CTL n) = false →
     (ChainWriteLegal n (withEnable v true) s →
       ∃ u, Runs (.chainEnable n v) s (drainEnds u) ∧ u.on (Reg.DCF_CTL n) F.DCF_CTL_ENABLE = true ∧
         u.dcfState n = (if s.dcfState n = 0 then 1 else s.dcfState n)) ∧
     (ChainWriteLegal n (withEnable v false) s →
       ∃ u, Runs (.chainDisable n v) s (drainEnds u) ∧ u.on (Reg.DCF_CTL n) F.DCF_CTL_ENABLE = false ∧ u.dcfState n = 0 ∧
         (s.dcfState n ≠ 0 → u.queue (qDcf n) = [] ∧ (u.dcf n).syncAt = none ∧
           u.get (Reg.DCF_STATUS n) F.DCF_STATUS_SYNC_PENDING = 0))) ∧
  (∀ (n : Fin 32) (q : QWord) (rest : List QItem) (s : State), s.dcfState n = 1 → s.queue (qDcf n) = .word q :: rest →
     s.ackHeld (s.get (Reg.DCF_CTL n) F.DCF_CTL_SRC) (s.queue (qDcf n)) = false → s.settleCount n < 2 ^ 32 →
     ∃ u, Runs (.chainWord n) s (drainEnds u) ∧ u.queue (qDcf n) = rest ∧
       u.rn (Reg.DCF_SETTLE_TOTAL n) = s.settleCount n ∧ u.rd64 (Reg.DCF_LAST_SYNC_LO n) = unsx 64 (q.name / 256) ∧
       u.dcfState n = (if s.settleCount n = 0 then 3 else 2) ∧ (u.dcf n).lastIn = some (nameAfter (s.dcf n).lastIn (q.name / 256))) ∧
  (∀ (n : Fin 32) (s : State), s.standbyBlocked (Reg.DCF_CMD n) = false →
     let at_ := s.rd64 (Reg.DCF_SYNC_TS_LO n)
     ((s.dcfState n = 2 ∨ s.dcfState n = 3) →
       (∃ t, Runs (.dcfSync n) s t ∧ (t.dcf n).sync = true ∧ KeepsRegs s t []) ∧
       (((s.dcf n).lastIn = none ∨ ∃ u, (s.dcf n).lastIn = some u ∧ sext 64 (unsx 64 (u - (at_ : Int))) < 0) →
         ∃ t, Runs (.dcfSyncAt n) s t ∧ (t.dcf n).syncAt = some at_ ∧ (t.dcf n).late = (s.dcf n).late ∧
           t.on (Reg.DCF_STATUS n) F.DCF_STATUS_SYNC_PENDING = true ∧ KeepsRegs s t [Reg.DCF_STATUS n]) ∧
       (∀ u, (s.dcf n).lastIn = some u → 0 ≤ sext 64 (unsx 64 (u - (at_ : Int))) →
         ∃ t, Runs (.dcfSyncAt n) s t ∧ (t.dcf n).syncAt = none ∧ (t.dcf n).late = true ∧
           t.on (Reg.DCF_STATUS n) F.DCF_STATUS_SYNC_PENDING = false ∧ KeepsRegs s t [Reg.DCF_STATUS n])) ∧
     ((s.dcfState n = 0 ∨ s.dcfState n = 1) → Runs (.dcfSync n) s s ∧ Runs (.dcfSyncAt n) s s)) ∧
  (∀ (n : Fin 32) (q : QWord) (rest : List QItem) (i : Nat) (s : State),
     (s.dcfState n = 2 ∨ s.dcfState n = 3) → s.queue (qDcf n) = .word q :: rest →
     s.ackHeld (s.get (Reg.DCF_CTL n) F.DCF_CTL_SRC) (s.queue (qDcf n)) = false →
     let past := sext 64 (unsx 64 (q.name / 256 - (i : Int)))
     ((s.dcf n).syncAt = some i → 0 ≤ past →
       ∃ u, Runs (.syncAtReached n) s (drainEnds u) ∧ (u.dcf n).syncAt = none ∧
         u.get (Reg.DCF_STATUS n) F.DCF_STATUS_SYNC_PENDING = 0 ∧
         u.rd64 (Reg.DCF_LAST_SYNC_LO n) = unsx 64 (q.name / 256)) ∧
     ((s.dcf n).late = true →
       ∃ u, Runs (.syncAtReached n) s (drainEnds u) ∧ (u.dcf n).late = false ∧
         u.on (Reg.DCF_FLAGS n) F.DCF_FLAGS_SYNC_LATE = true ∧
         u.rd64 (Reg.DCF_LAST_SYNC_LO n) = unsx 64 (q.name / 256)) ∧
     ((s.dcf n).syncAt = some i → past < 0 → (s.dcf n).late = false → Runs (.syncAtReached n) s (drainEnds s)))

/-- Resting on R133, R138: with nothing waiting a chain takes no word; the end of its source takes a SETTLING or RUNNING chain
back to WAITING and cancels a pending SYNC_AT; a chain whose settling words have all left enters RUNNING with SETTLED set. Resting
on R119, R120: at the end of a block that may update it, d moves by the block mean's distance over 2^A, rounded half to even, and
DCB_EST shows it; a block that may not, since it began before the reset or a word of it was taken with FREEZE = 1, leaves it. -/
def Obligations.FilterChainWords : Prop :=
  (∀ (n : Fin 32) (s : State),
     (s.queue (qDcf n) = [] → Runs (.chainWord n) s (drainEnds s)) ∧
     (∀ rest, s.queue (qDcf n) = .endStream :: rest → (s.dcfState n = 2 ∨ s.dcfState n = 3) →
       ∃ u, Runs (.chainWord n) s (drainEnds u) ∧ u.dcfState n = 1 ∧ (u.dcf n).syncAt = none ∧
         u.get (Reg.DCF_STATUS n) F.DCF_STATUS_SYNC_PENDING = 0) ∧
     (s.dcfState n = 2 → s.rn (Reg.DCF_SETTLE_LEFT n) = 0 →
       ∃ t, Runs (.settlingComplete n) s t ∧ t.dcfState n = 3 ∧ t.on (Reg.DCF_FLAGS n) F.DCF_FLAGS_SETTLED = true ∧
         RegsOnly s t ∧ KeepsRegs s t [Reg.DCF_FLAGS n, Reg.DCF_STATUS n]) ∧
     (s.dcfState n ≠ 2 → Runs (.settlingComplete n) s s)) ∧
  (∀ (n : Fin 32) (sum : Int) (ok : Bool) (s : State), (s.dcf n).blkDone = some (sum, ok) →
     let blk := s.get (Reg.DCF_DCB_CTL n) F.DCF_DCB_CTL_BLK
     let a := s.get (Reg.DCF_DCB_CTL n) F.DCF_DCB_CTL_A
     let d := (s.dcf n).d
     (ok = true →
       ∃ t, Runs (.dcbBlockEnd n) s t ∧ (t.dcf n).d = sext 30 (unsx 30 (d + rne (blk + a) (sum * 2 ^ 12 - d * 2 ^ blk))) ∧
         t.get (Reg.DCF_DCB_EST n) F.DCF_DCB_EST_EST = unsx 30 (t.dcf n).d ∧ (t.dcf n).blkDone = none ∧
         KeepsRegs s t [Reg.DCF_DCB_EST n]) ∧
     (ok = false →
       ∃ t, Runs (.dcbBlockEnd n) s t ∧ (t.dcf n).d = d ∧ (t.dcf n).blkDone = none ∧ KeepsRegs s t []))

/-! ### Trigger units (06_triggers.md) -/

/-- Resting on R142, R150, R167: a unit takes the word at the head of its queue. A usable word of an enabled stream unit becomes
its previous word; one with GAP, SETTLE or FLT clears the detector, and GAP sets GAP_RESET; with nothing waiting no word is taken.
Resting on R142: with nothing waiting a unit takes no word. Resting on R160, R161, R163, R167: FORCE of an enabled unit delivers a
trigger at the present tick: TRIGCNT counts, FIRED sets, LAST_TS and LAST_INFO name it, and its group gets it; while the timebase
is lost it is counted as not accepted instead. A disabled unit ignores FORCE. Resting on R159, R167: CLEAR_HOLD ends a holdoff,
and HOLDOFF_END shows the end of its time rule: STATE then reads OFF, WAITING before the first usable word, else READY. Nothing
else changes but LEVEL. TRU_CNTCLR clears the four counts. -/
def Obligations.TriggerUnits : Prop :=
  (∀ (u : Fin 32) (q : QWord) (rest : List QItem) (s : State), s.truOn u = true → isStreamType (s.truType u) = true →
     s.queue (qTru u) = .word q :: rest → s.ackHeld (s.get (Reg.TRU_CTL u) F.TRU_CTL_SRC) (s.queue (qTru u)) = false →
     (hasTag (wTags q.w) tagGAP = false → hasTag (wTags q.w) tagSETTLE = false → hasTag (wTags q.w) tagFLT = false →
       ∃ v, Runs (.truWord u) s (drainEnds (settleUsers v)) ∧ v.queue (qTru u) = rest ∧ (v.tru u).seen = true ∧
         (v.tru u).prev = some (q.name, wData q.w, hasTag (wTags q.w) tagOVR)) ∧
     ((hasTag (wTags q.w) tagGAP = true ∨ hasTag (wTags q.w) tagSETTLE = true ∨ hasTag (wTags q.w) tagFLT = true) →
       ∃ v, Runs (.truWord u) s (drainEnds (settleUsers v)) ∧ v.queue (qTru u) = rest ∧ (v.tru u).seen = false ∧
         (v.tru u).prev = none ∧ (v.tru u).coin = none ∧ (plainLevel (s.truType u) = true → (v.tru u).level = false) ∧
         (hasTag (wTags q.w) tagGAP = true → v.on (Reg.TRU_FLAGS u) F.TRU_FLAGS_GAP_RESET = true))) ∧
  (∀ (u : Fin 32) (s : State), s.queue (qTru u) = [] → Runs (.truWord u) s (drainEnds (settleUsers s))) ∧
  (∀ (u : Fin 32) (s : State), s.tick < 2 ^ 64 → s.standbyBlocked (Reg.TRU_CMD u) = false →
     (s.truOn u = true → s.timebaseRuns = true →
       ∃ t, Runs (.force u) s t ∧ t.rd (Reg.TRU_TRIGCNT u) = incSat32 (s.rd (Reg.TRU_TRIGCNT u)) 1 ∧
         t.on (Reg.TRU_FLAGS u) F.TRU_FLAGS_FIRED = true ∧ t.rd64 (Reg.TRU_LAST_TS_LO u) = s.tick ∧
         t.rn (Reg.TRU_LAST_INFO u) = 1024 ∧
         (s.groupOf (Reg.TRU_STATUS u) < 16 → s.on (Reg.TRU_CTL u) F.TRU_CTL_GROUP_EN = true →
           ({ ts := (s.now256 : Nat), unit := u, forced := true } : Trig) ∈ t.trigs (s.groupOf (Reg.TRU_STATUS u)))) ∧
     (s.truOn u = true → s.timebaseRuns = false →
       ∃ t, Runs (.force u) s t ∧ t.rd (Reg.TRU_NACCCNT u) = incSat32 (s.rd (Reg.TRU_NACCCNT u)) 1 ∧
         Raised s t (Reg.TRU_FLAGS u) F.TRU_FLAGS_NOT_ACCEPTED ∧ RegsOnly s t ∧
         KeepsRegs s t [Reg.TRU_NACCCNT u, Reg.TRU_FLAGS u]) ∧
     (s.truOn u = false → Runs (.force u) s s)) ∧
  (∀ (u : Fin 32) (s : State),
     let free := if s.truOn u = false then 0 else if isStreamType (s.truType u) = true ∧ (s.tru u).seen = false then 1 else 2
     (s.standbyBlocked (Reg.TRU_CMD u) = false →
       ∃ t, Runs (.clearHold u) s t ∧ (t.tru u).holdTo = none ∧ (t.tru u).holdN = 0 ∧
         t.get (Reg.TRU_STATUS u) F.TRU_STATUS_STATE = free ∧ KeepsRegs s t [Reg.TRU_STATUS u]) ∧
     (∀ h, (s.tru u).holdTo = some h → tsBefore (s.now256 : Nat) h = false → (s.tru u).holdN = 0 →
       ∃ t, Runs (.holdoffEnd u) s t ∧ t.get (Reg.TRU_STATUS u) F.TRU_STATUS_STATE = free ∧ RegsOnly s t ∧
         KeepsRegs s t [Reg.TRU_STATUS u]) ∧
     ((s.tru u).holdTo = none → Runs (.holdoffEnd u) s s) ∧
     (s.standbyBlocked (Reg.TRU_CNTCLR u) = false →
       ∃ t, Runs (.truCntclr u) s t ∧ Cleared s t [Reg.TRU_TRIGCNT u, Reg.TRU_HOLDCNT u, Reg.TRU_DEADCNT u, Reg.TRU_NACCCNT u]))

/-- Resting on R155, R156: a coincidence level of member m ends once its instant and the unit's latency have passed: the unit sees
m low and forms its value from that. A unit that is not an enabled PATTERN ignores the command. Resting on R153;
16_eweone_chain.md R415: at the release instant of the earliest awaiting chain trigger, the CHAIN unit on its line takes it with
the release instant as timestamp; before that instant it waits on. -/
def Obligations.CoincidenceAndChainTriggers : Prop :=
  (∀ (u : Fin 32) (m : Nat) (e x : Int) (s : State),
     (s.truOn u = true → s.truType u = 5 → (s.tru u).evts = [⟨e, m, 3, x⟩] →
       tsBefore (tsWrap ((s.now256 : Int) - (((s.rn (Reg.TRU_LATENCY u) - 256) * 256 : Nat) : Int))) e = false →
       tsBefore e (lookupD (fun _ => (0 : Int)) (s.tru u).ends m) = false →
       ∃ t, Runs (.coincidenceExpiry u) s t ∧ lookupD (fun _ => false) (t.tru u).seenM m = false ∧
         (t.tru u).pat = s.patValue u (updateD (fun _ => false) (s.tru u).seenM m false)) ∧
     (s.truOn u = false → Runs (.coincidenceExpiry u) s s) ∧
     (s.truType u ≠ 5 → Runs (.coincidenceExpiry u) s s)) ∧
  (∀ (t : ChnTrig) (rest : List ChnTrig) (s : State), s.chn.await = t :: rest →
     (tickBefore s.tick t.release = false → (∀ u < 32, ¬ (s.truOn u = true ∧ s.truType u = 8 ∧ s.get (Reg.TRU_CTL u) F.TRU_CTL_CHAIN_LINE = t.line)) →
       Runs .chainTriggerRelease s (settleUsers { s with chn := { s.chn with await := rest } })) ∧
     (∀ u : Fin 32, tickBefore s.tick t.release = false → t.release < 2 ^ 64 → s.truOn u = true → s.truType u = 8 →
       s.get (Reg.TRU_CTL u) F.TRU_CTL_CHAIN_LINE = t.line →
       (∀ k < 32, k ≠ u.val → ¬ (s.truOn k = true ∧ s.truType k = 8 ∧ s.get (Reg.TRU_CTL k) F.TRU_CTL_CHAIN_LINE = t.line)) →
       s.timebaseRuns = true → (s.tru u).lastPass = none → (s.tru u).holdTo = none → (s.tru u).holdN = 0 →
       ∃ v, Runs .chainTriggerRelease s (settleUsers v) ∧
         v.rd (Reg.TRU_TRIGCNT u) = incSat32 (s.rd (Reg.TRU_TRIGCNT u)) 1 ∧ v.rd64 (Reg.TRU_LAST_TS_LO u) = t.release) ∧
     (tickBefore s.tick t.release = true → Runs .chainTriggerRelease s s))

/-! ### Groups and polders (01_architecture.md R36; 07_polders_and_accumulation.md) -/

/-- Resting on 01_architecture.md R36; 07 R178: a group in ARMING whose ring holds its pre-trigger length and whose members are
ready is ARMED, or FILLING in CONTINUOUS mode; before that it stays in ARMING. Resting on 06 R162; 07 R176, R183: a trigger whose
timestamp plus the alignment latency has come is taken. In ARMED, with no polder open, it opens a polder in the waiting ring's
slot with its boundary POST_T later (a boundary that is the ring's own start apart), and the group is FILLING; in FILLING it is a
secondary trigger while fewer than four are recorded; in any other state it is counted as not accepted by its unit. Earlier it
waits. -/
def Obligations.GroupsTakeTriggers : Prop :=
  (∀ (g : Fin 16) (s : State),
     (s.gst g = gArming → s.armReady g = true →
       ∃ t, Runs (.armingComplete g) s t ∧ t.gst g = (if s.continuous g then gFilling else gArmed)) ∧
     (s.armReady g = false → Runs (.armingComplete g) s s) ∧ (s.gst g ≠ gArming → Runs (.armingComplete g) s s)) ∧
  (∀ (g : Fin 16) (x : Trig) (rest : List Trig) (s : State), s.trigs g = x :: rest →
     let due := x.ts + ((s.alignLatency g * 256 : Nat) : Int)
     let b := x.ts + ((s.postT g * 256 : Nat) : Int)
     (tsBefore (s.now256 : Nat) due = false →
       (∀ r, s.gst g = gArmed → s.openRing g = none → (s.ringsOf g).find? (fun r => !r.opened) = some r → r.openTs ≠ b →
         ∃ t, Runs (.triggerTaken g) s t ∧ t.gst g = gFilling ∧
           ∃ p ∈ t.ringsOf g, p.opened = true ∧ p.prim = x ∧ p.slot = r.slot ∧ p.b = b) ∧
       (∀ r, s.gst g = gFilling → s.openRing g = some r → tsBefore x.ts r.b = true → r.secs.length < 4 →
         ∃ t, Runs (.triggerTaken g) s t ∧ t.gst g = gFilling ∧ ∃ p ∈ t.ringsOf g, p.same r = true ∧ p.secs = r.secs ++ [x]) ∧
       (s.gst g ≠ gArmed → s.gst g ≠ gFilling → x.unit < 32 →
         ∃ t, Runs (.triggerTaken g) s t ∧ t.trigs g = rest ∧
           t.rd (Reg.TRU_NACCCNT x.unit) = incSat32 (s.rd (Reg.TRU_NACCCNT x.unit)) 1 ∧
           t.on (Reg.TRU_FLAGS x.unit) F.TRU_FLAGS_NOT_ACCEPTED = true ∧
           KeepsRegs s t [Reg.TRU_NACCCNT x.unit, Reg.TRU_FLAGS x.unit])) ∧
     (tsBefore (s.now256 : Nat) due = true → Runs (.triggerTaken g) s s))

/-- Resting on R177, R178, R179; 17_configuration_images.md R441, R442: a FILLING group's polder closes at its boundary once that
plus the alignment latency has come: it is closed with status 1, NEXT_SLOT moves on; with no slot after it the group is HALTING,
and SLOT_BUSY sets where a SEALED slot is the reason; with a slot it is ARMED, or FILLING again in CONTINUOUS mode. Where the
close is the boundary of a hand-over and the shadow unit is taken in this cycle, it waits for the next; earlier, and in any other
state, nothing happens. -/
def Obligations.PolderCloses : Prop :=
  ∀ (g : Fin 16) (r : PolRing) (s : State),
    (s.gst g = gFilling → s.openRing g = some r → s.closeDue g r = true → (s.handoverDue g = true → s.handBusy g = false) →
      ∃ t, Runs (.polderClose g) s t ∧
        (s.handoverDue g = false → r.slot + 1 < s.nPold g → t.nextSlot g = r.slot + 1) ∧
        (s.handoverDue g = false → r.openTs ≠ r.b → ∃ p ∈ t.ringsOf g, p.slot = r.slot ∧ p.close = some (1, r.b)) ∧
        (s.slotAfter g r.slot = none → t.gst g = gHalting ∧
          ((s.oneShot g = false ∨ r.slot + 1 < s.nPold g) → t.on (Reg.POL_G_FLAGS g) F.POL_G_FLAGS_SLOT_BUSY = true)) ∧
        (s.slotAfter g r.slot ≠ none → t.gst g = (if t.continuous g then gFilling else gArmed))) ∧
    (s.handoverDue g = true → s.handBusy g = true → Runs (.polderClose g) s s) ∧
    (s.openRing g = some r → s.closeDue g r = false → Runs (.polderClose g) s s) ∧
    (s.gst g ≠ gFilling → Runs (.polderClose g) s s) ∧
    (s.openRing g = none → Runs (.polderClose g) s s)

/-- Resting on R181, R187, 01_architecture.md R36: with the spillway empty, the channels READY and no requester throttled, the
first closed polder is sealed as soon as its words have all arrived: SEALED sets, its ring is gone, and the slot's dike reads
SEALED; the last seal takes a HALTING group to HALTED. While words are still to arrive, it waits. -/
def Obligations.PolderSeals : Prop :=
  ∀ (g : Fin 16) (p : PolRing) (c : Nat × Int) (s : State), (s.ringsOf g).find? (fun r => r.close.isSome) = some p →
    p.close = some c → s.mem.spill = [] → (∀ k < 16, ∀ r ∈ s.ringsOf k, r.dikeOwed = false) →
    (s.sluiceHeld = false → s.nChan ≤ 8 → (∀ m < 8, s.phase m = phReady) → (∀ m < 8, (s.mch m).throttled = []) →
      (p.written = true ∨ ∀ x ∈ p.strs, s.streamDone x c.2 = true) →
      ∃ t, Runs (.polderSeal g) s t ∧ t.on (Reg.POL_G_FLAGS g) F.POL_G_FLAGS_SEALED = true ∧
        (∀ r ∈ t.ringsOf g, r.same p = false) ∧
        (s.gst g = gHalting → (∀ r ∈ s.ringsOf g, r.close.isSome = true → r.same p = true) → t.gst g = gHalted) ∧
        (p.sealing = false → s.gst g ≠ gHalting → (∀ m < 8, (s.mch m).wq = []) → t.dikeState g p.slot = 2)) ∧
    (p.written = false → (∃ x ∈ p.strs, s.streamDone x c.2 = false) →
      ∃ t, Runs (.polderSeal g) s t ∧ t.ringsOf g = s.ringsOf g ∧ t.gst g = s.gst g)

/-- Resting on R174: the manager takes the word at the head of a stored stream's queue; at the end of the source the decimator
starts anew; with nothing waiting nothing happens. Resting on R188; 19_monitoring_and_test.md R483: an output word of a stream
that passes every word, named within a ring, is discarded while the sluice is closed: POL_SLUICE_LOST and the group's LOSTCNT
count, SLUICE_LOST sets, and the stream's next stored word owes GAP; of the other registers only the availability of a port whose
frame it was can change. Here no open polder holds words for the next ring. Resting on R182, R188, R196, R23: SLOT_RELEASE makes a
SEALED dike EMPTY, and ignores a slot that does not exist or whose dike is not SEALED; a closed sluice reopens where the spillway
has drained to the level, and an open one is left alone; POL_CNTCLR zeroes the high-water mark and clears the lost counts. -/
def Obligations.PolderWords : Prop :=
  (∀ (k : Fin 128) (credit : Bool) (d : StreamDef) (i : QItem) (rest : List QItem) (s : State), s.streams[k.val]? = some d →
     (s.queue (qStream k) = i :: rest → s.ackHeld d.src (i :: rest) = false →
       ∃ t, Runs (.polderWord k credit) s t ∧ t.queue (qStream k) = rest ∧
         (i = .endStream → (t.dec k).win = [] ∧ (t.dec k).cnt = 0 ∧ (t.dec k).since = 0)) ∧
     (s.queue (qStream k) = [] → Runs (.polderWord k credit) s s)) ∧
  (∀ (k : Fin 128) (d : StreamDef) (q : QWord) (rest : List QItem) (s : State), s.streams[k.val]? = some d → d.group < 16 →
     d.mode = 0 → d.log2D = 0 → s.queue (qStream k) = .word q :: rest → s.ackHeld d.src (.word q :: rest) = false →
     s.sluiceClosed = true → (∀ r ∈ s.ringsOf d.group, r.held = []) →
     (∃ r ∈ s.ringsOf d.group, r.takes (q.adjusted d.src s).name = true ∧ r.strs.any (fun x => x.k == k.val) = true) →
     ∃ t, Runs (.polderWord k false) s t ∧ t.rd Reg.POL_SLUICE_LOST = incSat32 (s.rd Reg.POL_SLUICE_LOST) 1 ∧
       t.rd (Reg.POL_G_LOSTCNT d.group) = incSat32 (s.rd (Reg.POL_G_LOSTCNT d.group)) 1 ∧
       t.on (Reg.POL_G_FLAGS d.group) F.POL_G_FLAGS_SLUICE_LOST = true ∧ (t.dec k).gapOwed = true ∧ KeepsMem s t ∧
       KeepsRegs s t ([Reg.POL_SLUICE_LOST, Reg.POL_G_LOSTCNT d.group, Reg.POL_G_FLAGS d.group] ++
         (if d.src < 16 then [Reg.MON_AV_DOWN_LO d.src, Reg.MON_AV_DOWN_LO d.src + 4] else []))) ∧
  (∀ (g : Fin 16) (v : Word) (s : State),
     let k := fldGet F.POL_G_RELEASE_SLOT v
     (s.standbyBlocked (Reg.POL_G_RELEASE g) = false →
       (k < s.nPold g → s.dikeState g k = 2 → s.nChan ≤ 8 → (∀ m < 8, s.phase m ≠ phFault) →
         (s.rangeSleeps (s.dikeBase g + 64 * k) 64 = false ∨ s.waiting = []) →
         ∃ t, Runs (.slotRelease g v) s t ∧ t.dikeState g k = 0) ∧
       (s.nPold g ≤ k → Runs (.slotRelease g v) s s) ∧ (s.dikeState g k ≠ 2 → Runs (.slotRelease g v) s s)) ∧
     (s.sluiceClosed = true → (drainSpill s).spillKib ≤ s.get Reg.POL_SPILL_RESUME F.POL_SPILL_RESUME_KIB →
       (∀ h < 16, ∀ r ∈ s.ringsOf h, r.dikeOwed = false) → ∃ t, Runs .sluiceReopen s t ∧ t.sluiceClosed = false) ∧
     (s.sluiceClosed = false → Runs .sluiceReopen s s) ∧
     (s.standbyBlocked Reg.POL_CNTCLR = false →
       ∃ t, Runs .polCntclr s t ∧ t.rd Reg.POL_SPILL_HWM = 0 ∧
         (∀ a ∈ Reg.POL_SLUICE_LOST :: (List.range 16).map Reg.POL_G_LOSTCNT, t.rn a = min (s.countNow a) (2 ^ 32 - 1)) ∧
         RegsOnly s t ∧ KeepsRegs s t (Reg.POL_SPILL_HWM :: Reg.POL_SLUICE_LOST :: (List.range 16).map Reg.POL_G_LOSTCNT)))

/-- Resting on R438, R440, R441: a shadow entry takes the address of a register of its group, which leaves it not VALID; its DATA
makes it VALID and the hand-over pending; any other address, and a value its register refuses, is reported. Stage IMAGE ends
UNCONFIGURED without BOOT_EN, else CONFIGURED where the slot's image is activated. Resting on 17_configuration_images.md R442,
R443: a hand-over that is due and whose boundary is the next fabric cycle is carried out where the shadow unit takes no other
group in this cycle: a set that breaks the checks raises HOLD and SHADOW_REJECT, and nothing is applied; else (with no write of
the list in this cycle) PENDING and COUNT clear, the generation of the group is the device's, HOTS names the tick, and HANDOVER
sets. Where the unit is taken it waits. -/
def Obligations.ShadowListsAndBootImage : Prop :=
  ((∀ (g : Fin 16) (e : Fin 256) (v : Word) (s : State),
     (s.shadowable g (4 * fldGet F.CFG_SH_ADDR_ADDR v) = true → ∃ t, Runs (.shadowAddrWrite g e v) s t ∧ RegsOnly s t ∧
       t.get (Reg.CFG_SH_ADDR g e) F.CFG_SH_ADDR_ADDR = fldGet F.CFG_SH_ADDR_ADDR v ∧
       t.on (Reg.CFG_SH_ADDR g e) F.CFG_SH_ADDR_VALID = false ∧
       KeepsRegs s t [Reg.CFG_SH_ADDR g e, Reg.CFG_G_SHADOW g]) ∧
     (s.shadowable g (4 * fldGet F.CFG_SH_ADDR_ADDR v) = false → ∃ t, Runs (.shadowAddrWrite g e v) s t ∧
       Reported s t F.HLK_ERR_REFUSED Reg.HLK_REFUSED_ADDR (Reg.CFG_SH_ADDR g e)) ∧
     (let a := 4 * s.get (Reg.CFG_SH_ADDR g e) F.CFG_SH_ADDR_ADDR;
       (s.shadowable g a = true → shadowValueBad g a v s = false → ∃ t, Runs (.shadowDataWrite g e v) s t ∧ RegsOnly s t ∧
         t.rd (Reg.CFG_SH_DATA g e) = v ∧ t.on (Reg.CFG_SH_ADDR g e) F.CFG_SH_ADDR_VALID = true ∧
         t.on (Reg.CFG_G_SHADOW g) F.CFG_G_SHADOW_PENDING = true ∧
         KeepsRegs s t [Reg.CFG_SH_ADDR g e, Reg.CFG_SH_DATA g e, Reg.CFG_G_SHADOW g]) ∧
       ((s.shadowable g a = false ∨ shadowValueBad g a v s = true) → ∃ t, Runs (.shadowDataWrite g e v) s t ∧
         Reported s t F.HLK_ERR_REFUSED Reg.HLK_REFUSED_ADDR (Reg.CFG_SH_DATA g e)))) ∧
   ∀ s : State,
     (s.dev = devBoot → s.get Reg.DEV_BOOT_STAT F.DEV_BOOT_STAT_STAGE = 6 → s.boot.imageDone = false → s.channelsTrained = true →
       (s.on Reg.CFG_CTL F.CFG_CTL_BOOT_EN = false → ∃ t, Runs .bootActivation s t ∧ t.boot.imageDone = true ∧
         t.boot.into = devUnconfigured ∧ t.get Reg.DEV_BOOT_STAT F.DEV_BOOT_STAT_DETAIL = 0 ∧ KeepsRegs s t [Reg.DEV_BOOT_STAT]) ∧
       (s.on Reg.CFG_CTL F.CFG_CTL_BOOT_EN = true → ∃ t, Runs .bootActivation s t ∧ t.boot.imageDone = true ∧
         ((activateImage none (s.get Reg.CFG_CTL F.CFG_CTL_BOOT_SLOT) s).1 = 0 → t.boot.into = devConfigured ∧
           t.get Reg.DEV_BOOT_STAT F.DEV_BOOT_STAT_DETAIL = 0))) ∧
     ((s.dev ≠ devBoot ∨ s.boot.imageDone = true ∨ s.channelsTrained = false) → Runs .bootActivation s s)) ∧
  (∀ (g : Fin 16) (s : State),
     (s.handNow g = true → s.handBusy g = false → s.tick < 2 ^ 64 →
       (shadowBad g (s.shadowList g) s = true →
         ∃ t, Runs (.handover g) s t ∧ t.on (Reg.CFG_G_SHADOW g) F.CFG_G_SHADOW_HOLD = true ∧
           t.on Reg.CFG_FLAGS F.CFG_FLAGS_SHADOW_REJECT = true ∧ t.rd Reg.CFG_GEN = s.rd Reg.CFG_GEN ∧
           KeepsRegs s t [Reg.CFG_G_SHADOW g, Reg.CFG_FLAGS]) ∧
       (shadowBad g (s.shadowList g) s = false → s.cycNow.was = [] →
         ∃ t, Runs (.handover g) s t ∧ t.on (Reg.CFG_G_SHADOW g) F.CFG_G_SHADOW_PENDING = false ∧
           t.get (Reg.CFG_G_SHADOW g) F.CFG_G_SHADOW_COUNT = 0 ∧ t.rd (Reg.CFG_G_GEN g) = t.rd Reg.CFG_GEN ∧
           t.rd64 (Reg.CFG_G_HOTS_LO g) = s.tick ∧ t.on Reg.CFG_FLAGS F.CFG_FLAGS_HANDOVER = true)) ∧
     (s.handNow g = true → s.handBusy g = true → Runs (.handover g) s s) ∧
     (s.handNow g = false → Runs (.handover g) s s))

/-! ### Waveform accumulators -/

/-- Resting on R190: a capture with all its words ends. One with a word marked GAP, FLT or SETTLE is rejected, and one with a word
marked OVR under REJECT_OVR: REJCNT counts and REJECTED sets. Any other waits to be merged; where a word is marked OVR, OVRCNT
counts and OVR_ACQ sets. The unit is IDLE either way. With words still to come it goes on. Resting on R191, R193: the merge of a
waiting capture adds its words to the sums (on die, SUM mode): the first sets them. WAC_COUNT counts; at WAC_NACQ the unit is DONE
and DONE sets. With none waiting nothing happens. Resting on R193, R194, R195, R23: FLUSH of an enabled unit writes its result,
whose header then stands at the result base; one whose result area breaks the checks is refused and reported; a disabled unit has
none to write. CLEAR zeroes the count, clears the other counts, drops sums and captures, and an enabled unit is IDLE. -/
def Obligations.WaveformAccumulators : Prop :=
  (∀ (n : Fin 16) (c : WacCap) (s : State), (s.wac n).cap = some c → s.wacState n = 2 → (s.wac n).merge = none →
     (s.wac n).hurt = false → s.wacDram n = false →
     let w := (((wordsOf (s.queue (qWac n))).map (fun q => q.adjusted (s.get (Reg.WAC_CTL n) F.WAC_CTL_SRC) s)).filter
       (fun q => !tsBefore q.name c.start)).take (s.wacLen n)
     let bad := w.any (fun q => hasTag (wTags q.w) tagGAP || hasTag (wTags q.w) tagFLT || hasTag (wTags q.w) tagSETTLE)
     let ovr := w.any (fun q => hasTag (wTags q.w) tagOVR)
     let rejected := bad || (ovr && s.on (Reg.WAC_CTL n) F.WAC_CTL_REJECT_OVR)
     (w.length = s.wacLen n → rejected = false →
       ∃ t, Runs (.wacCaptureEnd n) s t ∧ t.wacState n = 1 ∧ (t.wac n).cap = none ∧
         (t.wac n).merge = some { c with words := w } ∧ t.on (Reg.WAC_STATUS n) F.WAC_STATUS_MERGING = true ∧
         t.rd (Reg.WAC_OVRCNT n) = incSat32 (s.rd (Reg.WAC_OVRCNT n)) (b2n ovr) ∧
         (ovr = true → t.on (Reg.WAC_FLAGS n) F.WAC_FLAGS_OVR_ACQ = true)) ∧
     (w.length = s.wacLen n → rejected = true →
       ∃ t, Runs (.wacCaptureEnd n) s t ∧ t.wacState n = 1 ∧ (t.wac n).cap = none ∧ (t.wac n).merge = none ∧
         t.rd (Reg.WAC_REJCNT n) = incSat32 (s.rd (Reg.WAC_REJCNT n)) 1 ∧
         t.on (Reg.WAC_FLAGS n) F.WAC_FLAGS_REJECTED = true) ∧
     (w.length < s.wacLen n → ∃ t, Runs (.wacCaptureEnd n) s t ∧ t.wacState n = 2 ∧ t.wac n = s.wac n)) ∧
  (∀ (n : Fin 16) (s : State),
     (∀ c, (s.wac n).merge = some c → (s.wac n).hurt = false → s.wacDram n = false → s.wacEnv n = false →
       let w := c.words.map (fun q => wData q.w)
       ∃ t, Runs (.wacMergeEnd n) s t ∧ (t.wac n).merge = none ∧ (t.wac n).last = c.tp ∧
         t.rd (Reg.WAC_COUNT n) = incSat32 (s.rd (Reg.WAC_COUNT n)) 1 ∧
         (s.rn (Reg.WAC_COUNT n) = 0 → (t.wac n).sums = w ∧ (t.wac n).first = c.tp) ∧
         (s.rn (Reg.WAC_COUNT n) ≠ 0 → (t.wac n).sums = (s.wac n).sums.zipWith (fun a b => a + b) w) ∧
         (s.wacState n ≠ 3 → s.rn (Reg.WAC_COUNT n) + 1 = s.get (Reg.WAC_NACQ n) F.WAC_NACQ_VALUE →
           t.wacState n = 3 ∧ t.on (Reg.WAC_FLAGS n) F.WAC_FLAGS_DONE = true)) ∧
     ((s.wac n).merge = none → (s.wac n).hurt = false → Runs (.wacMergeEnd n) s s)) ∧
  (∀ (n : Fin 16) (s : State), s.standbyBlocked (Reg.WAC_CMD n) = false →
     ((s.wac n).hurt = false → s.wacOn n = true → s.wacResultBad n = false → s.wacDram n = false → s.nChan ≤ 8 → (∀ m < 8, s.phase m ≠ phFault) →
       ∃ t, Runs (.wacFlush n) s t ∧ ∀ i < 64, t.peek (s.wacRes n + i) = (wacHeader n s).getD i 0#8) ∧
     ((s.wac n).hurt = false → s.wacOn n = false → Runs (.wacFlush n) s s) ∧
     ((s.wac n).hurt = false → s.wacOn n = true → s.wacResultBad n = true →
       ∃ t, Runs (.wacFlush n) s t ∧ Reported s t F.HLK_ERR_REFUSED Reg.HLK_REFUSED_ADDR (Reg.WAC_CMD n)) ∧
     (∃ t, Runs (.wacClear n) s t ∧ t.rd (Reg.WAC_COUNT n) = 0 ∧ t.rd64 (Reg.WAC_OFFSUM_LO n) = 0 ∧
       (∀ a ∈ [Reg.WAC_REJCNT n, Reg.WAC_BUSYCNT n, Reg.WAC_OVRCNT n], t.rn a = min (s.countNow a) (2 ^ 32 - 1)) ∧
       t.wac n = {} ∧ (s.wacOn n = true → t.wacState n = 1) ∧ KeepsMem s t))

/-! ### Precision inputs (08_precision_inputs.md) -/

/-- Resting on R208 to R210, R212, R213: a START asks for a start DELAY after its acceptance, at the modulator edge from then, as
the timer does from its next due instant. At its edge the earliest start begins entry 0 of an IDLE converter; while an entry runs
on it is queued, or counted where one is queued. An URGENT asks for its entry at the next edge, where that entry takes over; while
one is pending or running the command is refused. What is not due has no effect. -/
def Obligations.ConverterStarts : Prop :=
  ∀ (k : Fin 24) (s : State), (s.pcv k).ending = none → s.standbyBlocked (Reg.PCV_CMD k) = false →
    (s.pcvState k ≠ 0 → s.startSrc k ≠ 3 →
      ∃ t, Runs (.pcvStart k) s t ∧ (t.pcv k).starts = (s.pcv k).starts ++ [s.edgeFrom k (s.tick + s.rn (Reg.PCV_DELAY k))] ∧
        t.regs = s.regs ∧ KeepsMem s t) ∧
    (s.startSrc k = 1 → s.pcvState k ≠ 0 → s.timebaseRuns = true →
      let from_ := if s.tick / s.tMod k < (s.pcv k).timerFrom then 0 else (s.pcv k).timerFrom + 1
      let e := nextDue (s.rn (Reg.PCV_TIMER_PERIOD k)) (s.rn (Reg.PCV_TIMER_PHASE k)) from_
      (e * s.tMod k ≤ s.tick → ∃ t, Runs (.pcvTimerDue k) s t ∧ (t.pcv k).timerFrom = e ∧ t.regs = s.regs ∧
        (t.pcv k).starts = (s.pcv k).starts ++ [s.edgeFrom k (e * s.tMod k + s.rn (Reg.PCV_DELAY k))]) ∧
      (s.tick < e * s.tMod k → Runs (.pcvTimerDue k) s s)) ∧
    (∀ e, earliest (s.pcv k).starts = some e → s.startsAllowed k = true →
      (tickBefore s.tick e = false → (s.pcv k).run = none → s.pcvState k = 1 →
        ∃ t r, Runs (.startTakesEffect k) s t ∧ t.pcvState k = 2 ∧ (t.pcv k).run = some r ∧
          (t.pcv k).starts = (s.pcv k).starts.erase e ∧ r.entry = 0 ∧ r.start = e ∧ r.cause = 0 ∧ r.done = 0 ∧
          r.word = s.rd (Reg.PCV_SEQ k 0) ∧ r.count = s.entryCount k 0 ∧ KeepsRegs s t [Reg.PCV_STATUS k]) ∧
      (tickBefore s.tick e = false → (∃ r, (s.pcv k).run = some r ∧ s.runEnd k r = none) → s.pcvState k = 2 →
        ∃ t, Runs (.startTakesEffect k) s t ∧ t.pcvState k = 2 ∧ t.pcvQueued k = true ∧ (t.pcv k).run = (s.pcv k).run ∧
          (s.pcvQueued k = false → KeepsRegs s t [Reg.PCV_STATUS k]) ∧
          (s.pcvQueued k = true → t.rd (Reg.PCV_TRIG_OVERRUN k) = incSat32 (s.rd (Reg.PCV_TRIG_OVERRUN k)) 1 ∧
            t.on (Reg.PCV_FLAGS k) F.PCV_FLAGS_TRIG_OVERRUN = true ∧ KeepsRegs s t [Reg.PCV_TRIG_OVERRUN k, Reg.PCV_FLAGS k])) ∧
      (tickBefore s.tick e = true → Runs (.startTakesEffect k) s s)) ∧
    (s.urgBusy k = false → s.pcvState k ≠ 0 →
      ∃ t, Runs (.pcvUrgent k) s t ∧ (t.pcv k).urgent = some (s.edgeFrom k s.tick) ∧
        t.on (Reg.PCV_STATUS k) F.PCV_STATUS_URG_PENDING = true ∧ KeepsRegs s t [Reg.PCV_STATUS k]) ∧
    (s.urgBusy k = true → ∃ t, Runs (.pcvUrgent k) s t ∧ t.pcv k = s.pcv k ∧
      Reported s t F.HLK_ERR_STATE Reg.HLK_REFUSED_ADDR (Reg.PCV_CMD k)) ∧
    (∀ e, (s.pcv k).urgent = some e →
      (tickBefore s.tick e = false → s.pcvState k ≠ 0 →
        ∃ t r, Runs (.urgentTakesEffect k) s t ∧ t.pcvState k = 3 ∧ (t.pcv k).run = some r ∧ r.urg = true ∧ r.start = e ∧
          r.cause = 3 ∧ r.word = s.rd (Reg.PCV_URG k) ∧ r.count = some (fldGet F.PCV_SEQ_COUNT (s.rd (Reg.PCV_URG k)) + 1) ∧
          (t.pcv k).urgent = none ∧ t.on (Reg.PCV_STATUS k) F.PCV_STATUS_URG_PENDING = false ∧ KeepsRegs s t [Reg.PCV_STATUS k] ∧
          (∀ r, (s.pcv k).run = some r → r.count = none → (t.pcv k).resume = some (r.entry, none, 4))) ∧
      (tickBefore s.tick e = true → Runs (.urgentTakesEffect k) s s))

/-- Resting on R207, R209, R212, R214, R225, R226, R228, R23: an entry that has delivered its COUNT is followed by the next, by
the queued start's pass, or by IDLE; an urgent one by what it interrupted. ABORT and a disable end the converter at the next
modulator edge, and from that edge on it is IDLE or OFF (a disable while the timebase stands, at once: the model's choice, log
144); CLEAR_QUEUE forgets the queued start; a write of CNTCLR clears the four counts. A converter that has powered is IDLE, or
begins its pass in FREE; one enabled begins to power with its ring at 0. A ring that stopped resumes with four units free. -/
def Obligations.ConverterRuns : Prop :=
  ∀ (k : Fin 24) (s : State),
    (∀ e st, (s.pcv k).ending = some (e, st) → st ≤ 1 → (s.pcv k).again = false → tickBefore s.tick e = false →
      s.standbyBlocked (Reg.PCV_CMD k) = false →
      ∃ t, Runs (.clearQueue k) s t ∧ t.pcvState k = st ∧ (t.pcv k).run = none ∧ (t.pcv k).ending = none ∧ t.pcvQueued k = false) ∧
    ((s.pcv k).ending = none →
    (∀ r e, (s.pcv k).run = some r → s.runEnd k r = some e →
      (r.urg = false → tickBefore s.tick e = false →
        (∀ n, s.nextEntry k r.entry = some n → ∃ t q, Runs (.entryRunEnd k) s t ∧ (t.pcv k).run = some q ∧ q.entry = n ∧
          q.start = e ∧ q.cause = 1 ∧ q.done = 0 ∧ q.count = s.entryCount k n ∧ t.pcvState k = 2) ∧
        (s.nextEntry k r.entry = none → s.pcvQueued k = true → ∃ t q, Runs (.entryRunEnd k) s t ∧ (t.pcv k).run = some q ∧
          q.entry = 0 ∧ q.start = e ∧ q.cause = 2 ∧ t.pcvState k = 2 ∧ t.pcvQueued k = false) ∧
        (s.nextEntry k r.entry = none → s.pcvQueued k = false → ∃ t, Runs (.entryRunEnd k) s t ∧ (t.pcv k).run = none ∧
          t.pcvState k = 1)) ∧
      (r.urg = true → tickBefore s.tick e = false →
        (∀ n c cause, (s.pcv k).resume = some (n, c, cause) → ∃ t q, Runs (.urgentEntryEnd k) s t ∧ (t.pcv k).run = some q ∧
          q.entry = n ∧ q.count = c ∧ q.cause = cause ∧ q.start = e ∧ q.urg = false ∧ t.pcvState k = 2) ∧
        ((s.pcv k).resume = none → s.pcvQueued k = false → ∃ t, Runs (.urgentEntryEnd k) s t ∧ (t.pcv k).run = none ∧
          t.pcvState k = 1)) ∧
      (tickBefore s.tick e = true → Runs (.entryRunEnd k) s s ∧ Runs (.urgentEntryEnd k) s s)) ∧
    (s.pcvState k ≠ 0 → s.standbyBlocked (Reg.PCV_CMD k) = false → ∃ t, Runs (.pcvAbort k) s t ∧
      (t.pcv k).ending = some (s.edgeFrom k (s.tick + 1), 1) ∧ (t.pcv k).run = (s.pcv k).run ∧ t.regs = s.regs ∧ KeepsMem s t) ∧
    (s.standbyBlocked (Reg.PCV_CMD k) = false →
      ∃ t, Runs (.clearQueue k) s t ∧ t.pcvQueued k = false ∧ RegsOnly s t ∧ KeepsRegs s t [Reg.PCV_STATUS k]) ∧
    (s.on (Reg.PCV_STATUS k) F.PCV_STATUS_POWERING = true → s.domOn domPrec = true → s.pcvState k = 0 → ∃ t, Runs (.pcvReady k) s t ∧
      t.on (Reg.PCV_STATUS k) F.PCV_STATUS_POWERING = false ∧ t.pcvState k = (if s.startSrc k = 3 ∧ 16 ≤ s.groupOf (Reg.PCV_STATUS k) then 2 else 1)) ∧
    (s.on (Reg.PCV_STATUS k) F.PCV_STATUS_POWERING = false → Runs (.pcvReady k) s s) ∧
    (∀ v, PcvWriteLegal k (withEnable v true) s → s.pcvOn k = false → s.domOn domPrec = true → s.dev = devConfigured →
      ∃ t, Runs (.pcvEnable k v) s t ∧ t.pcvOn k = true ∧ t.on (Reg.PCV_STATUS k) F.PCV_STATUS_POWERING = true ∧
        t.rd (Reg.PCV_RING_WR k) = 0#32 ∧ (t.pcv k).stream = [] ∧ (t.pcv k).stopped = false) ∧
    (∀ v e, ¬ PcvWriteLegal k (withEnable v e) s → ∃ t, Runs (if e then .pcvEnable k v else .pcvDisable k v) s t ∧
      t.pcv k = s.pcv k ∧ t.rd Reg.HLK_ERR ≠ 0 ∧ KeepsRegs s t [Reg.HLK_ERR, Reg.HLK_GATED_ADDR, Reg.HLK_REFUSED_ADDR, Reg.PCV_FLAGS k]) ∧
    (∀ v, PcvWriteLegal k (withEnable v false) s → s.standbyBlocked (Reg.PCV_CTL k) = false →
      ∃ t, Runs (.pcvDisable k v) s t ∧ t.pcvOn k = false ∧ t.on (Reg.PCV_STATUS k) F.PCV_STATUS_POWERING = false ∧
        (s.timebaseRuns = true → t.pcvState k = s.pcvState k ∧
          (s.pcvState k ≠ 0 → (t.pcv k).ending = some (t.edgeFrom k (s.tick + 1), 0))) ∧
        (s.timebaseRuns = false → t.pcvState k = 0))) ∧
    (s.standbyBlocked (Reg.PCV_CNTCLR k) = false → ∃ t, Runs (.pcvCntclr k) s t ∧
      Cleared s t [Reg.PCV_OVRCNT k, Reg.PCV_TRIG_OVERRUN k, Reg.PCV_URG_DROPCNT k, Reg.PCV_LOSTCNT k]) ∧
    ((s.pcv k).stopped = true → 4 ≤ s.unitRoom k → ∃ t, Runs (.ringResume k) s t ∧ (t.pcv k).stopped = false ∧
      (t.pcv k).resync = true ∧ t.regs = s.regs) ∧
    ((s.pcv k).stopped = false → Runs (.ringResume k) s s)

/-- Resting on R199, R205, R215, R216, R222, R225: a result that is due is counted in its run and leaves for the converter's
stream or ring; a full one loses it, counted. Its code is the input voltage, in units of 4.096 V / 2^40, at the entry's gain,
rounded half to even; an overloaded one has the end of the range, counts in OVRCNT and sets the flag of its sign. R221: a measured
drift gives DRIFT and MARGIN, and the flag of a margin that has just become negative. -/
def Obligations.ResultsAndDrift : Prop :=
  (∀ (k : Fin 24) (v : Int) (o : Overloads) (r : PcvRun) (s : State), (s.pcv k).run = some r →
    s.runEnd k r = none → s.timebaseRuns = true → (s.pcv k).ending = none →
    let x := rne 17 (v * 2 ^ fldGet F.PCV_SEQ_GAIN r.word)
    (tickBefore s.tick (s.resultAt k r r.done) = false → s.on (Reg.PCV_CTL k) F.PCV_CTL_RING_MODE = true →
      ∃ t q, Runs (.resultComplete k v o) s t ∧ (t.pcv k).run = some q ∧ q.done = r.done + 1 ∧ q.entry = r.entry ∧
        q.start = r.start ∧ q.ovl = (o.trip || decide (satS 24 x ≠ x)) ∧
        (q.ovl = true → t.rd (Reg.PCV_OVRCNT k) = incSat32 (s.rd (Reg.PCV_OVRCNT k)) 1 ∧
          t.on (Reg.PCV_FLAGS k) (if x < 0 then F.PCV_FLAGS_OVR_NEG else F.PCV_FLAGS_OVR_POS) = true) ∧
        (q.ovl = false → t.rd (Reg.PCV_OVRCNT k) = s.rd (Reg.PCV_OVRCNT k)) ∧
        (0 < r.done → (s.pcv k).resync = false → (s.pcv k).stopped = false → (s.pcv k).stream.length < 256 →
          ∃ u, (t.pcv k).stream = (s.pcv k).stream ++ [u] ∧ u.length = 6 ∧
            (q.ovl = false → r.inv = 0 →
              (noteOnsets o.onsets s).overloaders k (2 * s.tOut k r.word) (s.resultAt k r r.done) = [] →
              fldGet F.PCV_SEQ_OWCUR r.word = 0 →
              u = unitBytes (unsx 24 x / 64) (2 ^ 12 * (unsx 24 x % 64) + 2 ^ 7 * r.entry + 2 ^ 5 * fldGet F.PCV_SEQ_POS r.word +
                2 ^ 4 * b2n r.urg) 0)) ∧
        (0 < r.done → (s.pcv k).resync = false → 256 ≤ (s.pcv k).stream.length → (t.pcv k).stream = (s.pcv k).stream ∧
          (t.pcv k).stopped = true ∧ t.rd (Reg.PCV_LOSTCNT k) = incSat32 (s.rd (Reg.PCV_LOSTCNT k)) 1 ∧
          t.on (Reg.PCV_FLAGS k) F.PCV_FLAGS_RING_LOST = true)) ∧
    (tickBefore s.tick (s.resultAt k r r.done) = true → Runs (.resultComplete k v o) s (noteOnsets o.onsets s))) ∧
  ∀ (drift : Int) (s : State),
    let m := satS 16 ((s.get (Reg.PCV_REF_SPEC 0) F.PCV_REF_SPEC_SPEC : Int) - (satS 16 drift).natAbs)
    ∃ t, Runs (.refDriftUpdate drift) s t ∧ t.rn (Reg.PCV_REF_DRIFT 0) = 2 ^ 16 * unsx 16 m + unsx 16 (satS 16 drift) ∧
      (m < 0 → 0 ≤ sext 16 (s.get (Reg.PCV_REF_DRIFT 0) F.PCV_REF_DRIFT_MARGIN) →
        t.on (Reg.PCV_FLAGS 0) F.PCV_FLAGS_REF_OUT = true) ∧
      KeepsRegs s t [Reg.PCV_REF_DRIFT 0, Reg.PCV_FLAGS 0]

/-! ### Stimulus outputs and timing ports (09_stimulus_and_timing_ports.md) -/

/-- Resting on R229, R230, R231, R240, R252: a START at an ARMED output is counted and placed 41 ns after its acceptance, and the
output plays (its frame is UP: 19_monitoring_and_test.md R483); one that finds it OFF or PRIMING, or PLAYING without RETRIG or a
waveform that can be repeated from the buffer, is counted as dropped. A START_AT far enough ahead is placed at its own instant; a
nearer one as a START, with LATE. Resting on R229, R238, R239, R241, R242: an accepted play begins at its instant, the one before
it abandoned; at its end the output is ARMED where the play can be repeated from the buffer, else it primes again. STOP takes
effect 41 ns after its acceptance: plays placed at or after it are cancelled and the running one ends counted from it; a pending
STOP stands. A word that is due and not delivered is replaced and counted. -/
def Obligations.StimulusPlays : Prop :=
  (∀ (n : Fin 16) (s : State), s.standbyBlocked (Reg.STO_CMD n) = false →
     let c := placeOf (s.now256 : Nat)
     let at' := s.rd64 (Reg.STO_AT_TS_LO n)
     (s.stoState n = 2 ∨ (s.stoState n = 3 ∧ s.on (Reg.STO_CTL n) F.STO_CTL_RETRIG = true ∧ s.rearms n = true) →
       (∃ t, Runs (.stoStart n) s t ∧ t.stoState n = 3 ∧
         (t.sto n).next = (s.sto n).next.filter (fun q => tickBefore q.place c) ++ [⟨c, 0xFE⟩] ∧
         t.rd (Reg.STO_TRIGCNT n) = incSat32 (s.rd (Reg.STO_TRIGCNT n)) 1 ∧ t.rd64 (Reg.STO_LAST_TS_LO n) = c ∧
         t.rn (Reg.STO_LAST_INFO n) = 2 ^ 8 * ((64 - c % 64) % 64) + 0xFE ∧
         (s.stoState n = 3 → t.on (Reg.STO_FLAGS n) F.STO_FLAGS_RESTARTED = true) ∧
         KeepsRegs s t [Reg.STO_TRIGCNT n, Reg.STO_LAST_TS_LO n, Reg.STO_LAST_TS_HI n, Reg.STO_LAST_INFO n, Reg.STO_STATUS n,
           Reg.STO_FLAGS n, Reg.MON_AV_UP_LO (112 + n), Reg.MON_AV_UP_LO (112 + n) + 4]) ∧
       (6718 ≤ tickDiff at' s.tick → ∃ t, Runs (.startAt n) s t ∧ t.stoState n = 3 ∧ t.rd64 (Reg.STO_LAST_TS_LO n) = at' ∧
         (t.sto n).next = (s.sto n).next.filter (fun q => tickBefore q.place at') ++ [⟨at', 0xFD⟩]) ∧
       (tickDiff at' s.tick < 6718 → ∃ t, Runs (.startAt n) s t ∧ t.stoState n = 3 ∧ t.rd64 (Reg.STO_LAST_TS_LO n) = c ∧
         t.on (Reg.STO_FLAGS n) F.STO_FLAGS_LATE = true ∧
         (t.sto n).next = (s.sto n).next.filter (fun q => tickBefore q.place c) ++ [⟨c, 0xFD⟩])) ∧
     (s.stoState n = 0 ∨ s.stoState n = 1 → ∃ t, Runs (.stoStart n) s t ∧ t.sto n = s.sto n ∧
       t.rd (Reg.STO_DROPCNT n) = incSat32 (s.rd (Reg.STO_DROPCNT n)) 1 ∧
       t.on (Reg.STO_FLAGS n) F.STO_FLAGS_NOT_READY = true ∧ KeepsRegs s t [Reg.STO_DROPCNT n, Reg.STO_FLAGS n]) ∧
     (s.stoState n = 3 → (s.on (Reg.STO_CTL n) F.STO_CTL_RETRIG = false ∨ s.rearms n = false) → ∃ t, Runs (.stoStart n) s t ∧ t.sto n = s.sto n ∧
       t.rd (Reg.STO_DROPCNT n) = incSat32 (s.rd (Reg.STO_DROPCNT n)) 1 ∧
       t.on (Reg.STO_FLAGS n) F.STO_FLAGS_RETRIG_DROP = true ∧ KeepsRegs s t [Reg.STO_DROPCNT n, Reg.STO_FLAGS n])) ∧
  (∀ (n : Fin 16) (s : State),
     (∀ p, firstPlay (s.sto n).next = some p →
       (tickBefore s.tick p.place = false → ∃ t, Runs (.playStart n) s t ∧ (t.sto n).cur = some p ∧ (t.sto n).next = (s.sto n).next.erase p ∧
         (t.sto n).stopped = none ∧ t.regs = s.regs) ∧
       (tickBefore s.tick p.place = true → Runs (.playStart n) s s)) ∧
     (∀ p e, (s.sto n).cur = some p → s.playEndAt n p = some e →
       (tickBefore s.tick e = false → (s.sto n).next = [] →
         (s.rearms n = true → ∃ t, Runs (.playEnd n) s t ∧ t.stoState n = 2 ∧ (t.sto n).cur = none ∧ (t.sto n).stopped = none ∧
           KeepsRegs s t [Reg.STO_STATUS n]) ∧
         (s.rearms n = false → ∃ u, Runs (.playEnd n) s (stoReprime n u) ∧ u.stoState n = 1 ∧ (u.sto n).cur = none ∧
           KeepsRegs s u [Reg.STO_STATUS n])) ∧
       (tickBefore s.tick e = true → Runs (.playEnd n) s s)) ∧
     ((s.sto n).cur = none → Runs (.playEnd n) s s) ∧
     (s.standbyBlocked (Reg.STO_CMD n) = false →
       (s.stoState n ≠ 0 → (s.sto n).stopAt = none → ∃ t, Runs (.stoStop n) s t ∧
         t.sto n = { s.sto n with stopAt := some (placeOf (s.now256 : Nat)) } ∧ t.regs = s.regs) ∧
       (s.stoState n = 0 → Runs (.stoStop n) s s) ∧ (∀ st, (s.sto n).stopAt = some st → Runs (.stoStop n) s s)) ∧
     (∀ st, (s.sto n).stopAt = some st →
       (tickBefore s.tick st = false → ∃ t, Runs (.stopTakesEffect n) s t ∧ (t.sto n).stopAt = none ∧
         (∀ q ∈ (t.sto n).next, tickBefore q.place st = true) ∧ t.regs = s.regs ∧
         (∀ p, (s.sto n).cur = some p → (s.sto n).next = [] → (t.sto n).cur = some p ∧ (t.sto n).stopped = some st)) ∧
       (tickBefore s.tick st = true → Runs (.stopTakesEffect n) s s)) ∧
     (∀ j, s.dueMissing n = some j → ∃ t, Runs (.underrun n) s t ∧ (t.sto n).missing = (s.sto n).missing ++ [j] ∧
       t.rd (Reg.STO_UNDERCNT n) = incSat32 (s.rd (Reg.STO_UNDERCNT n)) 1 ∧
       t.on (Reg.STO_FLAGS n) F.STO_FLAGS_UNDERRUN = true) ∧
     (s.dueMissing n = none → Runs (.underrun n) s s))

/-- Resting on R238, R243, R252, R23: a write that no rule refuses and that sets ENABLE leaves the output PRIMING with an empty
buffer, or OFF in device FAULT and in UNCONFIGURED; once the buffer holds what it needs, the output is powered and lock holds, it
is ARMED. One that clears ENABLE leaves it OFF at code 0 with no play. CNTCLR clears the four counts. -/
def Obligations.OutputLifecycle : Prop :=
  ∀ (n : Fin 16) (s : State),
    (∀ v, StoWriteLegal n (v ||| 1#32) s → s.on (Reg.STO_CTL n) F.STO_CTL_ENABLE = false →
      (s.dev = devConfigured → ∃ t, Runs (.stoEnable n v) s t ∧ t.on (Reg.STO_CTL n) F.STO_CTL_ENABLE = true ∧ t.stoState n = 1 ∧
        (t.sto n).prime = [] ∧ (t.sto n).got = 0 ∧ (t.sto n).next = [] ∧ KeepsRegs s t [Reg.STO_CTL n, Reg.STO_STATUS n]) ∧
      (s.dev = devFault ∨ s.dev = devUnconfigured → ∃ t, Runs (.stoEnable n v) s t ∧
        t.on (Reg.STO_CTL n) F.STO_CTL_ENABLE = true ∧ KeepsRegs s t [Reg.STO_CTL n])) ∧
    (∀ v, StoWriteLegal n (v &&& ~~~ 1#32) s → s.standbyBlocked (Reg.STO_CTL n) = false → ∃ t, Runs (.stoDisable n v) s t ∧
      t.on (Reg.STO_CTL n) F.STO_CTL_ENABLE = false ∧ t.stoState n = 0 ∧ (t.sto n).cur = none ∧ (t.sto n).next = [] ∧
      (t.sto n).dac = 0 ∧ KeepsRegs s t [Reg.STO_CTL n, Reg.STO_STATUS n]) ∧
    (s.stoState n = 1 → (s.stoGen n = true ∨ s.primeNeed n ≤ (s.sto n).got) → s.domOn domStim = true → s.dev ≠ devStandby →
      s.timebaseRuns = true → ∃ t, Runs (.primeComplete n) s t ∧ t.stoState n = 2 ∧
        t.sto n = { s.sto n with forced := false } ∧ KeepsRegs s t [Reg.STO_STATUS n]) ∧
    (s.stoState n ≠ 1 → Runs (.primeComplete n) s s) ∧
    (s.stoGen n = false → (s.sto n).got < s.primeNeed n → Runs (.primeComplete n) s s) ∧
    (s.standbyBlocked (Reg.STO_CNTCLR n) = false → ∃ t, Runs (.stoCntclr n) s t ∧
      Cleared s t [Reg.STO_TRIGCNT n, Reg.STO_DROPCNT n, Reg.STO_UNDERCNT n, Reg.STO_SATCNT n])

/-- Resting on R230, R246, R247, R253: FIRE places a train on an OUTPUT, its first edge DELAY after the placement instant, cutting
the train that runs when RETRIG = 1; without RETRIG a port in TRAIN drops and counts it, and any other port ignores it. FIRE_AT
places it at its own instant, or, too near, as FIRE with LATE. (No STOP accepted before lies after it.) STOP cuts every train at
41 ns after its acceptance. An edge of the train that is due drives the ball and is counted, the port IDLE after the last. Resting
on R245, R248, R250, R253, R23: an edge at the ball of an input, 64 ticks or more after the one before it, is stamped: counted,
EDGE set, kept in the FIFO while it holds fewer than 64 edges, and passed on; a nearer one only sets GLITCH. A port that is OFF
shows the ball's level and stamps nothing; an output takes no edge from outside. A read of FIFO_INFO removes the oldest edge, and
the FIFO registers show the next. CNTCLR clears the four counts. -/
def Obligations.TimingPorts : Prop :=
  (∀ (p : Fin 16) (s : State),
     let c := placeOf (s.now256 : Nat)
     let at' := s.rd64 (Reg.TPT_AT_TS_LO p)
     let train (place : Nat) : Train :=
       { e0 := (place + s.rn (Reg.TPT_DELAY p)) % 2 ^ 64, width := s.rn (Reg.TPT_WIDTH p), period := s.rn (Reg.TPT_PERIOD p),
         count := s.get (Reg.TPT_COUNT p) F.TPT_COUNT_COUNT }
     let placed (place : Nat) : List Train :=
       (s.tpt p).trains.filter (fun x => tickBefore x.e0 (train place).e0 || x.active || x.held) ++ [train place]
     (s.tptMode p = 2 → (s.tptState p ≠ 2 ∨ s.on (Reg.TPT_CTL p) F.TPT_CTL_RETRIG = true) →
       (∀ d, (s.tpt p).stopAt = some d → tickBefore c d = false ∧ tickBefore at' d = false) →
       (∃ t, Runs (.fire p) s t ∧ t.tptState p = 2 ∧ KeepsRegs s t [Reg.TPT_STATUS p] ∧ (t.tpt p).trains = placed c) ∧
       (6718 ≤ tickDiff at' s.tick → tickDiff at' s.tick < 2 ^ 62 → ∃ t, Runs (.fireAt p) s t ∧ t.tptState p = 2 ∧
         KeepsRegs s t [Reg.TPT_STATUS p] ∧ (t.tpt p).trains = placed at') ∧
       (tickDiff at' s.tick < 6718 → ∃ t, Runs (.fireAt p) s t ∧ t.tptState p = 2 ∧
         t.on (Reg.TPT_FLAGS p) F.TPT_FLAGS_LATE = true ∧ (t.tpt p).trains = placed c)) ∧
     (s.tptMode p = 2 → s.tptState p = 2 → s.on (Reg.TPT_CTL p) F.TPT_CTL_RETRIG = false → ∃ t, Runs (.fire p) s t ∧
       t.tpt p = s.tpt p ∧ t.rd (Reg.TPT_DROPCNT p) = incSat32 (s.rd (Reg.TPT_DROPCNT p)) 1 ∧
       t.on (Reg.TPT_FLAGS p) F.TPT_FLAGS_RETRIG_DROP = true ∧ KeepsRegs s t [Reg.TPT_DROPCNT p, Reg.TPT_FLAGS p]) ∧
     (s.tptMode p ≠ 2 → Runs (.fire p) s s ∧ Runs (.fireAt p) s s) ∧
     (∃ t, Runs (.tptStop p) s t ∧ (∀ x ∈ (t.tpt p).trains, ∃ d, x.cut = some d ∧ (d = c ∨ tickBefore d c = true)) ∧
       KeepsRegs s t [Reg.TPT_STATUS p] ∧
       ((∀ x ∈ (s.tpt p).trains, tickBefore x.e0 c = false ∧ x.active = false ∧ x.held = false) → (t.tpt p).trains = [] ∧
         (s.tptState p = 2 → t.tptState p = 1))) ∧
     (∀ x rest e, (s.tpt p).trains = x :: rest → x.nextEdge = some e → x.held = false →
       (∀ y ∈ rest.head?, tickBefore e y.e0 = true) → s.on (Reg.TPT_CTL p) F.TPT_CTL_FRAME = false →
       (tickBefore s.tick e = false → x.active = false → ∃ u, Runs (.trainEdge p) s (truEdge ⟨p, e, true, none⟩ false u) ∧
         (u.tpt p).trains = { x with active := true } :: rest ∧
         u.get (Reg.TPT_STATUS p) F.TPT_STATUS_LEVEL = b2n (!s.tptIdle p) ∧
         u.rd (Reg.TPT_EDGECNT p) = incSat32 (s.rd (Reg.TPT_EDGECNT p)) 1) ∧
       (tickBefore s.tick e = false → x.active = true → ∃ u, Runs (.trainEdge p) s (truEdge ⟨p, e, false, none⟩ false u) ∧
         u.get (Reg.TPT_STATUS p) F.TPT_STATUS_LEVEL = b2n (s.tptIdle p) ∧
         u.rd (Reg.TPT_EDGECNT p) = incSat32 (s.rd (Reg.TPT_EDGECNT p)) 1 ∧
         (rest = [] → x.count = x.i + 1 → (u.tpt p).trains = [] ∧ u.tptState p = 1)) ∧
       (tickBefore s.tick e = true → Runs (.trainEdge p) s s))) ∧
  (∀ (p : Fin 16) (s : State),
     (∀ (back : Fin 128) (rise : Bool), s.tptMode p = 1 → s.timebaseRuns = true → s.dev ≠ devStandby →
       let up := rise != s.on (Reg.TPT_CTL p) F.TPT_CTL_INV
       let ts := (s.tick + 2 ^ 64 - back) % 2 ^ 64
       ((∀ l, (s.tpt p).lastBall = some l → 64 ≤ tickDiff ts l) → s.on (Reg.TPT_CTL p) F.TPT_CTL_LOG_EN = false →
         s.on (Reg.TPT_CTL p) F.TPT_CTL_FRAME = false → (s.tpt p).fifo.length < 64 →
         ∃ u, Runs (.tpEdge p back rise) s (spreadEdge ⟨p, ts, up, none⟩ u) ∧
           (u.tpt p).fifo = (s.tpt p).fifo ++ [⟨ts, up, 0⟩] ∧
           u.rd (Reg.TPT_EDGECNT p) = incSat32 (s.rd (Reg.TPT_EDGECNT p)) 1 ∧
           u.on (Reg.TPT_FLAGS p) F.TPT_FLAGS_EDGE = true ∧ (u.tpt p).lastBall = some ts) ∧
       (∀ l, (s.tpt p).lastBall = some l → tickDiff ts l < 64 → ∃ t, Runs (.tpEdge p back rise) s t ∧
         t.on (Reg.TPT_FLAGS p) F.TPT_FLAGS_GLITCH = true ∧ (t.tpt p).fifo = (s.tpt p).fifo ∧
         t.rd (Reg.TPT_EDGECNT p) = s.rd (Reg.TPT_EDGECNT p) ∧ (t.tpt p).lastBall = some ts)) ∧
     (∀ (back : Fin 128) (rise : Bool),
       (s.tptMode p = 2 → Runs (.tpEdge p back rise) s s) ∧
       (s.tptMode p ≠ 1 → s.tptMode p ≠ 2 → ∃ t, Runs (.tpEdge p back rise) s t ∧
         t.get (Reg.TPT_STATUS p) F.TPT_STATUS_LEVEL = b2n rise ∧ (t.tpt p).fifo = (s.tpt p).fifo ∧
         KeepsRegs s t [Reg.TPT_STATUS p])) ∧
     (∃ t, Runs (.fifoInfoRead p) s t ∧ (t.tpt p).fifo = (s.tpt p).fifo.drop 1 ∧
       KeepsRegs s t [Reg.TPT_FIFO_TS_LO p, Reg.TPT_FIFO_TS_HI p, Reg.TPT_FIFO_INFO p] ∧
       ((s.tpt p).fifo.length ≤ 1 → t.rn (Reg.TPT_FIFO_INFO p) = 0) ∧
       (∀ x y rest, (s.tpt p).fifo = x :: y :: rest → y.ts < 2 ^ 64 → t.rd64 (Reg.TPT_FIFO_TS_LO p) = y.ts)) ∧
     (∃ t, Runs (.tptCntclr p) s t ∧
       Cleared s t [Reg.TPT_EDGECNT p, Reg.TPT_LOSTCNT p, Reg.TPT_LATECNT p, Reg.TPT_DROPCNT p]))

/-! ### Clock synthesis (10_clock_synthesis.md) -/

/-- Resting on R261, R262, R265, R268, R270: a declared loss of SPLL lock, its onset at most 16 reference cycles back, is stamped,
counted and flagged before its effects; in STANDBY LOCKED clears and RELOCKING sets and nothing is stamped, counted or flagged.
Where the loop is not locked, or the onset would lie further back, there is no loss to declare. -/
def Obligations.SampleClockLoss : Prop :=
  ∀ (back : BitVec 24) (lost : Bool) (s : State),
    (s.on Reg.CKS_STATUS F.CKS_STATUS_LOCKED = true → back.toNat ≤ 16 * s.refPeriod →
      (s.dev ≠ devStandby → ∃ u, Runs (.spllLoss back lost) s (fallBack (spllDrop false u)) ∧
        u.rd64 Reg.CKS_LOSS_TS_LO = (s.tick + 2 ^ 64 - back.toNat) % 2 ^ 64 ∧
        u.rd Reg.CKS_LOSSCNT = incSat32 (s.rd Reg.CKS_LOSSCNT) 1 ∧ u.on Reg.CKS_FLAGS F.CKS_FLAGS_SPLL_LOSS = true ∧
        (lost = true → u.on Reg.CKS_FLAGS F.CKS_FLAGS_REF_LOST = true) ∧ u.tick = s.tick ∧ ∀ g, u.gst g = s.gst g) ∧
      (s.dev = devStandby → ∃ t, Runs (.spllLoss back lost) s t ∧ t.on Reg.CKS_STATUS F.CKS_STATUS_LOCKED = false ∧
        t.on Reg.CKS_STATUS F.CKS_STATUS_RELOCKING = true ∧ t.clk.lossRt = s.rt ∧
        t.rd Reg.CKS_LOSSCNT = s.rd Reg.CKS_LOSSCNT ∧ t.rd64 Reg.CKS_LOSS_TS_LO = s.rd64 Reg.CKS_LOSS_TS_LO ∧
        t.rd Reg.CKS_FLAGS = s.rd Reg.CKS_FLAGS)) ∧
    (s.on Reg.CKS_STATUS F.CKS_STATUS_LOCKED = false → Runs (.spllLoss back lost) s s) ∧
    (16 * s.refPeriod < back.toNat → Runs (.spllLoss back lost) s s)

/-- Resting on R262, R264, R265, R267, R270, R274: the counter freezes at the frame boundary after the loss, once the frame that
ends there is handed over; the boundary is stamped, and the nine outputs are held. Lock is declared after 4,096 cycles of a
reference at the frequency that REFSEL names; 256 cycles later the outputs run again, from tick 0 after a reset, else in the next
epoch. RELOCK_TIMEOUT sets once, 10 ms after the loss, but not in STANDBY. The host-link PLL's holdover shows as long as it lasts. -/
def Obligations.SampleClockStates : Prop :=
  ∀ s : State,
    (∀ d conv, s.clk.lossD = some d →
      (tickBefore s.tick (nextBoundary d) = false →
        (tickBefore s.lastFrame (nextBoundary d) = false ∨ (s.lastFrame + 1024) % 2 ^ 64 = nextBoundary d →
          ∃ u, Runs (.timebaseFreeze conv) s (drainEnds u) ∧ u.rd64 Reg.CKS_FREEZE_TS_LO = nextBoundary d ∧
            u.on Reg.CKS_STATUS F.CKS_STATUS_FROZEN = true ∧ u.on Reg.CKS_STATUS F.CKS_STATUS_GATED = true ∧ u.clk.lossD = none ∧
            ∀ o < 9, u.on (Reg.CKS_OUT o) F.CKS_OUT_GATED = true) ∧
        (tickBefore s.lastFrame (nextBoundary d) = true → (s.lastFrame + 1024) % 2 ^ 64 ≠ nextBoundary d →
          Runs (.timebaseFreeze conv) s s)) ∧
      (tickBefore s.tick (nextBoundary d) = true → Runs (.timebaseFreeze conv) s s)) ∧
    (∀ conv, s.clk.lossD = none → Runs (.timebaseFreeze conv) s s) ∧
    (s.on Reg.CKS_STATUS F.CKS_STATUS_LOCKED = false → 3 ≤ s.get Reg.DEV_BOOT_STAT F.DEV_BOOT_STAT_STAGE →
      s.get Reg.DEV_BOOT_STAT F.DEV_BOOT_STAT_STAGE ≠ 0xFF → (s.clk.released = true → s.lossGated = true) → s.refOff = false →
      s.refMissing = false → s.clk.runRt + 4096 * s.refPeriod ≤ s.rt →
      ∃ t, Runs .spllLock s t ∧ t.on Reg.CKS_STATUS F.CKS_STATUS_LOCKED = true ∧ t.clk.lockRt = s.rt ∧ t.tick = s.tick ∧
        (s.on Reg.CKS_STATUS F.CKS_STATUS_ACTIVE_SRC = false → t.on Reg.CKS_STATUS F.CKS_STATUS_REF_OK = true)) ∧
    (s.on Reg.CKS_STATUS F.CKS_STATUS_LOCKED = true → Runs .spllLock s s) ∧ (s.refOff = true → Runs .spllLock s s) ∧
    (s.refMissing = true → Runs .spllLock s s) ∧ (s.rt < s.clk.runRt + 4096 * s.refPeriod → Runs .spllLock s s) ∧
    (s.on Reg.CKS_STATUS F.CKS_STATUS_LOCKED = true → s.clk.lockRt + 256 * s.refPeriod ≤ s.rt →
      (s.clk.released = false ∨ s.lossGated = true → ∃ t, Runs .spllRelease s t ∧
        t.on Reg.CKS_STATUS F.CKS_STATUS_GATED = false ∧ t.on Reg.CKS_STATUS F.CKS_STATUS_FROZEN = false ∧
        t.on Reg.CKS_STATUS F.CKS_STATUS_RELOCKING = false ∧ (∀ o < 9, t.on (Reg.CKS_OUT o) F.CKS_OUT_GATED = false) ∧
        (s.clk.released = false → t.tick = 0 ∧ t.lastFrame = 0 ∧ t.clk.released = true) ∧
        (s.clk.released = true → t.rn Reg.CKS_EPOCH = (s.rn Reg.CKS_EPOCH + 1) % 2 ^ 32 ∧ t.tick = s.tick ∧
          t.rn Reg.CKS_FREEZE_US = min 0xFFFFFFFF ((s.rt - s.clk.freezeRt) / 16384))) ∧
      (s.clk.released = true → s.lossGated = false → Runs .spllRelease s s)) ∧
    (s.on Reg.CKS_STATUS F.CKS_STATUS_LOCKED = false → Runs .spllRelease s s) ∧
    (s.rt < s.clk.lockRt + 256 * s.refPeriod → Runs .spllRelease s s) ∧
    (s.dev ≠ devStandby → s.on Reg.CKS_STATUS F.CKS_STATUS_LOCKED = false → s.on Reg.CKS_STATUS F.CKS_STATUS_RELOCKING = true →
      s.clk.timedOut = false → s.clk.lossRt + 10000 * tickUs ≤ s.rt →
      ∃ t, Runs .relockTimeout s t ∧ t.clk.timedOut = true ∧ t.on Reg.CKS_FLAGS F.CKS_FLAGS_RELOCK_TIMEOUT = true ∧
        KeepsRegs s t [Reg.CKS_FLAGS]) ∧
    (s.dev = devStandby ∨ s.on Reg.CKS_STATUS F.CKS_STATUS_LOCKED = true ∨ s.on Reg.CKS_STATUS F.CKS_STATUS_RELOCKING = false ∨
      s.clk.timedOut = true ∨ s.rt < s.clk.lossRt + 10000 * tickUs → Runs .relockTimeout s s) ∧
    (s.on Reg.CKS_STATUS F.CKS_STATUS_HL_HOLDOVER = false → (∃ t, Runs .hlHoldover s t ∧ KeepsMem s t ∧
      t.on Reg.CKS_STATUS F.CKS_STATUS_HL_HOLDOVER = true ∧ t.on Reg.CKS_STATUS F.CKS_STATUS_REF_OK = false ∧
      t.on Reg.CKS_FLAGS F.CKS_FLAGS_HL_HOLDOVER = true ∧ KeepsRegs s t [Reg.CKS_STATUS, Reg.CKS_FLAGS]) ∧ Runs .hlRelock s s) ∧
    (s.on Reg.CKS_STATUS F.CKS_STATUS_HL_HOLDOVER = true → (∃ t, Runs .hlRelock s t ∧ KeepsMem s t ∧
      t.on Reg.CKS_STATUS F.CKS_STATUS_HL_HOLDOVER = false ∧
      t.on Reg.CKS_STATUS F.CKS_STATUS_REF_OK = (s.clk.hlRef == s.get Reg.CKS_REF_CTL F.CKS_REF_CTL_REFSEL) ∧
      KeepsRegs s t [Reg.CKS_STATUS]) ∧ Runs .hlHoldover s s)

/-- Resting on R268, R269, R271, R399: RELOCK, and a write of CKS_REF_CTL that moves SRC or REFSEL, are gated while a group runs;
else each relocks the loop to the source that SRC names, or to REFCLK where FALLBACK = 1 and there is no chain reference, as does
the one move to the chain after a reset of the block, when it is due. A write that moves neither takes its fields. -/
def Obligations.CommandedRelocks : Prop :=
  ∀ s : State,
    (∃ u, commandedRelock s = fallBack u ∧ u.get Reg.CKS_STATUS F.CKS_STATUS_ACTIVE_SRC = s.get Reg.CKS_REF_CTL F.CKS_REF_CTL_SRC) ∧
    (s.dev = devStandby → (commandedRelock s).on Reg.CKS_STATUS F.CKS_STATUS_LOCKED = false ∧
      (commandedRelock s).on Reg.CKS_STATUS F.CKS_STATUS_RELOCKING = true ∧
      (commandedRelock s).get Reg.CKS_STATUS F.CKS_STATUS_ACTIVE_SRC =
        (if s.on Reg.CKS_REF_CTL F.CKS_REF_CTL_FALLBACK = true ∧ s.on Reg.CKS_STATUS F.CKS_STATUS_CHREF_OK = false then 0
         else s.get Reg.CKS_REF_CTL F.CKS_REF_CTL_SRC) ∧
      (commandedRelock s).rd Reg.CKS_LOSSCNT = s.rd Reg.CKS_LOSSCNT ∧ (commandedRelock s).rd Reg.CKS_FLAGS = s.rd Reg.CKS_FLAGS) ∧
    (s.anyRunning = false → Runs .relock s (commandedRelock s)) ∧
    (s.anyRunning = true → ∃ t, Runs .relock s t ∧ Reported s t F.HLK_ERR_GATED Reg.HLK_GATED_ADDR Reg.CKS_CMD) ∧
    (∀ v, refMoves v s = false → ∃ t, Runs (.refCtlWrite v) s t ∧
      t.on Reg.CKS_REF_CTL F.CKS_REF_CTL_FALLBACK = (fldGet F.CKS_REF_CTL_FALLBACK v == 1) ∧ t.clk.chainMoved = true ∧
      t.tick = s.tick ∧ KeepsRegs s t [Reg.CKS_REF_CTL, Reg.CKS_STATUS]) ∧
    (∀ v, refMoves v s = true → s.anyRunning = false → ∃ u, Runs (.refCtlWrite v) s (commandedRelock u) ∧
      u.get Reg.CKS_REF_CTL F.CKS_REF_CTL_SRC = fldGet F.CKS_REF_CTL_SRC v ∧
      u.get Reg.CKS_REF_CTL F.CKS_REF_CTL_REFSEL = fldGet F.CKS_REF_CTL_REFSEL v ∧
      KeepsRegs s u [Reg.CKS_REF_CTL, Reg.CKS_STATUS]) ∧
    (∀ v, refMoves v s = true → s.anyRunning = true → ∃ t, Runs (.refCtlWrite v) s t ∧
      Reported s t F.HLK_ERR_GATED Reg.HLK_GATED_ADDR Reg.CKS_REF_CTL) ∧
    (s.clk.chainMoved = false → s.clk.released = true → s.on Reg.CKS_REF_CTL F.CKS_REF_CTL_SRC = true →
      s.on Reg.CKS_STATUS F.CKS_STATUS_CHREF_OK = true → s.anyRunning = false →
      Runs .chainReferenceMove s (commandedRelock s)) ∧
    (s.clk.chainMoved = true → Runs .chainReferenceMove s s) ∧ (s.anyRunning = true → Runs .chainReferenceMove s s)

/-- Resting on R258, R259, R262, R264, R272, R273: a loop that loses lock counts it and goes to HOLDOVER, and its channel with its
rows refreshed by itself; 2 µs later it relocks to the reference it may take; after 1,024 reference cycles declared lock holds its
clock, and 6.4 µs later it is LOCKED and its channel retrains (or, never READY before, initialises: the model's reading, log 137);
past its budget it fails its channel. A write of MDLL_CTL with an illegal rate is refused; an accepted change of a running loop's
rate or reference relocks it. MREF_RETURN takes the first LOCKED loop on the HKO to HOLDOVER, and goes on from there; one already
under way takes in every channel again (the model's reading, log 139). -/
def Obligations.MemoryLoops : Prop :=
  ∀ (m : Fin 8) (s : State),
    (s.mdllState m = 2 ∨ s.mdllState m = 3 → ∃ t, Runs (.mdllLoss m) s t ∧ t.mdllState m = 4 ∧
      t.on Reg.CKS_FLAGS F.CKS_FLAGS_MDLL_LOSS = true ∧
      t.get (Reg.CKS_MDLL_STAT m) F.CKS_MDLL_STAT_LOSSCNT = incSatN 8 (s.get (Reg.CKS_MDLL_STAT m) F.CKS_MDLL_STAT_LOSSCNT) 1 ∧
      (t.mdll m).since = s.rt ∧ (t.mdll m).budget = s.rt ∧
      (s.phase m = phReady → t.phase m = phSr ∧ (t.mch m).srCause = 4 ∧
        t.rd (Reg.MCH_SR_CNT m) = incSat32 (s.rd (Reg.MCH_SR_CNT m)) 1)) ∧
    (s.mdllState m ≠ 2 → s.mdllState m ≠ 3 → Runs (.mdllLoss m) s s) ∧
    (∀ hko, s.mdllState m = 4 → s.relockRef m = some hko → (s.mdll m).since + 2 * tickUs ≤ s.rt →
      ∃ t, Runs (.mdllHoldoverEnd m) s t ∧ t.mdllState m = 1 ∧ (t.mdll m).hko = hko ∧ (t.mdll m).since = s.rt ∧
        KeepsRegs s t [Reg.CKS_MDLL_STAT m]) ∧
    (s.mdllState m ≠ 4 ∨ s.relockRef m = none ∨ s.rt < (s.mdll m).since + 2 * tickUs → Runs (.mdllHoldoverEnd m) s s) ∧
    (s.mdllState m = 1 → ((s.mdll m).hko = true ∨ s.mrefGood = true) → (s.mdll m).since + 1024 * 4096 ≤ s.rt →
      ∃ t, Runs (.mdllLock m) s t ∧ t.mdllState m = 2 ∧
        t.on (Reg.CKS_MDLL_STAT m) F.CKS_MDLL_STAT_ON_HKO = (s.mdll m).hko ∧ (t.mdll m).since = s.rt ∧
        KeepsRegs s t [Reg.CKS_MDLL_STAT m]) ∧
    (s.mdllState m ≠ 1 ∨ ((s.mdll m).hko = false ∧ s.mrefGood = false) ∨ s.rt < (s.mdll m).since + 1024 * 4096 → Runs (.mdllLock m) s s) ∧
    (s.mdllState m = 2 →
      ((s.mdll m).since + 1048576 ≤ s.rt →
        ((s.mch m).wasReady = true ∨ s.phase m ≠ phSr → ∃ t, Runs (.mdllRelease m) s t ∧ t.mdllState m = 3 ∧
          ((s.mdll m).plain = false → s.phase m = phSr → (s.mch m).srCause = 4 → t.phase m = phRetrain)) ∧
        ((s.mch m).wasReady = false → (s.mdll m).plain = false → s.phase m = phSr → (s.mch m).srCause = 4 →
          ∃ u, Runs (.mdllRelease m) s (startInit m u) ∧ u.mdllState m = 3 ∧ KeepsRegs s u [Reg.CKS_MDLL_STAT m])) ∧
      (s.rt < (s.mdll m).since + 1048576 → Runs (.mdllRelease m) s s)) ∧
    (s.mdllLate m = true → ∃ u, Runs (.mdllFail m) s (mrefDone (channelFault m 4 u)) ∧
      u.on Reg.CKS_FLAGS F.CKS_FLAGS_MDLL_FAIL = true ∧ u.phase m = s.phase m) ∧
    (s.mdllLate m = false → Runs (.mdllFail m) s s) ∧
    (∀ v, legalMult (fldGet F.CKS_MDLL_CTL_MULT v) = false → ∃ t, Runs (.mdllCtlWrite m v) s t ∧
      Reported s t F.HLK_ERR_REFUSED Reg.HLK_REFUSED_ADDR (Reg.CKS_MDLL_CTL m)) ∧
    (∀ v, MdllWriteLegal m v s → ∃ t, Runs (.mdllCtlWrite m v) s t ∧
      t.get (Reg.CKS_MDLL_CTL m) F.CKS_MDLL_CTL_MULT = fldGet F.CKS_MDLL_CTL_MULT v ∧
      t.get (Reg.CKS_MDLL_CTL m) F.CKS_MDLL_CTL_MREF = fldGet F.CKS_MDLL_CTL_MREF v ∧
      (fldGet F.CKS_MDLL_CTL_MULT v ≠ s.get (Reg.CKS_MDLL_CTL m) F.CKS_MDLL_CTL_MULT → s.mdllState m ≠ 0 → t.mdllState m = 1)) ∧
    (s.on Reg.CKS_STATUS F.CKS_STATUS_LOCKED = true → s.mrefBusy = false →
      let takes (k : Nat) : Prop := s.mdllState k = 3 ∧ s.on (Reg.CKS_MDLL_STAT k) F.CKS_MDLL_STAT_ON_HKO = true ∧
        s.get (Reg.CKS_MDLL_CTL k) F.CKS_MDLL_CTL_MREF ≠ 2
      (takes m → (∀ k < m.val, ¬ takes k) → ∃ t, Runs .mrefReturn s t ∧ t.mdllState m = 4 ∧ (t.mdll m).toMref = true ∧
        t.clk.mrefQ = (List.range 8).drop m) ∧
      (s.anyOnHko = true → (∀ k < 8, ¬ takes k) → ∃ t, Runs .mrefReturn s t ∧ t.regs = s.regs ∧ t.clk.mrefQ = [])) ∧
    (s.on Reg.CKS_STATUS F.CKS_STATUS_LOCKED = true → s.mrefBusy = true → s.anyOnHko = true → ∃ t, Runs .mrefReturn s t ∧
      t.regs = s.regs ∧ t.clk.mrefQ.head? = s.clk.mrefQ.head?) ∧
    (s.on Reg.CKS_STATUS F.CKS_STATUS_LOCKED = false → Runs .mrefReturn s s) ∧ (s.anyOnHko = false → Runs .mrefReturn s s)

/-! ### Acquisition memory (11_acquisition_memory.md) -/

/-- Resting on R277, R281, R282: INIT starts phase 1; it is refused while the channel initialises or retrains, or a group runs.
Each SPD read is recorded; when every channel in phase 1 has its own, the largest run of matching channels from channel 0 goes on
to phase 2, and of the others an empty or matching one is OFF and any other FAULT; a failed read fails its channel. Resting on
R281, R282, R284, R294, R297, R298, R300, R302, R303: phases 2 to 5 follow each other, 6 leaves the eye's width and leads to
zeroing where asked, 7 ends READY, and a failed phase fails the channel, as too narrow an eye after a retrain does. SR_ENTER, or
idleness where enabled, decides on self-refresh of a READY channel; SR_EXIT leaves it; both are refused while a group runs. A
parity alert whose replay succeeds counts both; the third failing replay fails the channel. -/
def Obligations.MemoryChannels : Prop :=
  (∀ (m : Fin 8) (s : State),
     (s.initRefused m = false → s.standbyBlocked (Reg.MCH_CMD m) = false → ∃ t, Runs (.mchInit m) s t ∧ t.phase m = 1 ∧
       (t.mch m).wq = [] ∧ (t.mch m).rq = [] ∧ (t.mch m).wasReady = false ∧ KeepsRegs s t [Reg.MCH_STATUS m]) ∧
     (s.initRefused m = true → ∃ t, Runs (.mchInit m) s t ∧ Reported s t F.HLK_ERR_STATE Reg.HLK_REFUSED_ADDR (Reg.MCH_CMD m)) ∧
     (∀ (spd : Spd) (rd wr : BitVec 8), s.phase m = 1 → (s.mch m).spdDone = false →
       ∃ u, Runs (.trainingPhaseEnd m true spd rd wr) s (checkPop u) ∧ (u.mch m).spdDone = true ∧
         u.get (Reg.MCH_STATUS m) F.MCH_STATUS_DIMMS = min 2 spd.dimms ∧ RegsOnly { s with mchs := u.mchs } u ∧
         KeepsRegs s u [Reg.MCH_STATUS m]) ∧
     (∀ (spd : Spd) (rd wr : BitVec 8), s.phase m = 1 →
       ((s.mch m).spdDone = true → Runs (.trainingPhaseEnd m true spd rd wr) s s) ∧
       ∃ u, Runs (.trainingPhaseEnd m false spd rd wr) s (checkPop (channelFault m 1 u)) ∧
         u.on (Reg.MCH_FLAGS m) F.MCH_FLAGS_TRAIN_FAIL = true) ∧
     ((∀ k < 8, s.phase k = 1 → (s.mch k).spdDone = true) → s.phase m = 1 →
       (checkPop s).phase m = (if m.val < s.runLen then 2 else if (s.popOf m).1 = 0 ∨ s.popMatch m = true then phOff else phFault)) ∧
     ((∃ k < 8, s.phase k = 1 ∧ (s.mch k).spdDone = false) → checkPop s = s)) ∧
  (∀ (m : Fin 8) (s : State),
     (s.anyRunning = false → s.standbyBlocked (Reg.MCH_CMD m) = false →
       (s.phase m = phReady → ∃ t, Runs (.srEnter m) s t ∧ t.mch m = { s.mch m with srEntry := 2 } ∧ t.regs = s.regs) ∧
       (s.phase m ≠ phReady → Runs (.srEnter m) s s) ∧
       (s.phase m = phSr → ((s.mch m).srCause = 1 ∨ (s.mch m).srCause = 2) → ∃ t, Runs (.srExit m) s t ∧
         t.phase m = phReady ∧ (t.mch m).srCause = 0 ∧ KeepsRegs s t [Reg.MCH_STATUS m]) ∧
       (s.phase m ≠ phSr → Runs (.srExit m) s s)) ∧
     (s.anyRunning = true → (∃ t, Runs (.srEnter m) s t ∧ Reported s t F.HLK_ERR_STATE Reg.HLK_REFUSED_ADDR (Reg.MCH_CMD m)) ∧
       ∃ t, Runs (.srExit m) s t ∧ Reported s t F.HLK_ERR_STATE Reg.HLK_REFUSED_ADDR (Reg.MCH_CMD m)) ∧
     (s.srIdleDue m = true → ∃ t, Runs (.srIdleExpiry m) s t ∧ t.mch m = { s.mch m with srEntry := 1 } ∧ t.regs = s.regs) ∧
     (s.srIdleDue m = false → Runs (.srIdleExpiry m) s s) ∧
     (∀ (spd : Spd) (rd wr : BitVec 8),
       (2 ≤ s.phase m → s.phase m ≤ 5 → ∃ t, Runs (.trainingPhaseEnd m true spd rd wr) s t ∧ t.phase m = s.phase m + 1 ∧
         RegsOnly s t ∧ KeepsRegs s t [Reg.MCH_STATUS m]) ∧
       (s.phase m = 6 → s.get (Reg.MCH_EYE_MIN m) F.MCH_EYE_MIN_MIN ≤ min rd.toNat wr.toNat → ∃ t,
         Runs (.trainingPhaseEnd m true spd rd wr) s t ∧ t.rn (Reg.MCH_EYE m) = 256 * wr.toNat + rd.toNat ∧
         t.phase m = (if s.on (Reg.MCH_CTL m) F.MCH_CTL_ZERO_INIT then 7 else phReady)) ∧
       (s.phase m = 6 → min rd.toNat wr.toNat < s.get (Reg.MCH_EYE_MIN m) F.MCH_EYE_MIN_MIN → ∃ u,
         Runs (.trainingPhaseEnd m true spd rd wr) s (channelFault m 1 u) ∧ u.rn (Reg.MCH_EYE m) = 256 * wr.toNat + rd.toNat ∧
         u.on (Reg.MCH_FLAGS m) F.MCH_FLAGS_TRAIN_FAIL = true) ∧
       (s.phase m = 7 → ∃ t, Runs (.trainingPhaseEnd m true spd rd wr) s t ∧ t.phase m = phReady ∧ (t.mch m).wasReady = true ∧
         lookupD (fun _ => 0) t.mem.fill m = 0 ∧ ∀ c ∈ t.mem.cells, s.chanOf c.1 ≠ m) ∧
       (2 ≤ s.phase m → s.phase m ≤ 7 → ∃ u, Runs (.trainingPhaseEnd m false spd rd wr) s (channelFault m 1 u) ∧
         u.on (Reg.MCH_FLAGS m) F.MCH_FLAGS_TRAIN_FAIL = true ∧ RegsOnly s u ∧ KeepsRegs s u [Reg.MCH_FLAGS m]) ∧
       (7 < s.phase m ∨ s.phase m = phOff → ∀ ok, Runs (.trainingPhaseEnd m ok spd rd wr) s s)) ∧
     (∀ rd wr : BitVec 8,
       (s.phase m = phRetrain → s.clk.mrefQ = [] → s.get (Reg.MCH_EYE_MIN m) F.MCH_EYE_MIN_MIN ≤ min rd.toNat wr.toNat →
         ∃ t, Runs (.reducedRetrainEnd m rd wr) s t ∧ t.phase m = phReady ∧
           t.rn (Reg.MCH_EYE m) = 256 * wr.toNat + rd.toNat ∧ KeepsRegs s t [Reg.MCH_STATUS m, Reg.MCH_EYE m, Reg.MCH_FLAGS m]) ∧
       (s.phase m = phRetrain → min rd.toNat wr.toNat < s.get (Reg.MCH_EYE_MIN m) F.MCH_EYE_MIN_MIN →
         ∃ u, Runs (.reducedRetrainEnd m rd wr) s (mrefDone (channelFault m 2 u)) ∧
           u.on (Reg.MCH_FLAGS m) F.MCH_FLAGS_TRAIN_FAIL = true) ∧
       (s.phase m ≠ phRetrain → Runs (.reducedRetrainEnd m rd wr) s s)) ∧
     (s.phase m ≠ phOff → s.phase m ≠ phFault → s.mon.capar = none →
       let c := s.rd (Reg.MCH_CAPAR_CNT m)
       (∃ t, Runs (.caParityAlert m false) s t ∧ (t.mch m).replays = 0 ∧ KeepsRegs s t [Reg.MCH_CAPAR_CNT m] ∧
         t.get (Reg.MCH_CAPAR_CNT m) F.MCH_CAPAR_CNT_REPLAYS = incSatN 16 (fldGet F.MCH_CAPAR_CNT_REPLAYS c) 1 ∧
         t.get (Reg.MCH_CAPAR_CNT m) F.MCH_CAPAR_CNT_RECOVERED = incSatN 16 (fldGet F.MCH_CAPAR_CNT_RECOVERED c) 1) ∧
       ((s.mch m).replays < 2 → ∃ t, Runs (.caParityAlert m true) s t ∧ (t.mch m).replays = (s.mch m).replays + 1 ∧
         KeepsRegs s t [Reg.MCH_CAPAR_CNT m] ∧
         t.get (Reg.MCH_CAPAR_CNT m) F.MCH_CAPAR_CNT_REPLAYS = incSatN 16 (fldGet F.MCH_CAPAR_CNT_REPLAYS c) 1) ∧
       (2 ≤ (s.mch m).replays → ∃ u, Runs (.caParityAlert m true) s (channelFault m 3 u) ∧
         u.on (Reg.MCH_FLAGS m) F.MCH_FLAGS_CAPAR_FAIL = true ∧ KeepsRegs s u [Reg.MCH_CAPAR_CNT m, Reg.MCH_FLAGS m])) ∧
     (s.phase m = phOff ∨ s.phase m = phFault → ∀ again, Runs (.caParityAlert m again) s s))

/-- Resting on R285, R289, R291, R296, R299, R300: a request past the installed capacity, or one that a throttle holds back, asks
nothing of a channel. Any other is accepted: a write is stored at once, or waits in its channel's queue, as it does where the
channel sleeps, every other byte as before; a read answers the stored bytes, or waits where an older write meets its lines. A
poisoned line is reported and its read marked; a failed channel drops writes, counts them, and reads as marked zeros. A held read
is answered in its turn. -/
def Obligations.MemoryRequests : Prop :=
  ∀ (a : Access) (s : State),
    (s.capacity < a.addr + max 1 (accessSize a) → Runs (.memoryAccess a) s s) ∧
    (a.row.isSome = true → s.throttledOut (s.chanOf a.addr) a.req.toNat = true → Runs (.memoryAccess a) s s) ∧
    (a.addr + max 1 (accessSize a) ≤ s.capacity →
      (a.row.isSome = true → s.throttledOut (s.chanOf a.addr) a.req.toNat = false) → s.nChan ≤ 8 →
      let c := s.chanOf a.addr
      (∀ d, a.data = some d → (a.queued = true ∨ s.rangeSleeps a.addr d.length = true) → ∃ t w, Runs (.memoryAccess a) s t ∧
        (t.mch c).wq = (s.mch c).wq ++ [w] ∧ w.addr = a.addr ∧ w.data = d ∧ KeepsMem s t) ∧
      (∀ d, a.data = some d → a.queued = false → s.waiting = [] → (∀ m < 8, s.phase m ≠ phFault) →
        s.rangeSleeps a.addr d.length = false →
        ∃ t, Runs (.memoryAccess a) s t ∧ (∀ i (h : i < d.length), t.memByte (a.addr + i) = d[i]) ∧
          ∀ b, (b < a.addr ∨ a.addr + d.length ≤ b) → t.memByte b = s.memByte b) ∧
      (a.data = none → a.ecc = 0 → s.waiting = [] → (∀ m < 8, s.phase m ≠ phFault) → s.rangeSleeps a.addr a.len = false →
        s.mem.poison = [] → ∃ t, Runs (.memoryAccess a) s t ∧ t.memOut = ⟨a.addr, s.memBytes a.addr a.len, false⟩ ∧ KeepsMem s t) ∧
      (a.data = none → a.ecc = 0 → (s.rawChans a.addr a.len ≠ [] ∨ s.rangeSleeps a.addr a.len = true) → ∃ t, Runs (.memoryAccess a) s t ∧
        (t.mch c).rq = (s.mch c).rq ++ [⟨a.addr, a.len⟩] ∧ t.memOut = s.memOut ∧ KeepsMem s t ∧
        ∀ m ∈ s.rawChans a.addr a.len, t.rd (Reg.MCH_RAW_WAIT m) = incSat32 (s.rd (Reg.MCH_RAW_WAIT m)) 1) ∧
      (a.data = none → a.ecc = 0 → s.waiting = [] → 0 < a.len → a.addr % 64 + a.len ≤ 64 → s.rangeSleeps a.addr a.len = false →
        (s.phase c ≠ phFault → s.isPoison (a.addr / 64) = true → ∃ t, Runs (.memoryAccess a) s t ∧ KeepsMem s t ∧
          t.memOut = ⟨a.addr, s.memBytes a.addr a.len, true⟩ ∧
          t.rd (Reg.MCH_UE_CNT c) = incSat32 (s.rd (Reg.MCH_UE_CNT c)) 1 ∧ t.on (Reg.MCH_FLAGS c) F.MCH_FLAGS_UE = true) ∧
        (s.phase c = phFault → ∃ t, Runs (.memoryAccess a) s t ∧ KeepsMem s t ∧
          t.memOut = ⟨a.addr, List.replicate a.len 0#8, true⟩)) ∧
      (∀ d, a.data = some d → a.queued = false → s.waiting = [] → 0 < d.length → a.addr % 64 + d.length ≤ 64 →
        s.phase c = phFault → ∃ t, Runs (.memoryAccess a) s t ∧ KeepsMem s t ∧
          t.rd (Reg.MCH_DROPCNT c) = incSat32 (s.rd (Reg.MCH_DROPCNT c)) 1)) ∧
    (∀ (m : Fin 8) (q : RdReq) rest, (s.mch m).rq = q :: rest →
      (s.waiting = [] → s.nChan ≤ 8 → (∀ k < 8, s.phase k ≠ phFault) → s.rangeSleeps q.addr q.len = false → s.mem.poison = [] →
        ∃ t, Runs (.rawWaitEnd m) s t ∧ (t.mch m).rq = rest ∧
          t.memOut = ⟨q.addr, s.memBytes q.addr q.len, false⟩ ∧ KeepsMem s t) ∧
      (s.rangeSleeps q.addr q.len = true → Runs (.rawWaitEnd m) s s)) ∧
    (∀ m : Fin 8, (s.mch m).rq = [] → Runs (.rawWaitEnd m) s s)

/-- Resting on R23, R290 to R293, R296, R301, R303: the refresh window forgets the rows' counts and the throttles. The patrol,
when it is due, reads its next line, wraps at the capacity into the next pass, and reports what it finds. The DIMM temperatures
are read every 32 ms, an absent DIMM as 0x8000. CNTCLR clears every count but SCRUB_PASS. -/
def Obligations.ChannelUpkeep : Prop :=
  ∀ (m : Fin 8) (s : State),
    (∃ t, Runs (.refreshWindowEnd m) s t ∧ t.mch m = { s.mch m with rows := [], throttled := [] } ∧ t.regs = s.regs ∧
      KeepsMem s t) ∧
    (∀ ecc : Fin 3, s.scrubDue m = true →
      let line := s.addrAt m (s.mch m).scrubAt / 64
      let cap := s.get (Reg.MCH_STATUS m) F.MCH_STATUS_CAP_GIB * 2 ^ 30
      ∃ t, Runs (.scrubRead m ecc) s t ∧ (t.mch m).lastScrub = s.rt ∧ KeepsMem s t ∧
        (t.mch m).scrubAt = (if cap ≤ (s.mch m).scrubAt + 64 then 0 else (s.mch m).scrubAt + 64) ∧
        t.rd (Reg.MCH_SCRUB_PASS m) = (if cap ≤ (s.mch m).scrubAt + 64 then incSat32 (s.rd (Reg.MCH_SCRUB_PASS m)) 1
          else s.rd (Reg.MCH_SCRUB_PASS m)) ∧
        (s.isPoison line = false → ecc = 1 → t.rd (Reg.MCH_CE_CNT m) = incSat32 (s.rd (Reg.MCH_CE_CNT m)) 1 ∧
          t.on (Reg.MCH_FLAGS m) F.MCH_FLAGS_CE = true ∧ t.mem = s.mem) ∧
        ((s.isPoison line = true ∨ ecc = 2) → t.rd (Reg.MCH_UE_CNT m) = incSat32 (s.rd (Reg.MCH_UE_CNT m)) 1 ∧
          t.on (Reg.MCH_FLAGS m) F.MCH_FLAGS_UE = true ∧ t.isPoison line = true)) ∧
    (∀ ecc : Fin 3, s.scrubDue m = false → Runs (.scrubRead m ecc) s s) ∧
    (∀ t0 t1 : BitVec 16, s.phase m ≠ phOff →
      ((s.mch m).lastTemp = 0 ∨ (s.mch m).lastTemp + 5242880000 ≤ s.rt → ∃ t, Runs (.dimmTempRead m t0 t1) s t ∧
        t.rn (Reg.MCH_DIMM_TEMP m) = tempField (decide (2 ≤ s.get (Reg.MCH_STATUS m) F.MCH_STATUS_DIMMS)) t1 * 65536 +
          tempField (decide (1 ≤ s.get (Reg.MCH_STATUS m) F.MCH_STATUS_DIMMS)) t0 ∧
        (1 ≤ s.get (Reg.MCH_STATUS m) F.MCH_STATUS_DIMMS → 380 < t0.toInt → t.on (Reg.MCH_FLAGS m) F.MCH_FLAGS_DRAM_HOT = true) ∧
        KeepsRegs s t [Reg.MCH_DIMM_TEMP m, Reg.MCH_FLAGS m] ∧ KeepsMem s t) ∧
      ((s.mch m).lastTemp ≠ 0 → s.rt < (s.mch m).lastTemp + 5242880000 → Runs (.dimmTempRead m t0 t1) s s)) ∧
    (s.standbyBlocked (Reg.MCH_CNTCLR m) = false → ∃ t, Runs (.mchCntclr m) s t ∧ KeepsMem s t ∧
      Cleared s t [Reg.MCH_CE_CNT m, Reg.MCH_UE_CNT m, Reg.MCH_CAPAR_CNT m, Reg.MCH_SR_ABORT m, Reg.MCH_SR_CNT m, Reg.MCH_RFM_CNT m,
        Reg.MCH_RAW_WAIT m, Reg.MCH_DROPCNT m])

/-! ### DMA flows (12_dma_flows.md) -/

/-- Resting on R308 to R314, R321, R325; 18_power_reset_boot.md R460: what a RUNNING flow's instruction does, once fetched, where
no domain it needs is down. MOVE begins, or ends at once with its length 0 or with the cause of its check, counted; LOOP goes back
or on by its counter; WAIT goes on or waits; SIGNAL adds to a semaphore; END ends the flow; a fetch that fails, or an opcode that
is none, ends it in ERROR. Where a domain is down every one of them parks the flow first; a flow that is to park, or whose fetch
waits for a sleeping channel, does nothing. -/
def Obligations.FlowInstructions : Prop :=
  ∀ (f : Fin 8192) (s : State), s.flowState f = 1 → (s.flow f).mv = none →
    let u := fetch f s
    let pc := u.flowPc f
    let w := u.instrWord f 0
    let go (t : State) (k : Nat) : Prop := t.flowPc f = (pc + k) % 2 ^ 41
    let stays : Prop := Runs (.moveOp f) s s ∧ Runs (.loopOp f) s s ∧ Runs (.waitOp f) s s ∧ Runs (.signalOp f) s s ∧
      Runs (.endOp f) s s ∧ Runs (.fetchFailure f) s s
    (pc = s.flowPc f ∧ (s.fetched f = true → u = s) ∧ (s.flowInMem f = false → u.regs = s.regs ∧ KeepsMem s u)) ∧
    ((s.flow f).park.isSome = true → stays) ∧
    ((s.flow f).park = none → s.blockedBy f ≠ [] → ∃ t, Runs (.moveOp f) s t ∧ Runs (.loopOp f) s t ∧ Runs (.waitOp f) s t ∧ Runs (.signalOp f) s t ∧
      Runs (.endOp f) s t ∧ Runs (.fetchFailure f) s t ∧ t.flowState f = 3 ∧
      t.get (Reg.DMA_F_STATUS f) F.DMA_F_STATUS_CAUSE = 0x0E ∧ t.rd Reg.PWR_PARKCNT = incSat32 (s.rd Reg.PWR_PARKCNT) 1 ∧
      t.on Reg.DMA_FLAGS F.DMA_FLAGS_PARKED = true ∧ KeepsMem s t ∧
      KeepsRegs s t [Reg.PWR_PARKCNT, Reg.DMA_F_STATUS f, Reg.DMA_FLAGS]) ∧
    ((s.flow f).park = none → s.blockedBy f = [] → s.fetchWaits f = true → stays) ∧
    ((s.flow f).park = none → s.blockedBy f = [] → s.fetchWaits f = false →
      (u.opcode f = some 1 →
        (u.moveCheck f = 0 → (u.moveAt f).len ≠ 0 →
          ((u.moveAt f).eatsSource = false → ∃ t, Runs (.moveOp f) s t ∧ (t.flow f).mv = some (u.moveAt f) ∧
            t.regs = u.regs ∧ KeepsMem u t) ∧
          ((u.moveAt f).eatsSource = true → ∃ t, Runs (.moveOp f) s t ∧
            (t.flow f).mv = some { u.moveAt f with snap := some (readSource (u.moveAt f) u).1 })) ∧
        (u.moveCheck f = 0 → (u.moveAt f).len = 0 → ∃ t, Runs (.moveOp f) s t ∧ (t.flow f).mv = none ∧ go t 32 ∧
          t.flowState f = 1 ∧ (u.flowInMem f = false → t.pmemByte (pc + 24) = 1#8)) ∧
        (u.moveCheck f ≠ 0 → ∃ t, Runs (.moveOp f) s t ∧ (t.flow f).mv = none ∧ go t 32 ∧ t.flowState f = 1 ∧
          t.get (Reg.DMA_F_STATUS f) F.DMA_F_STATUS_CAUSE = u.moveCheck f ∧
          t.rd (Reg.DMA_F_BADCNT f) = incSat32 (u.rd (Reg.DMA_F_BADCNT f)) 1 ∧
          t.on Reg.DMA_FLAGS F.DMA_FLAGS_BAD_MOVE = true ∧
          (u.flowInMem f = false → t.pmemByte (pc + 24) = 2#8 ∧ t.pmemByte (pc + 25) = BitVec.ofNat 8 (u.moveCheck f)))) ∧
      (u.opcode f = some 2 → sext 24 (bits w 8 24) % 16 = 0 →
        let c := bits w 4 2
        let back := ((pc : Int) + sext 24 (bits w 8 24)) % ((2 ^ 41 : Nat) : Int)
        let act := u.on (Reg.DMA_F_STATUS f) (loopActFld c)
        let l := if act then u.get (loopReg f c) (loopFld c) else bits w 32 16 - 1
        (bits w 32 16 = 0 → ∃ t, Runs (.loopOp f) s t ∧ t.flowPc f = back.toNat ∧ t.on (Reg.DMA_F_STATUS f) (loopActFld c) = true) ∧
        (bits w 32 16 ≠ 0 → 0 < l → ∃ t, Runs (.loopOp f) s t ∧ t.flowPc f = back.toNat ∧
          t.on (Reg.DMA_F_STATUS f) (loopActFld c) = true ∧ t.get (loopReg f c) (loopFld c) = l - 1) ∧
        (bits w 32 16 ≠ 0 → l = 0 → ∃ t, Runs (.loopOp f) s t ∧ go t 16 ∧ t.on (Reg.DMA_F_STATUS f) (loopActFld c) = false)) ∧
      (u.opcode f = some 2 → sext 24 (bits w 8 24) % 16 ≠ 0 → ∃ t, Runs (.loopOp f) s t ∧ t.flowState f = 5 ∧
        t.get (Reg.DMA_F_STATUS f) F.DMA_F_STATUS_CAUSE = 7) ∧
      (u.opcode f = some 3 → bits w 4 2 ≤ 1 →
        (u.waitMet f = true → ∃ t, Runs (.waitOp f) s t ∧ go t 16 ∧ t.flowState f = 1 ∧
          (bits w 4 2 = 0 → t.sem f = u.sem f - 1) ∧ (bits w 4 2 = 1 → t.sem f = u.sem f)) ∧
        (u.waitMet f = false → ∃ t, Runs (.waitOp f) s t ∧ t.flowState f = 2 ∧ RegsOnly u t ∧
          KeepsRegs u t [Reg.DMA_F_STATUS f])) ∧
      (u.opcode f = some 3 → 1 < bits w 4 2 → ∃ t, Runs (.waitOp f) s t ∧ t.flowState f = 5 ∧
        t.get (Reg.DMA_F_STATUS f) F.DMA_F_STATUS_CAUSE = 7) ∧
      (u.opcode f = some 4 → ∃ t, Runs (.signalOp f) s t ∧ go t 16 ∧ t.flowState f = 1 ∧
        (bits w 4 1 = 1 → t.sem (bits w 16 13) = min 0xFFFF (u.sem (bits w 16 13) + 1)) ∧
        (bits w 5 1 = 1 → ⟨22 + bits w 8 5, true⟩ ∈ t.lines)) ∧
      (u.opcode f = some 5 → ∃ t, Runs (.endOp f) s t ∧ t.flowState f = 4 ∧ KeepsRegs u t [Reg.DMA_F_STATUS f] ∧ KeepsMem u t ∧
        (bits w 4 1 = 1 → ⟨22 + bits w 8 5, true⟩ ∈ t.lines)) ∧
      (u.opcode f = none → ∃ t, Runs (.fetchFailure f) s t ∧ t.flowState f = 5 ∧
        t.get (Reg.DMA_F_STATUS f) F.DMA_F_STATUS_CAUSE = 0x0F ∧ t.rd Reg.DMA_BADCNT = incSat32 (u.rd Reg.DMA_BADCNT) 1 ∧
        t.on Reg.DMA_FLAGS F.DMA_FLAGS_FLOW_ERROR = true ∧ t.rn Reg.DMA_LAST_BAD = 0x0F * 65536 + f) ∧
      (∀ op, u.opcode f = some op →
        (1 ≤ op ∧ op ≤ 5 → Runs (.fetchFailure f) s u) ∧
        (op = 0 ∨ 5 < op → ∃ t, Runs (.fetchFailure f) s t ∧ t.flowState f = 5 ∧
          t.get (Reg.DMA_F_STATUS f) F.DMA_F_STATUS_CAUSE = 7)))

/-- Resting on R23, R304, R305, R306, R312, R316, R318, R320 to R322, R324, R325, R327, R329: START of an inactive flow sets its
program counter to ENTRY and runs it; STOP leaves an active flow IDLE; RESUME runs a parked flow whose domains are on; a semaphore
saturates; a reserved flow takes no command. A WAITING flow goes on when its condition is met. Bursts that can be are issued; the
oldest burst of a MOVE moves its bytes; the last ends the MOVE, a failing one ends it with its cause, and so does the closing of
its stream. CNTCLR clears the device's and every flow's count of bad MOVEs, before the counts of the same control cycle. -/
def Obligations.FlowCommands : Prop :=
  ∀ (f : Fin 8192) (s : State),
    (reservedFlow f = false →
      (s.flowActive f = false → ∃ u, Runs (.dmaStart f) s (parkIfBlocked f u).2 ∧ u.flowState f = 1 ∧ u.flow f = {} ∧
        u.flowPc f = s.rd64 (Reg.DMA_F_ENTRY_LO f) % 2 ^ 41 ∧ u.rd (Reg.DMA_F_LOOP_A f) = 0#32 ∧
        u.rd (Reg.DMA_F_LOOP_B f) = 0#32 ∧ KeepsMem s u) ∧
      (s.flowActive f = true → ∃ t, Runs (.dmaStart f) s t ∧
        Reported s t F.HLK_ERR_STATE Reg.HLK_REFUSED_ADDR Reg.DMA_CMD) ∧
      (s.flowActive f = true → ∃ t, Runs (.dmaStop f) s t ∧ t.flowState f = 0 ∧ t.flow f = {}) ∧
      (s.flowActive f = false → Runs (.dmaStop f) s s) ∧
      (s.flowState f = 3 → s.needsOn f = true → ∃ t, Runs (.dmaResume f) s t ∧ t.flowState f = 1 ∧ (t.flow f).needs = [] ∧
        RegsOnly s { t with flows := s.flows } ∧ KeepsRegs s t [Reg.DMA_F_STATUS f]) ∧
      (s.flowState f = 3 → s.needsOn f = false → ∃ t, Runs (.dmaResume f) s t ∧
        Reported s t F.HLK_ERR_STATE Reg.HLK_REFUSED_ADDR Reg.DMA_CMD) ∧
      (s.flowState f ≠ 3 → Runs (.dmaResume f) s s) ∧
      (∀ n : BitVec 16, ∃ t, Runs (.semAdd f n) s t ∧ t.sem f = min 0xFFFF (s.sem f + n.toNat) ∧ RegsOnly s t ∧
        (0xFFFF < s.sem f + n.toNat → t.on Reg.DMA_FLAGS F.DMA_FLAGS_SEM_SAT = true) ∧
        KeepsRegs s t [Reg.DMA_F_SEM f, Reg.DMA_FLAGS])) ∧
    (reservedFlow f = true → ∀ n : BitVec 16, ∃ t u, Runs (.dmaStart f) s t ∧ Runs (.dmaStop f) s t ∧ Runs (.dmaResume f) s t ∧
      Runs (.semAdd f n) s u ∧ Reported s t F.HLK_ERR_REFUSED Reg.HLK_REFUSED_ADDR Reg.DMA_CMD ∧
      Reported s u F.HLK_ERR_REFUSED Reg.HLK_REFUSED_ADDR Reg.DMA_SEM_ADD) ∧
    (s.flowState f = 2 → (s.flow f).park = none → s.waitMet f = true → ∃ t, Runs (.waitSatisfied f) s t ∧ t.flowState f = 1 ∧
      t.flowPc f = (s.flowPc f + 16) % 2 ^ 41) ∧
    (s.flowState f ≠ 2 ∨ s.waitMet f = false ∨ (s.flow f).park.isSome = true → Runs (.waitSatisfied f) s s) ∧
    (let u := issueBursts s;
      (u.regs = s.regs ∧ KeepsMem s u ∧ u.flow f = s.flow f) ∧
      (∀ v, (s.flow f).mv = some v → s.flowState f = 1 →
        (∀ n rest, s.streamClosed v = false → u.flightsOf f = n :: rest → u.burstSleeps v v.done n = false →
          u.burstLate f v n = false →
          (u.burstCause v n = 0 → v.done + n < v.len → ∃ t q, Runs (.burstComplete f) s t ∧ (t.flow f).mv = some q ∧
            q.done = v.done + n ∧ t.flowState f = 1 ∧ (v.ss = 1 → v.ds = 1 → v.ptr = 0 → v.snap = none →
              (∀ i < n, t.pmemByte (v.dst + v.done + i) = s.pmemByte (v.src + v.done + i)) ∧
              ∀ a, (a < v.dst + v.done ∨ v.dst + v.done + n ≤ a) → t.pmemByte a = s.pmemByte a)) ∧
          (u.burstCause v n = 0 → v.len ≤ v.done + n → ∃ t, Runs (.burstComplete f) s t ∧ (t.flow f).mv = none ∧
            t.flowPc f = (v.pc + 32) % 2 ^ 41 ∧ t.flowState f = 1) ∧
          (u.burstCause v n ≠ 0 → ∃ t, Runs (.burstComplete f) s t ∧ (t.flow f).mv = none ∧
            t.flowPc f = (v.pc + 32) % 2 ^ 41 ∧ t.get (Reg.DMA_F_STATUS f) F.DMA_F_STATUS_CAUSE = u.burstCause v n ∧
            t.on Reg.DMA_FLAGS F.DMA_FLAGS_BAD_MOVE = true)) ∧
        (∀ n rest, s.streamClosed v = false → u.flightsOf f = n :: rest →
          u.burstSleeps v v.done n = true ∨ u.burstLate f v n = true → Runs (.burstComplete f) s u) ∧
        (s.streamClosed v = false → u.flightsOf f = [] → Runs (.burstComplete f) s u) ∧
        (s.streamClosed v = true → ∃ t, Runs (.burstComplete f) s t ∧ (t.flow f).mv = none ∧
          t.get (Reg.DMA_F_STATUS f) F.DMA_F_STATUS_CAUSE = 0x0A ∧
          t.rd (Reg.DMA_F_BADCNT f) = incSat32 (s.rd (Reg.DMA_F_BADCNT f)) 1)) ∧
      ((s.flow f).mv = none ∨ s.flowState f ≠ 1 → Runs (.burstComplete f) s u)) ∧
    (∃ t, Runs .dmaCntclr s t ∧ RegsOnly s t ∧ t.rn Reg.DMA_BADCNT = min (s.countNow Reg.DMA_BADCNT) (2 ^ 32 - 1) ∧
      (∀ k < 8192, t.rn (Reg.DMA_F_BADCNT k) = min (s.countNow (Reg.DMA_F_BADCNT k)) (2 ^ 32 - 1)) ∧
      ∀ a, a ≠ Reg.DMA_BADCNT → (∀ k < 8192, a ≠ Reg.DMA_F_BADCNT k) → t.rd a = s.rd a)

/-! ### Compression (13_compression.md) -/

/-- Resting on R23, R332, R341, R343, R344, R347: a submission joins a queue of fewer than 16 jobs, else QUEUE_FULL sets and it is
refused. The engine takes its first job when it is its turn; a descriptor outside memory counts as an error. A group is coded and
committed, the trailer with the last; too little room ends the job in error. A committed trailer completes the job with its count
and its flag. ABORT marks the running job, which then stops at its next group boundary, unless that is the end of its last group
with the trailer; FLUSH also empties the queue, CNTCLR clears the counts. What meets a channel asleep for holdover waits. Resting
on R345: an engine whose turn it is takes the chunk in its slot, and further chunks are handed out; a coded chunk joins the stream
of its block read, or ends it where its channel has failed. -/
def Obligations.CompressionEngines : Prop :=
  (∀ (n : Fin 8) (s : State),
     (∀ hi : BitVec 9, s.standbyBlocked (Reg.CMP_SUBMIT_HI n) = false →
       let a := (s.cmp n).lo + 2 ^ 32 * hi.toNat
       ((s.cmp n).queue.length < 16 →
         (∃ t, Runs (.cmpSubmitStart n hi) s t ∧ (t.cmp n).queue = (s.cmp n).queue ++ [(a, false)] ∧
           t.rn (Reg.CMP_STATUS n) = 256 * ((s.cmp n).queue.length + 1) + b2n (s.cmpBusy n)) ∧
         (∃ t, Runs (.cmpSubmitResume n hi) s t ∧ (t.cmp n).queue = (s.cmp n).queue ++ [(a, true)] ∧
           t.rn (Reg.CMP_STATUS n) = 256 * ((s.cmp n).queue.length + 1) + b2n (s.cmpBusy n))) ∧
       (16 ≤ (s.cmp n).queue.length → ∃ t, Runs (.cmpSubmitStart n hi) s t ∧ Runs (.cmpSubmitResume n hi) s t ∧
         t.cmp n = s.cmp n ∧ t.on (Reg.CMP_FLAGS n) F.CMP_FLAGS_QUEUE_FULL = true ∧ t.on Reg.HLK_ERR F.HLK_ERR_STATE = true ∧
         t.rn Reg.HLK_REFUSED_ADDR = Reg.CMP_SUBMIT_HI n ∧ RegsOnly s t ∧
         KeepsRegs s t [Reg.CMP_FLAGS n, Reg.HLK_ERR, Reg.HLK_REFUSED_ADDR])) ∧
     (∀ addr resume rest, (s.cmp n).queue = (addr, resume) :: rest →
       (s.jobTurn n = true → s.capacity < addr + 64 → ∃ t, Runs (.jobStart n) s t ∧ (t.cmp n).queue = rest ∧
         (t.cmp n).run = none ∧ t.rd (Reg.CMP_ERRCNT n) = incSat32 (s.rd (Reg.CMP_ERRCNT n)) 1 ∧
         t.on (Reg.CMP_FLAGS n) F.CMP_FLAGS_ERROR = true) ∧
       (addr + 64 ≤ s.capacity → s.rangeSleeps addr 64 = true → Runs (.jobStart n) s s) ∧
       (s.jobTurn n = true → addr + 64 ≤ s.capacity → s.rangeSleeps addr 64 = false →
         let d := memRead addr 64 (s.setCmp n { s.cmp n with queue := rest, lastChunk := false })
         let r := jobOf addr resume d.1
         (jobCheck d.2.2 r resume (leAt d.1 0x20 1) = none → ∃ u, Runs (.jobStart n) s (startStream n resume r u) ∧
           (u.cmp n).queue = rest ∧
           (resume = true → ((startStream n resume r u).cmp n).run = some r) ∧
           (resume = false → u.rangeFault r.outA 8 = false → u.dikeProtected r.outA 8 = false →
             ((startStream n resume r u).cmp n).run = some { r with outDone := 8, total := 8 })) ∧
         (∀ st, jobCheck d.2.2 r resume (leAt d.1 0x20 1) = some st → ∃ t, Runs (.jobStart n) s t ∧ (t.cmp n).run = none ∧
           (t.cmp n).queue = rest ∧ t.on (Reg.CMP_FLAGS n) F.CMP_FLAGS_ERROR = true)) ∧
       (s.jobTurn n = false → Runs (.jobStart n) s s)) ∧
     ((s.cmp n).queue = [] → Runs (.jobStart n) s s) ∧
     (∀ r, (s.cmp n).run = some r →
       let sleeps := s.rangeSleeps (r.inA + elemBytes r.elem r.inDone) (elemBytes r.elem (min 64 (r.nsamp - r.inDone)))
       (sleeps = true → Runs (.groupCommit n) s s) ∧
       (sleeps = false → r.trailer = false → r.inDone ≠ r.nsamp →
         s.rangeFault (r.inA + elemBytes r.elem r.inDone) (elemBytes r.elem (min 64 (r.nsamp - r.inDone))) = false →
         let g := nextGroup r s
         let final := decide (g.1.2.1.inDone = r.nsamp) && !s.aborted r
         let out := g.1.1 ++ (if final then streamTrailer g.1.2.1.crc g.1.2.1.vgroups else [])
         g.1.2.2 = false →
         (r.outDone + out.length ≤ r.outMax → g.2.rangeFault (r.outA + r.outDone) out.length = false →
           g.2.dikeProtected (r.outA + r.outDone) out.length = false → 
           (r.abort = none ∨ final = true → ∃ t q, Runs (.groupCommit n) s t ∧ (t.cmp n).run = some q ∧
             q.inDone = r.inDone + min 64 (r.nsamp - r.inDone) ∧
             q.outDone = r.outDone + out.length ∧ q.total = r.total + out.length ∧ q.trailer = final) ∧
           (r.abort.isSome = true → final = false → ∃ t, Runs (.groupCommit n) s t ∧ (t.cmp n).run = none ∧
             t.on (Reg.CMP_FLAGS n) F.CMP_FLAGS_ERROR = true)) ∧
         (r.outMax < r.outDone + out.length → ∃ t, Runs (.groupCommit n) s t ∧ (t.cmp n).run = none ∧
           t.on (Reg.CMP_FLAGS n) F.CMP_FLAGS_ERROR = true)) ∧
       (sleeps = false → r.trailer = false → r.inDone ≠ r.nsamp →
         s.rangeFault (r.inA + elemBytes r.elem r.inDone) (elemBytes r.elem (min 64 (r.nsamp - r.inDone))) = true →
         ∃ t, Runs (.groupCommit n) s t ∧ (t.cmp n).run = none ∧ t.on (Reg.CMP_FLAGS n) F.CMP_FLAGS_ERROR = true) ∧
       (sleeps = false → r.trailer = false → r.inDone = r.nsamp → s.aborted r = true →
         ∃ t, Runs (.groupCommit n) s t ∧ (t.cmp n).run = none ∧ t.on (Reg.CMP_FLAGS n) F.CMP_FLAGS_ERROR = true) ∧
       (sleeps = false → r.trailer = false → r.inDone = r.nsamp → s.aborted r = false →
         let d := streamTrailer r.crc r.vgroups
         (r.outMax < r.outDone + d.length → ∃ t, Runs (.groupCommit n) s t ∧ (t.cmp n).run = none ∧
           t.on (Reg.CMP_FLAGS n) F.CMP_FLAGS_ERROR = true) ∧
         (r.outDone + d.length ≤ r.outMax → s.rangeFault (r.outA + r.outDone) d.length = false →
           s.dikeProtected (r.outA + r.outDone) d.length = false → ∃ t q, Runs (.groupCommit n) s t ∧ (t.cmp n).run = some q ∧
             q.trailer = true ∧ q.outDone = r.outDone + d.length ∧ q.total = r.total + d.length)) ∧
       (r.trailer = true → Runs (.groupCommit n) s s ∧
         (s.standbyBlocked (Reg.CMP_CMD n) = false → Runs (.cmpAbort n) s s) ∧
         ∃ t, Runs (.jobComplete n) s t ∧ (t.cmp n).run = none ∧ (t.cmp n).queue = (s.cmp n).queue ∧
           t.rd (Reg.CMP_JOBCNT n) = incSat32 (s.rd (Reg.CMP_JOBCNT n)) 1 ∧ t.on (Reg.CMP_FLAGS n) r.verdict.2 = true ∧
           (r.opts % 2 = 1 → t.on (Reg.CMP_FLAGS n) F.CMP_FLAGS_DONE = true)) ∧
       (r.trailer = false → Runs (.jobComplete n) s s ∧
         (s.standbyBlocked (Reg.CMP_CMD n) = false → 
           (r.abort = none → ∃ t, Runs (.cmpAbort n) s t ∧ (t.cmp n).run = some { r with abort := some s.rt } ∧ t.regs = s.regs) ∧
           (r.abort.isSome = true → Runs (.cmpAbort n) s s)))) ∧
     ((s.cmp n).run = none → Runs (.groupCommit n) s s ∧ Runs (.jobComplete n) s s ∧
       (s.standbyBlocked (Reg.CMP_CMD n) = false → Runs (.cmpAbort n) s s)) ∧
     (s.standbyBlocked (Reg.CMP_CMD n) = false → ∃ t, Runs (.cmpFlush n) s t ∧ (t.cmp n).queue = [] ∧
       ∀ r, (s.cmp n).run = some r → r.trailer = false → (t.cmp n).run = some { r with abort := some (r.abort.getD s.rt) }) ∧
     (s.standbyBlocked (Reg.CMP_CNTCLR n) = false → ∃ t, Runs (.cmpCntclr n) s t ∧ KeepsMem s t ∧
       Cleared s t [Reg.CMP_JOBCNT n, Reg.CMP_ERRCNT n])) ∧
  (∀ (n : Fin 8) (s : State),
     (s.chunkTurn n = true → ∃ u, Runs (.chunkStart n) s (handChunks u) ∧ (u.cmp n).slot = none ∧
       (u.cmp n).coding = (s.cmp n).slot ∧ (u.cmp n).lastChunk = true ∧ u.blks = s.blks) ∧
     (s.chunkTurn n = false → Runs (.chunkStart n) s s) ∧
     (∀ c, (s.cmp n).coding = some c → s.rangeSleeps c.addr (elemBytes c.elem c.nsamp) = true → Runs (.chunkComplete n) s s) ∧
     (∀ c, (s.cmp n).coding = some c → s.rangeSleeps c.addr (elemBytes c.elem c.nsamp) = false →
       (s.blkOf c.sess c.id = none → ∃ t, Runs (.chunkComplete n) s t ∧ (t.cmp n).coding = none ∧ t.blks = s.blks) ∧
       (∀ b, s.blkOf c.sess c.id = some b →
         (s.rangeFault c.addr (elemBytes c.elem c.nsamp) = true → ∃ u, Runs (.chunkComplete n) s (handChunks u) ∧
           (u.cmp n).coding = none ∧ { b with fail := some 0x0009 } ∈ u.blks) ∧
         (s.rangeFault c.addr (elemBytes c.elem c.nsamp) = false → ∃ t x, Runs (.chunkComplete n) s t ∧
           (t.cmp n).coding = none ∧ x.idx = c.idx ∧ { b with coded := b.coded ++ [x] } ∈ t.blks))) ∧
     ((s.cmp n).coding = none → Runs (.chunkComplete n) s s))

/-! ### Event controller (14_event_controller.md) -/

/-- Resting on R23, R350 to R353, R356, R364, R365, R367: a set pulse makes an open source pending for a target, latches one in
service (whatever EN and PRI are by then) and merges with one that pends; a fall ends the pending state of a LEVEL source. A write
of SRC_CFG sets the priority, 0 ending every pending state, and may not change LEVEL while the source pends or is in service. The
MGC sleeps at once when nothing pends for it. -/
def Obligations.SourcesPend : Prop :=
  ∀ s : State,
    (∀ n rest, s.lines = ⟨n, true⟩ :: rest →
      (isSource n = true → ∃ u, Runs .setPulse s u ∧ (s.lineLow n = false → u.lineHigh n = true) ∧ ∀ t < 3,
        (s.srcOpen n t = true → s.srcInsvc n t = false → (s.srcLevel n = false ∨ s.lineLow n = false) → u.srcPend n t = true ∧
          (s.srcPend n t = false → u.pendTick n t = s.tick)) ∧
        (s.srcInsvc n t = true → s.srcLevel n = false → u.on (Reg.EVC_SRC_STAT n) (evcLatch t) = true ∧
          u.srcPend n t = s.srcPend n t) ∧
        (s.srcOpen n t = true → s.srcInsvc n t = false → s.srcPend n t = true → s.srcLevel n = false →
          u.on (Reg.EVC_SRC_STAT n) F.EVC_SRC_STAT_MERGED = true ∧
          u.rd Reg.EVC_MERGECNT = incSat32 (s.rd Reg.EVC_MERGECNT) 1 ∧ u.pendTick n t = s.pendTick n t)) ∧
      (isSource n = false → Runs .setPulse s { s with lines := rest }) ∧ Runs .lineFall s s) ∧
    (∀ n rest, s.lines = ⟨n, false⟩ :: rest →
      (isSource n = true → (∀ p ∈ s.cfg.levels, p.1 ≠ n) → ∃ u, Runs .lineFall s u ∧ u.lineHigh n = false ∧ u.lines = rest ∧
        (∀ t < 3, u.srcPend n t = (!s.srcLevel n && s.srcPend n t)) ∧ KeepsRegs s u [Reg.EVC_SRC_STAT n]) ∧
      (isSource n = false → Runs .lineFall s { s with lines := rest }) ∧ Runs .setPulse s s) ∧
    (s.lines = [] → Runs .setPulse s s ∧ Runs .lineFall s s) ∧
    (∀ (n : BitVec 11) (v : Word) (fw : Bool), isSource n.toNat = true →
      ((fldGet F.EVC_SRC_CFG_LEVEL v = 1 → pulseOnly n.toNat = false) →
        (fldGet F.EVC_SRC_CFG_LEVEL v ≠ s.get (Reg.EVC_SRC_CFG n.toNat) F.EVC_SRC_CFG_LEVEL →
          ∀ t < 3, s.srcPend n.toNat t = false ∧ s.srcInsvc n.toNat t = false) → ∃ u, Runs (.srcCfgWrite n v fw) s u ∧ u.srcPri n.toNat = fldGet F.EVC_SRC_CFG_PRI v ∧
        u.on (Reg.EVC_SRC_CFG n.toNat) F.EVC_SRC_CFG_WAKE = (fldGet F.EVC_SRC_CFG_WAKE v == 1) ∧
        (fldGet F.EVC_SRC_CFG_PRI v = 0 → ∀ t < 3, u.srcPend n.toNat t = false) ∧
        (fw = true → u.on (Reg.EVC_SRC_CFG n.toNat) F.EVC_SRC_CFG_EN_MGC = (fldGet F.EVC_SRC_CFG_EN_MGC v == 1)) ∧
        (fw = false → u.on (Reg.EVC_SRC_CFG n.toNat) F.EVC_SRC_CFG_EN_MGC =
          s.on (Reg.EVC_SRC_CFG n.toNat) F.EVC_SRC_CFG_EN_MGC)) ∧
      (pulseOnly n.toNat = false → fldGet F.EVC_SRC_CFG_LEVEL v ≠ s.get (Reg.EVC_SRC_CFG n.toNat) F.EVC_SRC_CFG_LEVEL →
        (∃ t < 3, s.srcPend n.toNat t = true ∨ s.srcInsvc n.toNat t = true) →
        ∃ u, Runs (.srcCfgWrite n v fw) s u ∧
          Reported s u F.HLK_ERR_STATE Reg.HLK_REFUSED_ADDR (Reg.EVC_SRC_CFG n.toNat))) ∧
    (∃ u, Runs .mgcSleep s u ∧ RegsOnly s { u with evc := s.evc } ∧ KeepsRegs s u [Reg.EVC_SLEEP_STAT] ∧
      u.get Reg.EVC_SLEEP_STAT F.EVC_SLEEP_STAT_MGC = (if s.liveSources.any (fun n => s.srcPend n 0) then 2 else 1)) ∧
    (∃ u, Runs .evcCntclr s u ∧ Cleared s u [Reg.EVC_MERGECNT])

/-- Resting on R354, R355, R356, R359, R361, R362, R363: a claim takes the deliverable source of highest priority, pending since
an earlier control cycle, into service, its tick in CLAIM_TS; the HNT sends it in an EVENT of its session, the CHF queues it on
the chain, each within its limits. A complete ends the service (the host's after the falls of its earlier writes have arrived),
and a pulse latched meanwhile pends again; of a source not in service it only sets BAD_COMPLETE. A claim that finds nothing
changes no register and only stands noted for its control cycle; a write of MASK in the cycle of a claim applies before it. -/
def Obligations.ClaimsAndCompletes : Prop :=
  ∀ s : State,
    (∀ n, s.claimable 1 = some n → s.on (Reg.EVC_T_CTL 1) F.EVC_T_CTL_AUTO = false → s.pendTick n 1 < 2 ^ 64 →
      ∃ u, Runs .claimRead s u ∧ u.srcPend n 1 = false ∧ u.srcInsvc n 1 = true ∧
        u.rd64 (Reg.EVC_T_CLAIM_TS_LO 1) = s.pendTick n 1 ∧ RegsOnly s u ∧
        KeepsRegs s u [Reg.EVC_SRC_STAT n, Reg.EVC_T_CLAIM_TS_LO 1, Reg.EVC_T_CLAIM_TS_HI 1]) ∧
    (s.on (Reg.EVC_T_CTL 1) F.EVC_T_CTL_AUTO = true → Runs .claimRead s s) ∧
    (s.claimable 1 = none → ∃ u, Runs .claimRead s u ∧ u = { s with cyc := u.cyc }) ∧
    (∀ n, s.claimable 0 = some n → s.pendTick n 0 < 2 ^ 64 → ∃ u, Runs .mgcClaim s u ∧ u.srcPend n 0 = false ∧
      u.srcInsvc n 0 = true ∧ u.runPri = s.srcPri n ∧ u.rd64 (Reg.EVC_T_CLAIM_TS_LO 0) = s.pendTick n 0 ∧
      KeepsRegs s u [Reg.EVC_SRC_STAT n, Reg.EVC_T_CLAIM_TS_LO 0, Reg.EVC_T_CLAIM_TS_HI 0]) ∧
    (s.claimable 0 = none → ∃ u, Runs .mgcClaim s u ∧ u = { s with cyc := u.cyc }) ∧
    (∀ (n : Nat) (v auth) (u : State), s.claimable 0 = some n → s.cycNow.claims = [] → isSource n = true → s.srcLevel n = false →
      fldGet F.EVC_T_CTL_MASK v = 1 → Runs .mgcClaim s u →
      ∃ w, Runs (.registerWrite (BitVec.ofNat 32 (Reg.EVC_T_CTL 0)) v 0#32 auth) u w ∧ w.srcPend n 0 = true ∧ w.srcInsvc n 0 = false ∧
        w.evc.run = s.evc.run.filter (fun p => p.1 != n) ∧ w.rd (Reg.EVC_T_CLAIM_TS_LO 0) = s.rd (Reg.EVC_T_CLAIM_TS_LO 0)) ∧
    (∀ k x n, s.evtSlot = some k → s.session k = some x → s.on (Reg.EVC_T_CTL 1) F.EVC_T_CTL_AUTO = true →
      s.claimable 1 = some n → s.pendTick n 1 < 2 ^ 64 →
      (s.liveSources.countP (fun i => s.srcInsvc i 1) < s.get (Reg.EVC_T_CTL 1) F.EVC_T_CTL_WINDOW →
        ∃ u y, Runs .hntClaim s u ∧ u.srcPend n 1 = false ∧ u.srcInsvc n 1 = true ∧ u.session k = some y ∧
          y.evseq = (x.evseq + 1) % 2 ^ 32 ∧ ∃ e, y.evs = x.evs ++ [e] ∧ e.evseq = x.evseq ∧ e.sends = 1 ∧
            e.data = leBytes 1 1 ++ leBytes 3 0 ++ (leBytes 2 n ++ leBytes 1 (s.srcPri n) ++
              leBytes 1 (b2n (s.lineHigh n) + 2 * b2n (s.on (Reg.EVC_SRC_STAT n) F.EVC_SRC_STAT_MERGED)) ++
              leBytes 4 (s.rn Reg.CKS_EPOCH) ++ leBytes 8 (s.pendTick n 1))) ∧
      (s.get (Reg.EVC_T_CTL 1) F.EVC_T_CTL_WINDOW ≤ s.liveSources.countP (fun i => s.srcInsvc i 1) →
        Runs .hntClaim s s.noOut)) ∧
    ((s.evtSlot = none ∨ s.on (Reg.EVC_T_CTL 1) F.EVC_T_CTL_AUTO = false ∨ s.claimable 1 = none) → Runs .hntClaim s s.noOut) ∧
    (∀ n, s.claimable 2 = some n → s.linkUp 0 = true → s.root = false → s.chnAddr ≠ 0 → (s.port 0).msgQ.length < 16 →
      ∃ u m, Runs .chfClaim s u ∧ u.srcPend n 2 = false ∧ u.srcInsvc n 2 = true ∧ (u.port 0).msgQ = (s.port 0).msgQ ++ [m]) ∧
    (s.root = true ∨ s.linkUp 0 = false ∨ s.chnAddr = 0 ∨ 16 ≤ (s.port 0).msgQ.length ∨ s.claimable 2 = none → Runs .chfClaim s s) ∧
    (∀ n rest, s.chn.chfDone = n :: rest → isSource n = true → s.srcInsvc n 2 = true → ∃ u, Runs .chfComplete s u ∧ u.chn.chfDone = rest ∧
      u.srcInsvc n 2 = false) ∧
    (s.chn.chfDone = [] → Runs .chfComplete s s) ∧
    (∀ (t : Fin 3) (n : BitVec 11), t ≠ 2 →
      let v := if t = 1 then settleFalls s else s
      (isSource n.toNat = true → v.srcInsvc n.toNat t = true → ∃ u, Runs (.complete t n) s u ∧ u.srcInsvc n.toNat t = false ∧
        u.on (Reg.EVC_SRC_STAT n.toNat) (evcLatch t) = false ∧
        (v.on (Reg.EVC_SRC_STAT n.toNat) (evcLatch t) = true → v.srcOpen n.toNat t = true → v.srcLevel n.toNat = false →
          u.srcPend n.toNat t = true ∧ u.pendTick n.toNat t = v.pendTick n.toNat t)) ∧
      ((isSource n.toNat = false ∨ v.srcInsvc n.toNat t = false) → ∃ u, Runs (.complete t n) s u ∧
        u.on Reg.EVC_FLAGS F.EVC_FLAGS_BAD_COMPLETE = true ∧ RegsOnly v u ∧ KeepsRegs v u [Reg.EVC_FLAGS])) ∧
    ((∀ e ∈ s.lines, e.rise = true) → settleFalls s = s) ∧ (∀ n : BitVec 11, Runs (.complete 2 n) s s)

/-! ### Monitoring and test (19_monitoring_and_test.md; 21_electrical_and_package.md) -/

/-- Resting on R23, R473, R474, R476 to R482, R487; 18_power_reset_boot.md R465: a counter takes its configuration, a change of
source or mode emptying it; the clears empty every count and every account, the counts of the same control cycle coming after, and
the log. A snapshot is armed with the next number, on the chain root also for the chain, while its instant lies 2 µs ahead; at the
instant it was armed for each counter that is on is copied; it can be cancelled before. The sensors are read each millisecond, and
a reading above 115 °C is a cause of FAULT; health records fall due every HEALTH_H hours from the end of BOOT. -/
def Obligations.CountersSnapshotsLog : Prop :=
  ∀ s : State,
    (∀ (c : Fin 640) (v : Word),
      let mode := fldGet F.MON_CNT_CFG_MODE v
      let legal := mode ≠ 3 ∧ (mode ≠ 0 → isSource (fldGet F.MON_CNT_CFG_SRC v) = true) ∧
        (mode = 2 → pulseOnly (fldGet F.MON_CNT_CFG_SRC v) = false)
      (legal → ∃ t, Runs (.monCntCfgWrite c v) s t ∧ RegsOnly s t ∧ t.cntMode c = fldGet F.MON_CNT_CFG_MODE v ∧
        t.cntSrc c = fldGet F.MON_CNT_CFG_SRC v ∧
        KeepsRegs s t [Reg.MON_CNT_CFG c, Reg.MON_CNT_LIVE_LO c, Reg.MON_CNT_LIVE_HI c, Reg.MON_CNT_SNAP_HI c] ∧
        ((s.cntMode c ≠ fldGet F.MON_CNT_CFG_MODE v ∨ s.cntSrc c ≠ fldGet F.MON_CNT_CFG_SRC v) →
          t.rn (Reg.MON_CNT_LIVE_LO c) = min (s.countNow (Reg.MON_CNT_LIVE_LO c)) (2 ^ 32 - 1) ∧
          t.rd (Reg.MON_CNT_LIVE_HI c) = 0#32 ∧ t.on (Reg.MON_CNT_SNAP_HI c) F.MON_CNT_SNAP_HI_VALID = false)) ∧
      (¬ legal → ∃ t, Runs (.monCntCfgWrite c v) s t ∧
        Reported s t F.HLK_ERR_REFUSED Reg.HLK_REFUSED_ADDR (Reg.MON_CNT_CFG c))) ∧
    (∃ t, Runs .monClrCnt s t ∧ RegsOnly s t ∧
      (∀ c < 640, t.rn (Reg.MON_CNT_LIVE_LO c) = min (s.countNow (Reg.MON_CNT_LIVE_LO c)) (2 ^ 32 - 1) ∧
        t.rd (Reg.MON_CNT_LIVE_HI c) = 0#32) ∧
      ∀ a, (∀ c < 640, a ≠ Reg.MON_CNT_LIVE_LO c ∧ a ≠ Reg.MON_CNT_LIVE_HI c) → t.rd a = s.rd a) ∧
    (∃ t, Runs .monClrAv s t ∧ RegsOnly s t ∧
      (∀ q < 144, t.rd64 (Reg.MON_AV_UP_LO q) = s.countNow (Reg.MON_AV_UP_LO q) % 2 ^ 64 ∧
        t.rd64 (Reg.MON_AV_DOWN_LO q) = s.countNow (Reg.MON_AV_DOWN_LO q) % 2 ^ 64) ∧
      ∀ a, (a < Reg.MON_AV_UP_LO 0 ∨ Reg.MON_AV_UP_LO 144 ≤ a) → t.rd a = s.rd a) ∧
    (s.snapOk = true → ∃ t, Runs .snapshotArm s t ∧ RegsOnly s { t with mon := s.mon } ∧ t.mon.snapT = s.rd64 Reg.MON_SNAP_T_LO ∧
      t.rn Reg.MON_SNAP_SEQ = (s.rn Reg.MON_SNAP_SEQ + 1) % 2 ^ 32 ∧
      t.get Reg.MON_SNAP_STAT F.MON_SNAP_STAT_STATE = 1 ∧
      ∀ c < 640, t.on (Reg.MON_CNT_SNAP_HI c) F.MON_CNT_SNAP_HI_VALID = false) ∧
    (s.snapOk = false → ∃ t, Runs .snapshotArm s t ∧ Runs .armChain s t ∧
      Reported s t F.HLK_ERR_STATE Reg.HLK_REFUSED_ADDR Reg.MON_SNAP_CMD) ∧
    (s.on Reg.CHN_STATUS F.CHN_STATUS_ROOT = false → ∃ t, Runs .armChain s t ∧
      Reported s t F.HLK_ERR_STATE Reg.HLK_REFUSED_ADDR Reg.MON_SNAP_CMD) ∧
    (s.snapOk = true → s.on Reg.CHN_STATUS F.CHN_STATUS_ROOT = true → s.get Reg.CHN_STATUS F.CHN_STATUS_STATE = 2 →
      ∃ t, Runs .armChain s t ∧ t.mon.snapT = s.rd64 Reg.MON_SNAP_T_LO ∧ t.rn Reg.MON_SNAP_SEQ = (s.rn Reg.MON_SNAP_SEQ + 1) % 2 ^ 32 ∧
        t.get Reg.MON_SNAP_STAT F.MON_SNAP_STAT_STATE = 1 ∧
        (s.linkUp 1 = true →
          Queued 1 0x40 s.chnAddr (leBytes 6 (s.rd64 Reg.MON_SNAP_T_LO) ++ leBytes 4 (t.rn Reg.MON_SNAP_SEQ)) s t)) ∧
    (s.get Reg.MON_SNAP_STAT F.MON_SNAP_STAT_STATE = 1 → ∃ t, Runs .snapshotCancel s t ∧ RegsOnly s t ∧
      t.get Reg.MON_SNAP_STAT F.MON_SNAP_STAT_STATE = 3 ∧ t.on Reg.MON_FLAGS F.MON_FLAGS_SNAP_CANCELLED = true) ∧
    (s.get Reg.MON_SNAP_STAT F.MON_SNAP_STAT_STATE ≠ 1 → Runs .snapshotCancel s s) ∧
    (s.snapDue s.tick = false → Runs .snapshotInstant s s) ∧
    (s.snapDue s.tick = true → ∃ t, Runs .snapshotInstant s t ∧ RegsOnly s t ∧
      t.get Reg.MON_SNAP_STAT F.MON_SNAP_STAT_STATE = 2 ∧ t.on Reg.MON_FLAGS F.MON_FLAGS_SNAP_DONE = true ∧
      ∀ c ∈ s.configured, s.cntMode c ≠ 0 → t.on (Reg.MON_CNT_SNAP_HI c) F.MON_CNT_SNAP_HI_VALID = true ∧
        (s.on (Reg.MON_CNT_SNAP_HI c) F.MON_CNT_SNAP_HI_VALID = false →
          t.rd (Reg.MON_CNT_SNAP_LO c) = s.rd (Reg.MON_CNT_LIVE_LO c) ∧ t.rd (Reg.MON_CNT_SNAP_SEQ c) = s.rd Reg.MON_SNAP_SEQ)) ∧
    (∀ l : List (BitVec 16),
      (s.mon.lastTemp + 1000 * tickUs ≤ s.rt → ∃ t, Runs (.temperatureUpdate l) s t ∧ t.mon.lastTemp = s.rt ∧
        t.mon.tempSeen = true ∧ (∀ d x, d < 8 → l[d]? = some x → t.get (Reg.MON_TEMP d) F.MON_TEMP_NOW = x.toNat) ∧
        ((∃ d x, d < 8 ∧ l[d]? = some x ∧ 115 * 16 < x.toInt) → t.on Reg.DEV_FAULT_CAUSE F.DEV_FAULT_CAUSE_THERMAL = true ∧
          (s.on Reg.DEV_FAULT_CAUSE F.DEV_FAULT_CAUSE_THERMAL = false → s.dev ≠ devBoot → t.dev = devFault))) ∧
      (s.rt < s.mon.lastTemp + 1000 * tickUs → Runs (.temperatureUpdate l) s s)) ∧
    (∀ h, s.mon.healthAt = some h → s.on Reg.MON_CTL F.MON_CTL_HEALTH_EN = true →
      (s.healthNext h ≤ s.rt → ∃ t, Runs .healthRecord s t ∧ t.mon.healthAt = some (s.healthNext h) ∧
        t.on Reg.MON_FLAGS F.MON_FLAGS_HEALTH = true ∧ t.rn Reg.MON_LOG_HEAD = (s.rn Reg.MON_LOG_HEAD + 1) % 2 ^ 32) ∧
      (s.rt < s.healthNext h → Runs .healthRecord s s)) ∧
    ((s.on Reg.MON_CTL F.MON_CTL_HEALTH_EN = false ∨ s.mon.healthAt = none) → Runs .healthRecord s s) ∧
    (∃ t, Runs .logClear s t ∧ t.log = [] ∧ t.regs = s.regs ∧ KeepsMem s t)

/-- Resting on R484 to R486, R488; 21 R510, R511: the three words of the unlock sequence in order, authenticated where a key is
set, unlock the block; a wrong one, or a gap, counts a failure and starts anew. Locking ends every injection. An injection fires
only while the block is unlocked and none is pending. The TAP takes its instruction, BYPASS for a code it does not have; its reset
selects IDCODE. -/
def Obligations.TestUnlockAndTap : Prop :=
  ∀ s : State,
    (s.unlockLate = true → ∃ t, Runs .unlockGapExpiry s t ∧ RegsOnly s t ∧ t.get Reg.TST_STATUS F.TST_STATUS_STEP = 0 ∧
      t.get Reg.TST_STATUS F.TST_STATUS_FAILCNT = incSatN 16 (s.get Reg.TST_STATUS F.TST_STATUS_FAILCNT) 1 ∧
      t.on Reg.MON_FLAGS F.MON_FLAGS_UNLOCK_FAIL = true ∧ KeepsRegs s t [Reg.TST_STATUS, Reg.MON_FLAGS]) ∧
    (s.unlockLate = false → Runs .unlockGapExpiry s s) ∧
    (∃ t, Runs .testLock s t ∧ (∀ (sess : Word) (auth : Bool), Runs (.tstUnlockWrite 0#32 sess auth) s t) ∧ t.tstOpen = false ∧
      t.mon.capar = none ∧ t.mon.chnerr = none ∧ t.rd Reg.TST_BP = 0#32 ∧ t.rd Reg.TST_HSD = 0#32 ∧
      t.rd Reg.TST_MEMLAT = 0#32 ∧ ∀ m < 8, t.rd (Reg.TST_SOFS m) = 0#32) ∧
    (∀ (v sess : Word) (auth : Bool), v ≠ 0#32 → s.unlockLate = false →
      let n := s.get Reg.TST_STATUS F.TST_STATUS_STEP
      (v = unlockWord s n → (s.on Reg.HLK_STATUS F.HLK_STATUS_KEY_SET = true → auth = true) →
        (n < 2 → ∃ t, Runs (.tstUnlockWrite v sess auth) s t ∧ t.get Reg.TST_STATUS F.TST_STATUS_STEP = n + 1 ∧
          t.mon.unlockAt = s.rt ∧ KeepsRegs s t [Reg.TST_STATUS]) ∧
        (2 ≤ n → ∃ t, Runs (.tstUnlockWrite v sess auth) s t ∧ t.tstOpen = true ∧
          t.get Reg.TST_STATUS F.TST_STATUS_FAILCNT = 0 ∧ t.on Reg.MON_FLAGS F.MON_FLAGS_TEST_UNLOCKED = true)) ∧
      ((v ≠ unlockWord s n ∨ (s.on Reg.HLK_STATUS F.HLK_STATUS_KEY_SET = true ∧ auth = false)) →
        ∃ t, Runs (.tstUnlockWrite v sess auth) s t ∧ t.get Reg.TST_STATUS F.TST_STATUS_STEP = 0 ∧
          t.on Reg.MON_FLAGS F.MON_FLAGS_UNLOCK_FAIL = true ∧ KeepsRegs s t [Reg.TST_STATUS, Reg.MON_FLAGS])) ∧
    (s.tstOpen = false → ∀ v, Runs (.tstCaparFire v) s s ∧ Runs (.tstChnerrFire v) s s) ∧
    (∀ v, s.tstOpen = true → s.mon.capar = none → s.phase (fldGet F.TST_CAPAR_CHANNEL v) = phReady →
      ∃ t, Runs (.tstCaparFire v) s t ∧ t.on Reg.TST_CAPAR F.TST_CAPAR_FIRE = true ∧
        t.mon.capar = some (fldGet F.TST_CAPAR_CHANNEL v, fldGet F.TST_CAPAR_REPEAT v) ∧ KeepsRegs s t [Reg.TST_CAPAR]) ∧
    (∀ v, s.tstOpen = true → s.mon.chnerr = none → fldGet F.TST_CHNERR_KIND v ≠ 3 → fldGet F.TST_CHNERR_COUNT v ≠ 0 →
      ∃ t, Runs (.tstChnerrFire v) s t ∧ t.on Reg.TST_CHNERR F.TST_CHNERR_FIRE = true ∧ KeepsRegs s t [Reg.TST_CHNERR] ∧
        t.mon.chnerr = some (fldGet F.TST_CHNERR_PORT v, fldGet F.TST_CHNERR_KIND v, fldGet F.TST_CHNERR_COUNT v)) ∧
    (∀ code : Byte, ∃ t, Runs (.tapInstruction code) s t ∧ t = { s with tap := t.tap } ∧
      t.tap.ir = (if code.toNat ≤ 6 ∨ code = 0x20#8 then code.toNat else 0xFF) ∧
      (code = 0x02#8 → t.tap.dr = some 0x19144B47#32) ∧ (code = 0x20#8 → t.tap.dr = some (s.rd Reg.DEV_BOOT_STAT)) ∧
      (6 < code.toNat → code ≠ 0x20#8 → t.tap.dr = some 0#32)) ∧
    Runs .tapReset s { s with tap := {} }

/-! ### Power, resets and boot (18_power_reset_boot.md) -/

/-- Resting on R23, R451, R454, R456, R457, R459, R472: switching a domain sets its bit of PWR_DOM_CTL; outside BOOT and STANDBY,
with the other domains where they are to be, an OFF domain then reads POWERING, and one that is on, with nothing running, DOWNING.
A POWERING domain that is up reads ON, and its units start; a DOWNING one whose units have ended and whose flows are parked reads
OFF. 100 µs after its park request a flow that has not parked loses its MOVE, at the end of the control cycle. The regulator's
alert (but not its end), and a deviation of VDDC for more than 200 µs, are flagged. -/
def Obligations.PowerDomains : Prop :=
  ∀ s : State,
    (∀ (d : Fin 6) (on : Bool), (s.dev = devBoot ∨ s.dev = devStandby) → ∃ t,
      Runs (if on then .domainPowerUp d else .domainPowerDown d) s t ∧ bitOf (t.rn Reg.PWR_DOM_CTL) d = on ∧
        KeepsRegs s t [Reg.PWR_DOM_CTL]) ∧
    (∀ d : Fin 6, s.dev ≠ devBoot → s.dev ≠ devStandby → s.pwr.entering = none → s.faultOff = false →
      (∀ e : Nat, e < 6 → e ≠ d → (s.domTarget e = true → s.dom e ≠ 0) ∧ (s.domTarget e = false → s.dom e ≠ 1 ∧ s.dom e ≠ 2)) →
      (s.dom d = 0 → ∃ t, Runs (.domainPowerUp d) s t ∧ t.dom d = 1 ∧ bitOf (t.rn Reg.PWR_DOM_CTL) d = true ∧
        KeepsRegs s t [Reg.PWR_DOM_CTL, Reg.PWR_DOM_STAT]) ∧
      ((s.dom d = 1 ∨ s.dom d = 2) → (∀ n < 16, s.fchState n = 0 ∧ s.calBusy n = false ∧ s.stoState n = 0) →
        (∀ g < 16, s.gRunning g = false) → (∀ f < 8192, s.flowState f ≠ 1 ∧ s.flowState f ≠ 2) →
        ∃ t, Runs (.domainPowerDown d) s t ∧ t.dom d = 3 ∧ bitOf (t.rn Reg.PWR_DOM_CTL) d = false)) ∧
    (∀ d : Fin 8,
      (s.dom d ≠ 1 → Runs (.domainOn d) s s) ∧
      (s.dom d = 1 → (s.dev = devBoot ∨ s.dev = devStandby) → ∃ t, Runs (.domainOn d) s t ∧ t.dom d = 2) ∧
      (s.dom d = 1 → s.dev ≠ devBoot → s.dev ≠ devStandby → ∃ u, Runs (.domainOn d) s (unitsStart d u) ∧ u.dom d = 2 ∧
        u.on Reg.PWR_FLAGS F.PWR_FLAGS_DOM_UP = true) ∧
      (s.dom d ≠ 3 → Runs (.domainOff d) s s) ∧ (s.parkWaits d = true → Runs (.domainOff d) s s) ∧
      (s.dom d = 3 → s.parkWaits d = false → (tilePortsEnd d s).tileRuns d = true → Runs (.domainOff d) s (tilePortsEnd d s)) ∧
      (s.dom d = 3 → s.parkWaits d = false → (tilePortsEnd d s).tileRuns d = false →
        ∃ u, Runs (.domainOff d) s (settleDomain u d) ∧ u.dom d = 0 ∧ u.on Reg.PWR_FLAGS F.PWR_FLAGS_DOM_DOWN = true)) ∧
    ((∃ p ∈ s.flows, ∃ q, p.2.park = some q ∧ q.2 + usTicks 100 ≤ s.rt) →
      let t : State := { s with pwr := { s.pwr with parkEnds := true } }
      Runs .parkTimeout s t ∧ (parkTimes t).on Reg.PWR_FLAGS F.PWR_FLAGS_PARK_TIMEOUT = true ∧
      ∀ p ∈ s.flows, (∃ q, p.2.park = some q ∧ q.2 + usTicks 100 ≤ s.rt) → ((parkTimes t).flow p.1).park = none) ∧
    ((∀ p ∈ s.flows, ∀ q, p.2.park = some q → s.rt < q.2 + usTicks 100) → Runs .parkTimeout s s) ∧
    (∀ (st : BitVec 16) (still : Bool), ∃ t, Runs (.avsAlert st still) s t ∧ RegsOnly s t ∧
      t.get Reg.PWR_AVS_STAT F.PWR_AVS_STAT_STATUS = st.toNat ∧ t.on Reg.PWR_AVS_STAT F.PWR_AVS_STAT_ALERT = still ∧
      (s.on Reg.PWR_AVS_STAT F.PWR_AVS_STAT_ALERT = false ∨ still = true → t.on Reg.PWR_FLAGS F.PWR_FLAGS_AVS_ALERT = true) ∧
      (s.on Reg.PWR_AVS_STAT F.PWR_AVS_STAT_ALERT = true → still = false → t.rd Reg.PWR_FLAGS = s.rd Reg.PWR_FLAGS) ∧
      KeepsRegs s t [Reg.PWR_AVS_STAT, Reg.PWR_FLAGS]) ∧
    (∀ t0, s.pwr.devSince = some t0 → s.pwr.devTold = false → s.on Reg.FAB_STATUS F.FAB_STATUS_SETTLING = false →
      (t0 + usTicks 200 < s.rt → ∃ t, Runs .vddcDev s t ∧ t.pwr.devTold = true ∧ t.on Reg.PWR_FLAGS F.PWR_FLAGS_VDDC_DEV = true ∧
        KeepsRegs s t [Reg.PWR_FLAGS]) ∧
      (s.rt ≤ t0 + usTicks 200 → Runs .vddcDev s s)) ∧
    ((s.pwr.devSince = none ∨ s.pwr.devTold = true ∨ s.on Reg.FAB_STATUS F.FAB_STATUS_SETTLING = true) → Runs .vddcDev s s) ∧
    (∃ t, Runs .pwrCntclr s t ∧ Cleared s t [Reg.PWR_PARKCNT, Reg.PWR_LOSTCNT])

/-- Resting on R463, R464; 01_architecture.md R33, R34: STANDBY is entered once ports have ended, polders are sealed and flows
parked: every domain reads OFF, the device STANDBY. The return ends once FAB and MEM are ON and the channels retrained: the device
reads CONFIGURED. A cause of FAULT is recorded; in BOOT it stops the boot, elsewhere the device and its groups read FAULT and the
outputs are OFF. RAIL is a cause only as a rail leaves its range. -/
def Obligations.StandbyAndFault : Prop :=
  ∀ s : State,
    (s.pwr.entering = none → Runs .standbyEntered s s.noOut) ∧
    (∀ t0, s.pwr.entering = some t0 →
      let v := standbySettle s.noOut
      (v.standbyWaits = true → Runs .standbyEntered s v) ∧
      (v.standbyWaits = false → ∃ u, Runs .standbyEntered s (answerEnter stOk (standbyWoken u)) ∧ u.dev = devStandby ∧
        (∀ d < 8, u.dom d = 0) ∧ u.pwr.entering = none ∧ u.on Reg.PWR_FLAGS F.PWR_FLAGS_STANDBY_ENTERED = true ∧
        u.rn Reg.PWR_DOM_CTL = v.rn Reg.PWR_DOM_CTL ∧ (∀ m < 8, v.phase m = phReady → u.phase m = phSr))) ∧
    (s.pwr.waking = none → Runs .wakeComplete s s.noOut) ∧
    (∀ t0 cmd, s.pwr.waking = some (t0, cmd) →
      (s.wakeReady = false → Runs .wakeComplete s s.noOut) ∧
      (s.wakeReady = true → ∃ u, Runs .wakeComplete s (answerWake stOk (wakeUnits u)) ∧ u.dev = devConfigured ∧
        u.pwr.waking = none ∧ u.evc.standby = false ∧ u.on Reg.PWR_FLAGS F.PWR_FLAGS_STANDBY_LEFT = true ∧
        (cmd = true → u.get Reg.EVC_SLEEP_STAT F.EVC_SLEEP_STAT_DEV = 4))) ∧
    (∀ (c : Fin 5) (rails : BitVec 10),
      let v := showRails rails.toNat s.noOut
      (v.rn Reg.PWR_RAIL_STAT = rails.toNat - b2n (bitOf rails.toNat 0 && s.pwr.vddcOut) ∧ KeepsRegs s v [Reg.PWR_RAIL_STAT]) ∧
      (c = causeRail → (v.rn Reg.PWR_RAIL_STAT = 0x3FF ∨ s.hasCause causeRail = true) → Runs (.deviceFault c rails) s (answerFault v)) ∧
      ((c ≠ causeRail ∨ (v.rn Reg.PWR_RAIL_STAT ≠ 0x3FF ∧ s.hasCause causeRail = false)) →
        (s.dev = devBoot → ∃ t, Runs (.deviceFault c rails) s t ∧ t.on Reg.DEV_FAULT_CAUSE ⟨c, 1⟩ = true ∧
          t.get Reg.DEV_BOOT_STAT F.DEV_BOOT_STAT_STAGE = 0xFF ∧ t.dev = devBoot) ∧
        (s.dev ≠ devBoot → ∃ u, Runs (.deviceFault c rails) s (answerFault u) ∧ u.dev = devFault ∧
          u.on Reg.DEV_FAULT_CAUSE ⟨c, 1⟩ = true ∧ u.pwr.entering = none ∧ u.pwr.waking = none ∧
          (∀ g < 16, u.gst g = gFault) ∧ (∀ n < 16, u.stoState n = 0))))

/-- Resting on R450, R466, R467, R471: power-on clears every block; a pin reset all but the error log, a pending snapshot reading
CANCELLED after it (log entry 133); a collapse of power holds the device, which then takes no pin reset. The non-volatile store
and the waiting commands stand. A WARM reset waits until every polder is sealed or 2 ms have passed, and then until the flows have
parked, and keeps the memory, the tick counter and the registers of the clocks, the chain and the memory channels. -/
def Obligations.Resets : Prop :=
  ∀ s : State,
    (∃ t, Runs .powerOnReset s t ∧ t.regs = [] ∧ t.dev = devBoot ∧ t.log = [] ∧ t.tick = 0 ∧ t.mem.cells = [] ∧ t.pmem = [] ∧
      t.tap = {} ∧ t.nv = s.nv ∧ t.pending = s.pending ∧ t.boot.held = false) ∧
    (∃ t, Runs .powerCollapse s t ∧ t.boot.held = true ∧ t.regs = [] ∧ t.nv = s.nv ∧ t.pending = s.pending) ∧
    (s.boot.held = true → Runs .pinReset s s) ∧
    (s.boot.held = false → ∃ t, Runs .pinReset s t ∧ t.dev = devBoot ∧ t.tick = 0 ∧ t.mem.cells = [] ∧ t.pmem = [] ∧ t.tap = s.tap ∧
      t.nv = s.nv ∧ t.pending = s.pending ∧ t.rn Reg.DEV_RESET_CAUSE = 2 + 256 * b2n (s.dev == devFault) ∧
      t.rn Reg.MON_LOG_HEAD = (s.rn Reg.MON_LOG_HEAD + 1) % 2 ^ 32 ∧ (s.log.length < 1024 → ∃ e, t.log = s.log ++ [e] ∧ e.code = 2) ∧
      (s.get Reg.MON_SNAP_STAT F.MON_SNAP_STAT_STATE ≠ 1 →
        ∀ a, a ≠ Reg.MON_LOG_HEAD → a ≠ Reg.DEV_RESET_CAUSE → t.rd a = resetWord a) ∧
      (s.get Reg.MON_SNAP_STAT F.MON_SNAP_STAT_STATE = 1 → t.get Reg.MON_SNAP_STAT F.MON_SNAP_STAT_STATE = 3 ∧
        ∀ a, a ≠ Reg.MON_LOG_HEAD → a ≠ Reg.DEV_RESET_CAUSE → a ≠ Reg.MON_SNAP_STAT → a ≠ Reg.MON_FLAGS → t.rd a = resetWord a)) ∧
    (s.boot.warmWait = none → Runs .warmSealTimeout s s.noOut) ∧
    (∀ t0, s.boot.warmWait = some t0 →
      let v := parkAll { s.noOut with boot := { s.boot with warmPark := true } }
      (s.boot.warmPark = false → (s.recordsDone = true ∨ t0 + usTicks 2000 ≤ s.rt) →
        (v.parking = false → Runs .warmSealTimeout s (warmClear (allSelfRefresh (endSessions v)))) ∧
        (v.parking = true → Runs .warmSealTimeout s v)) ∧
      (s.boot.warmPark = true →
        (s.parking = false → Runs .warmSealTimeout s (warmClear (allSelfRefresh (endSessions s.noOut)))) ∧
        (s.parking = true → Runs .warmSealTimeout s s.noOut)) ∧
      (s.boot.warmPark = false → s.recordsDone = false → s.rt < t0 + usTicks 2000 → Runs .warmSealTimeout s s.noOut)) ∧
    (warmClear s).dev = devBoot ∧ (warmClear s).tick = s.tick ∧ (warmClear s).mem.cells = s.mem.cells ∧
      (warmClear s).nv = s.nv ∧ (warmClear s).boot.warm = true ∧
      (warmClear s).rn Reg.DEV_RESET_CAUSE = 8 + 256 * b2n (s.dev == devFault) ∧
      (∀ a, warmKept a = true → (warmClear s).rd a = s.rd a)

/-- Resting on R468, R469; 17_configuration_images.md R427; R454: each stage of start-up completes where its work is done, and the
next begins: FACTORY gives the serial number (a factory record that fails in both copies is a cause of FAULT), CLOCKS waits for
the sample clock, MEMORY for the channels, IMAGE and HOST for the image and an address; a device that is held, or no longer in
BOOT, stays as it is. BOOT ends in the state that the image stage gave. -/
def Obligations.StartUp : Prop :=
  ∀ s : State,
    (∀ (ref : Fin 4) (bad : BadRecords) (vddc : BitVec 10),
      ((s.boot.held = true ∨ s.dev ≠ devBoot) → Runs (.bootStageEnd ref bad vddc) s s.noOut) ∧
      (s.boot.held = false → s.dev = devBoot →
        (7 ≤ s.stage → Runs (.bootStageEnd ref bad vddc) s s.noOut) ∧
        (s.stage = 1 → bad.factory = false → ∃ t, Runs (.bootStageEnd ref bad vddc) s t ∧ t.stage = 2 ∧ t.rd64 Reg.DEV_SERIAL_LO = Config.serial % 2 ^ 64 ∧
          ∀ k : Fin 24, (t.pcv k).trimBad = decide (k ∈ bad.trims)) ∧
        (s.stage = 1 → bad.factory = true → ∃ t, Runs (.bootStageEnd ref bad vddc) s t ∧ t.stage = 0xFF ∧ t.dev = devBoot ∧
          t.on Reg.DEV_FAULT_CAUSE F.DEV_FAULT_CAUSE_STORE = true) ∧
        (s.stage = 2 → ∃ t, Runs (.bootStageEnd ref bad vddc) s t ∧ t.stage = 3 ∧
          (s.boot.warm = false → t.get Reg.CKS_REF_CTL F.CKS_REF_CTL_REFSEL = ref)) ∧
        (s.stage = 3 → s.clocksRun = true → ∃ u, Runs (.bootStageEnd ref bad vddc) s (bootPower ((List.range 4).foldl startIf u)) ∧ u.stage = 4 ∧
          KeepsRegs s u [Reg.DEV_BOOT_STAT]) ∧
        (s.stage = 3 → s.clocksRun = false → Runs (.bootStageEnd ref bad vddc) s s.noOut) ∧
        (s.stage = 4 → ∃ u, Runs (.bootStageEnd ref bad vddc) s (vddcJudge (bootMemory u)) ∧ u.stage = 5 ∧
          u.pwr.vddcOut = !vddcOk vddc.toNat) ∧
        (s.stage = 5 → s.memoryTrained = true → ∃ t, Runs (.bootStageEnd ref bad vddc) s t ∧ t.stage = 6 ∧ KeepsRegs s t [Reg.DEV_BOOT_STAT]) ∧
        (s.stage = 5 → s.memoryTrained = false → Runs (.bootStageEnd ref bad vddc) s s.noOut) ∧
        (s.stage = 6 → s.boot.imageDone = true → (s.hif 0).held = false → ∃ t, Runs (.bootStageEnd ref bad vddc) s t ∧ t.stage = 7 ∧
          KeepsRegs s t [Reg.DEV_BOOT_STAT]) ∧
        (s.stage = 6 → (s.boot.imageDone = false ∨ (s.hif 0).held = true) → Runs (.bootStageEnd ref bad vddc) s s.noOut))) ∧
    (s.dev = devBoot → s.stage ≠ 0xFF → s.boot.imageDone = true → (s.hif 0).held = true → s.boot.into < 5 →
      ∃ u, Runs .bootEnd s (settleDomains u) ∧ u.dev = s.boot.into ∧ u.stage = 8 ∧ u.mon.healthAt = some s.rt ∧ u.mon.healthFrom = s.rt) ∧
    (s.dev ≠ devBoot → Runs .bootEnd s s) ∧ (s.boot.imageDone = false → Runs .bootEnd s s) ∧
    ((s.hif 0).held = false → Runs .bootEnd s s)

/-! ### Store, shadow lists, boot activation (17_configuration_images.md) and register writes (00_scope.md) -/

/-- Resting on R426, R433, R434, R439, R444, R447: an accepted store command ends with RESULT and CMD_DONE: a staged image that
passes its checks goes to its slot, which is empty until the write is complete; settings are saved or erased; a key on the curve
is installed, one is removed or exported. A store write that fails its read-back leaves its target. A command that is not accepted
is reported. -/
def Obligations.StoreCommands : Prop :=
  ∀ s : State,
    let res (t : State) (x : Nat) : Prop := t.get Reg.CFG_STATUS F.CFG_STATUS_RESULT = x ∧
      t.on Reg.CFG_STATUS F.CFG_STATUS_BUSY = false ∧ t.on Reg.CFG_FLAGS F.CFG_FLAGS_CMD_DONE = true
    let free := s.on Reg.CFG_STATUS F.CFG_STATUS_BUSY = false
    (∀ k : Fin 4, k.val < 2 → free → s.memReady = true →
      let r := stagedImage s
      (imgCheck r.2 false r.1 = 0 → ∃ t, Runs (.slotWrite k) s t ∧ t.cfg.writing = some (k.val, r.1) ∧
        t.on Reg.CFG_STATUS F.CFG_STATUS_BUSY = true ∧ t.slotImage k = none) ∧
      (imgCheck r.2 false r.1 ≠ 0 → ∃ t, Runs (.slotWrite k) s t ∧ res t 2 ∧ t.cfg.writing = s.cfg.writing ∧ t.nv = s.nv)) ∧
    (∀ k : Fin 4, 2 ≤ k.val → ∃ t, Runs (.slotWrite k) s t ∧ (∀ ok, Runs (.slotErase k ok) s t) ∧
      Reported s t F.HLK_ERR_REFUSED Reg.HLK_REFUSED_ADDR Reg.CFG_CMD) ∧
    (∀ k b, s.cfg.writing = some (k, b) →
      (k ≠ 2 → ∃ t, Runs (.slotWriteComplete true) s t ∧ res t 1 ∧ t.cfg.writing = none ∧ t.slotImage k = some b) ∧
      (∃ t, Runs (.slotWriteComplete false) s t ∧ res t 3 ∧ t.cfg.writing = none ∧ t.nv = s.nv ∧
        t.on Reg.CFG_FLAGS F.CFG_FLAGS_NV_FAIL = true)) ∧
    (s.cfg.writing = none → ∀ ok, Runs (.slotWriteComplete ok) s s) ∧
    (∀ k : Fin 4, k.val < 2 → free →
      (∃ t, Runs (.slotErase k true) s t ∧ res t 1 ∧ t.slotImage k = none) ∧
      (∃ t, Runs (.slotErase k false) s t ∧ res t 3 ∧ t.nv = s.nv)) ∧
    (free → ∃ t, Runs (.saveSettings true) s t ∧ res t 1 ∧
      ∀ p ∈ settingRegs, (p.1, s.rd p.1 &&& BitVec.ofNat 32 p.2) ∈ t.nv.saved) ∧
    (free → (∃ t, Runs (.eraseSettings true) s t ∧ res t 1 ∧ t.nv.saved = [] ∧ t.nv.addr = none) ∧
      ∃ t, Runs (.eraseSettings false) s t ∧ Runs (.saveSettings false) s t ∧ res t 3 ∧ t.nv = s.nv) ∧
    (∀ (k : Fin 4) (auth : Bool), k ≠ 0 → free → s.memReady = true → (auth = true ∨ s.nv.keys = []) →
      let r := memRead s.stageAddr 64 s
      let q := (ofBe (r.1.take 32), ofBe (r.1.drop 32))
      (s.stageAddr + 64 ≤ s.capacity → onCurve q.1 q.2 = true → ∃ t, Runs (.keyInstall k auth true) s t ∧ res t 1 ∧
        (k.val, q) ∈ t.nv.keys ∧ ∀ p ∈ t.nv.keys, p.1 = k.val → p.2 = q) ∧
      (s.stageAddr + 64 ≤ s.capacity → onCurve q.1 q.2 = false → ∃ t, Runs (.keyInstall k auth true) s t ∧ res t 2 ∧
        t.nv = s.nv) ∧
      (s.capacity < s.stageAddr + 64 → ∃ t, Runs (.keyInstall k auth true) s t ∧ res t 2 ∧ t.nv = s.nv)) ∧
    (∀ k : Fin 4, k ≠ 0 → free → ∃ t, Runs (.keyRemove k true true) s t ∧ res t 1 ∧
      ∀ p ∈ t.nv.keys, p.1 ≠ k.val) ∧
    (∀ (k : Fin 4) (ok : Bool), ∃ t, Runs (.keyRemove k false ok) s t ∧ RegsOnly s t ∧
      KeepsRegs s t [Reg.HLK_ERR, Reg.HLK_REFUSED_ADDR]) ∧
    (∀ k : Fin 4, free → s.memReady = true →
      (s.keyPoint k = none → ∃ t, Runs (.keyExport k) s t ∧ res t 2 ∧ KeepsMem s t) ∧
      (s.keyPoint k ≠ none → s.stageAddr + 64 ≤ s.capacity → ∃ t, Runs (.keyExport k) s t ∧ res t 1)) ∧
    (s.on Reg.CFG_STATUS F.CFG_STATUS_BUSY = true → ∃ t, Runs (.slotWrite 0) s t ∧ Runs (.saveSettings true) s t ∧
      Runs (.eraseSettings true) s t ∧ Reported s t F.HLK_ERR_STATE Reg.HLK_REFUSED_ADDR Reg.CFG_CMD)

/-- Resting on 00_scope.md R16, R19, R20, R22; 15_host_link.md R386, R399: a host write to an address outside every block, or not
a multiple of four, sets HLK_ERR.ADDRESS; to an unpowered block in STANDBY, STATE; an address inside a block that names no
register, and the read-only registers of the DEV block, are left alone. A 1 written to a flag clears it, unless it is set in the
same control cycle, as MON_FLAGS shows. A rw field takes its bits; a value that it refuses changes nothing but the report, as
MON_TEMP_WARN shows with both. EVC_T0_CTL takes only the firmware's writes (14_event_controller.md R367). The block does `r`; a
RELINK still owed would follow. -/
def Obligations.RegisterWrites : Prop :=
  ∀ (a v sess : Word) (auth : Bool) (s : State),
    let does (r : State) : Prop := Runs (.registerWrite a v sess auth) s (if s.hlk.relink then relink r else r)
    (((blockOf a.toNat).isNone = true ∨ a.toNat % 4 ≠ 0) → ∃ r, does r ∧ RegsOnly s.noOut r ∧
      r.on Reg.HLK_ERR F.HLK_ERR_ADDRESS = true ∧ KeepsRegs s r [Reg.HLK_ERR]) ∧
    ((blockOf a.toNat).isNone = false → a.toNat % 4 = 0 → s.standbyBlocked a.toNat = true →
      ∃ r, does r ∧ Reported s.noOut r F.HLK_ERR_STATE Reg.HLK_REFUSED_ADDR a.toNat) ∧
    ((blockOf a.toNat).isNone = false → a.toNat % 4 = 0 → rowOf a.toNat = none → s.standbyBlocked a.toNat = false → does s.noOut) ∧
    (a.toNat < 0x10000 → a.toNat % 4 = 0 → ∃ r, does r ∧ RegsOnly s.noOut r ∧ KeepsRegs s r []) ∧
    (a.toNat = Reg.MON_FLAGS → ∃ r, does r ∧ RegsOnly s.noOut r ∧ KeepsRegs s r [Reg.MON_FLAGS] ∧
      r.rd Reg.MON_FLAGS = s.rd Reg.MON_FLAGS &&& ~~~ (v &&& 0x1FF#32 &&& ~~~ s.setNow Reg.MON_FLAGS)) ∧
    (a.toNat = Reg.MON_TEMP_WARN →
      (60 ≤ fldGet F.MON_TEMP_WARN_DEG v → fldGet F.MON_TEMP_WARN_DEG v ≤ 110 → ∃ r, does r ∧
        RegsOnly s.noOut r ∧ r.get Reg.MON_TEMP_WARN F.MON_TEMP_WARN_DEG = fldGet F.MON_TEMP_WARN_DEG v ∧
        KeepsRegs s r [Reg.MON_TEMP_WARN]) ∧
      ((fldGet F.MON_TEMP_WARN_DEG v < 60 ∨ 110 < fldGet F.MON_TEMP_WARN_DEG v) → ∃ r, does r ∧
        Reported s.noOut r F.HLK_ERR_REFUSED Reg.HLK_REFUSED_ADDR Reg.MON_TEMP_WARN)) ∧
    (a.toNat = Reg.EVC_T_CTL 0 → s.cycNow.claims = [] →
      (sess = 0#32 → ∃ r, Runs (.registerWrite a v sess auth) s r ∧ RegsOnly s.noOut r ∧ KeepsRegs s r [Reg.EVC_T_CTL 0] ∧
        r.get (Reg.EVC_T_CTL 0) F.EVC_T_CTL_THRESH = fldGet F.EVC_T_CTL_THRESH v ∧
        r.on (Reg.EVC_T_CTL 0) F.EVC_T_CTL_MASK = (fldGet F.EVC_T_CTL_MASK v == 1)) ∧
      (sess ≠ 0#32 → does s.noOut))

/-! ### Host link (15_host_link.md) -/

/-- Resting on R369, R370, R372, R373, R374, R400: a link comes up once, where the partner offers what HLK_CTL selects, with the
eyes measured, which later measurements narrow, and goes down once; a discarded frame counts; a pause holds the interface; ARP,
neighbour solicitations and echo requests are answered for the interface's own addresses. DHCPv4 asks, binds, fails after 10 s to
the static address, retries after 60 s, renews at half the lease. -/
def Obligations.LinksAndAddresses : Prop :=
  ∀ s : State,
    (∀ (n : Fin 4) (x : LinkNote),
      let eye (l : Nat) : Nat := x.eye.toNat / 2 ^ (8 * l) % 256
      (s.ifExists n = true → s.hlkUp n = false → s.linkAgrees x = true → ∃ t, Runs (.linkUp n x) s t ∧ t.hlkUp n = true ∧
        t.on Reg.HLK_FLAGS F.HLK_FLAGS_LINK_UP = true ∧ (∀ l ∈ s.lanesOf n, t.get Reg.HLK_EYE ⟨8 * l, 8⟩ = eye l) ∧
        KeepsRegs s t [Reg.HLK_STATUS, Reg.HLK_FLAGS, Reg.HLK_EYE]) ∧
      (s.ifExists n = true → s.hlkUp n = true → ∃ t, Runs (.linkUp n x) s t ∧
        (∀ l ∈ s.lanesOf n, t.get Reg.HLK_EYE ⟨8 * l, 8⟩ = min (s.get Reg.HLK_EYE ⟨8 * l, 8⟩) (eye l)) ∧ KeepsRegs s t [Reg.HLK_EYE]) ∧
      ((s.ifExists n = false ∨ s.hlkUp n = false ∧ s.linkAgrees x = false) → Runs (.linkUp n x) s s.noOut) ∧
      (s.hlkUp n = true → ∃ t, Runs (.linkDown n) s t ∧ t.hlkUp n = false ∧ t.on Reg.HLK_FLAGS F.HLK_FLAGS_LINK_DOWN = true ∧
        (∀ l ∈ s.lanesOf n, t.get Reg.HLK_EYE ⟨8 * l, 8⟩ = 0) ∧ KeepsRegs s t [Reg.HLK_STATUS, Reg.HLK_FLAGS, Reg.HLK_EYE]) ∧
      (s.hlkUp n = false → Runs (.linkDown n) s s.noOut)) ∧
    (∀ full : Bool, ∃ t, Runs (.macDiscard full) s t ∧ t.rd Reg.HLK_MACDROP = incSat32 (s.rd Reg.HLK_MACDROP) 1 ∧
      (full = true → t.on Reg.HLK_FLAGS F.HLK_FLAGS_RX_OVERFLOW = true) ∧ KeepsRegs s t [Reg.HLK_MACDROP, Reg.HLK_FLAGS]) ∧
    (∀ (n : Fin 4) (q : BitVec 16),
      (s.ifExists n = true → s.hlkUp n = true → ∃ t, Runs (.pauseFrame n q) s t ∧ t.regs = s.regs ∧
        (t.hif n).pause = s.rt + q.toNat * s.quantumTicks ∧ ∀ i, i ≠ n.val → t.hif i = s.hif i) ∧
      ((s.ifExists n = false ∨ s.hlkUp n = false) → Runs (.pauseFrame n q) s s.noOut)) ∧
    (∀ (n : Fin 4) (sha : BitVec 48) (spa tpa : Word),
      (s.reachable n false = true → (s.hif n).addr = tpa → ∃ t f, Runs (.arpRequest n sha spa tpa) s t ∧ Leaves f s t ∧ f.kind = 1 ∧
        f.iface = n.val ∧ f.data.length = 28 ∧ (f.data.drop 14).take 4 = beBytes 4 tpa.toNat ∧
        (f.data.drop 8).take 6 = beBytes 6 (s.macOf n) ∧ t.regs = s.regs) ∧
      ((s.reachable n false = false ∨ (s.hif n).addr ≠ tpa) → Runs (.arpRequest n sha spa tpa) s s.noOut)) ∧
    (∀ target : BitVec 128,
      (s.reachable 0 true = true → (target.toNat = s.linkLocal ∨ (target.toNat ≠ 0 ∧ target.toNat = s.ipv6Global)) → ∃ t f,
        Runs (.neighbourSolicitation target) s t ∧ Leaves f s t ∧ f.iface = 0 ∧ f.kind = 2 ∧ f.data.getD 0 0#8 = 136#8 ∧ (f.data.drop 2).take 16 = beBytes 16 target.toNat ∧ t.regs = s.regs) ∧
      ((s.reachable 0 true = false ∨ (target.toNat ≠ s.linkLocal ∧ target.toNat ≠ s.ipv6Global)) →
        Runs (.neighbourSolicitation target) s s.noOut)) ∧
    (∀ (n : Fin 4) (v6 : Bool) (data : List Byte),
      (s.reachable n v6 = true → (if v6 then 40 else 20) + 4 + data.length ≤ s.act (Reg.HLK_IF_CFG n) F.HLK_IF_CFG_MTU → ∃ t f,
        Runs (.echoRequest n v6 data) s t ∧ Leaves f s t ∧ f.kind = 3 ∧ f.iface = n.val ∧ f.data.drop 2 = data ∧
        f.data.getD 0 1#8 = (if v6 then 129#8 else 0#8) ∧ t.regs = s.regs) ∧
      ((s.reachable n v6 = false ∨ s.act (Reg.HLK_IF_CFG n) F.HLK_IF_CFG_MTU < (if v6 then 40 else 20) + 4 + data.length) →
        Runs (.echoRequest n v6 data) s s.noOut)) ∧
    (∀ (n : Fin 4) (addr mask gw lease : Word),
      let ask (renew : Bool) : FrameOut := { iface := n, kind := 4, data := s.dhcpMessage n renew, port := 68, df := true }
      ((s.ifExists n = false ∨ s.hlkUp n = false ∨ (s.hif n).dhcp = 0) → Runs (.dhcpReply n addr mask gw lease) s s.noOut) ∧
      (s.ifExists n = true → s.hlkUp n = true → (s.hif n).dhcp ≠ 0 → ∃ t, Runs (.dhcpReply n addr mask gw lease) s t ∧
        (t.hif n).addr = addr ∧ (t.hif n).mask = mask ∧ (t.hif n).gw = gw ∧ (t.hif n).held = true ∧
        t.on Reg.HLK_STATUS ⟨20 + n, 1⟩ = true ∧ t.on (Reg.HLK_IF_CFG n) F.HLK_IF_CFG_ACTIVE_STATIC = false ∧
        KeepsRegs s t [Reg.HLK_STATUS, Reg.HLK_IF_CFG n]) ∧
      (((s.hif n).dhcp ≠ 1 ∨ s.rt < (s.hif n).asked + 10000000 * tickUs) → Runs (.dhcpTimeout n) s s.noOut) ∧
      ((s.hif n).dhcp = 1 → (s.hif n).asked + 10000000 * tickUs ≤ s.rt → ∃ t, Runs (.dhcpTimeout n) s t ∧
        (t.hif n).addr = s.actWord (Reg.HLK_IF_ADDR n) ∧ (t.hif n).held = true ∧ (t.hif n).dhcp = 3 ∧
        t.on (Reg.HLK_IF_CFG n) F.HLK_IF_CFG_ACTIVE_STATIC = true ∧ t.on Reg.HLK_FLAGS F.HLK_FLAGS_DHCP_FAIL = true) ∧
      ((s.hif n).dhcp = 3 → (s.hif n).asked + 60000000 * tickUs ≤ s.rt → ∃ t, Runs (.dhcpRetry n) s t ∧
        (t.hif n).asked = s.rt ∧ Leaves (ask false) s t ∧ t.regs = s.regs) ∧
      (((s.hif n).dhcp ≠ 3 ∨ s.rt < (s.hif n).asked + 60000000 * tickUs) → Runs (.dhcpRetry n) s s.noOut) ∧
      (let due := (s.hif n).bound + (s.hif n).lease * 500000 * tickUs;
        ((s.hif n).dhcp = 2 → due ≤ s.rt → (s.hif n).asked < due → ∃ t, Runs (.leaseRenewal n) s t ∧ (t.hif n).asked = s.rt ∧
          Leaves (ask true) s t ∧ t.regs = s.regs) ∧
        ((s.hif n).dhcp ≠ 2 ∨ s.rt < due ∨ due ≤ (s.hif n).asked → Runs (.leaseRenewal n) s s.noOut))) ∧
    ∃ t, Runs .dhcpRenew s t ∧ t.regs = s.regs ∧ ∀ n < 4, (t.hif n).asked = (if (s.hif n).dhcp = 0 then (s.hif n).asked else s.rt)

/-- Resting on R374; 16_eweone_chain.md R422: an IEEE 1588 event message is timestamped to a tick. With ROLE OFF nothing else
happens; a transparent clock forwards it to the other interfaces with the residence time added; the root as a slave takes the
mapping of its servo and, as a master, answers a Delay_Req with the time of its arrival; the messages that either sends leave.
Without a link, and in BOOT, nothing happens. -/
def Obligations.PtpMessages : Prop :=
  ∀ (m : PtpMsg) (s : State),
    let n := m.iface.val
    let ts := (s.tick + m.sub.val) % 2 ^ 64
    let role := s.get Reg.CHN_PTP_CTL F.CHN_PTP_CTL_ROLE
    let typ := (m.data.headD 0#8).toNat % 16
    let ours := s.root = true ∧ m.domain.toNat = s.get Reg.CHN_PTP_CTL F.CHN_PTP_CTL_DOMAIN
    let frame (i : Nat) (d : List Byte) : FrameOut := { iface := i, kind := 5, data := d }
    ((s.ifExists n = false ∨ s.hlkUp n = false ∨ s.dev = devBoot) → Runs (.ptpEventMessage m) s s.noOut) ∧
    (s.ifExists n = true → s.hlkUp n = true → s.dev ≠ devBoot →
      (role = 0 → ∃ t, Runs (.ptpEventMessage m) s t ∧ t.hlk.ptpTs = ts ∧ t.regs = s.regs ∧ t.hlk.out = []) ∧
      (role = 3 → s.act Reg.HLK_CTL F.HLK_CTL_MODE = 2 → m.received = true → (∀ i < 4, Unpaused i s) →
        ∃ t, Runs (.ptpEventMessage m) s t ∧ t.hlk.ptpTs = ts ∧ t.regs = s.regs ∧ t.hlk.out =
          ((List.range 4).filter (fun i => i != n && s.hlkUp i)).map (fun i => frame i (addResidence m.resid.toNat m.data))) ∧
      (role = 1 → ours → m.received = true → ∀ tk sec ns rate, m.mapping = some (tk, sec, ns, rate) →
        ∃ t, Runs (.ptpEventMessage m) s t ∧ t.hlk.ptpTs = ts ∧ t.rd64 Reg.CHN_MAP_TICK_LO = tk.toNat ∧
          t.rd Reg.CHN_MAP_RATE = rate ∧ t.rn Reg.CHN_MAP_NS = ns.toNat ∧ t.chn.mapDirty = true) ∧
      (role = 2 → ours → m.received = true → typ = 1 → ∃ t, Runs (.ptpEventMessage m) s t ∧ t.hlk.ptpTs = ts ∧ t.regs = s.regs ∧
        Leaves (frame n (ptpAnswer 9 m.data (s.ptpStamp ts) (ptpPortOf m.data))) s t) ∧
      ((role = 1 ∨ role = 2 ∧ typ ≠ 0) → ours → m.received = false → ∃ t, Runs (.ptpEventMessage m) s t ∧ t.hlk.ptpTs = ts ∧
        t.regs = s.regs ∧ Leaves (frame n m.data) s t))

/-- Resting on R23, R369, R377, R380, R400: KEY_COMMIT stores K from the key registers, which read 0 after it; only an
authenticated session erases a stored K. CNTCLR zeroes the counters. RELINK ends every session, takes every link down and brings
the settings in the registers into force. -/
def Obligations.KeysAndRelink : Prop :=
  ∀ s : State,
    (∃ t, Runs .keyCommit s t ∧ t.nv.key = some ((List.range 8).flatMap (fun i => leBytes 4 (s.rn (Reg.HLK_KEY i)))) ∧
      (∀ i < 8, t.rd (Reg.HLK_KEY i) = 0#32) ∧ t.on Reg.HLK_STATUS F.HLK_STATUS_KEY_SET = true ∧ t.nv.slots = s.nv.slots) ∧
    (∃ t, Runs (.keyErase true) s t ∧ t.nv.key = none ∧ t.on Reg.HLK_STATUS F.HLK_STATUS_KEY_SET = false) ∧
    (∃ t, Runs (.keyErase false) s t ∧ Reported s.noOut t F.HLK_ERR_REFUSED Reg.HLK_REFUSED_ADDR Reg.HLK_CMD) ∧
    (∃ t, Runs .hlkCntclr s t ∧ Cleared s.noOut t [Reg.HLK_RXCNT, Reg.HLK_TXCNT, Reg.HLK_DUPCNT, Reg.HLK_DROPCNT, Reg.HLK_AUTHFAIL,
      Reg.HLK_RETXCNT, Reg.HLK_MACDROP]) ∧
    (∃ t, Runs .relink s t ∧ (∀ k < 8, t.session k = none) ∧ (∀ n < 4, t.hlkUp n = false) ∧
      (∀ a ∈ hlkBootRegs, (∀ n < 4, a ≠ Reg.HLK_IF_CFG n) → lookupD resetWord t.hlk.active a = s.rd a) ∧ t.hlk.relink = false ∧
      (∀ n < 4, t.ifExists n = true → t.act (Reg.HLK_IF_CFG n) F.HLK_IF_CFG_DHCP = 0 →
        (t.hif n).held = true ∧ (t.hif n).addr = s.rd (Reg.HLK_IF_ADDR n)))

/-- Resting on R375, R376, R377, R378, R381, R382, R396, R397: OPEN gives a session its identifier, or names its refusal; a
message for no session draws NO_SESSION, one with a bad tag is discarded. A request ahead of its turn is buffered, a repeated one
draws its cached reply, one too old STALE_SEQ, one too far is dropped. CLOSE and the timeout end the session; an EVENT is sent
again until acknowledged. -/
def Obligations.SessionsAndSequence : Prop :=
  (∀ (m : Msg) (s : State),
    let refused (st : Nat) : Prop := ∃ t, Runs (.openMsg m) s t ∧ t.hlk.sess = s.hlk.sess ∧
      Leaves (btpFrame m.iface m.v6 (btpMessage false [] 0x81 m.sess.toNat m.seq.toNat 0 st s.dev 0x0F []) s) s t
    let auth := bitOf (leAt m.data 0 2) 1
    (Short m → s.takesMsg m = false → Runs (.openMsg m) s s.noOut) ∧
    (¬ Short m → s.hlkUp m.iface = true → ∃ t, Runs (.openMsg m) s t ∧ t.hlk.sess = s.hlk.sess ∧
      t.rd Reg.HLK_MACDROP = incSat32 (s.rd Reg.HLK_MACDROP) 1 ∧ KeepsRegs s t [Reg.HLK_MACDROP]) ∧
    (Reaches m s →
      (m.data.length < 36 → refused 0x0D) ∧
      (36 ≤ m.data.length → s.freeSlot = none → refused 0x0C) ∧
      (36 ≤ m.data.length → s.freeSlot ≠ none → auth = false → s.act Reg.HLK_CTL F.HLK_CTL_AUTH_REQ = 1 → refused 0x0A) ∧
      (36 ≤ m.data.length → s.freeSlot ≠ none → auth = true → s.nv.key = none → refused 0x0A) ∧
      (∀ k, 36 ≤ m.data.length → s.freeSlot = some k → (auth = false → s.act Reg.HLK_CTL F.HLK_CTL_AUTH_REQ = 0) →
        (auth = true → s.nv.key ≠ none) → ∃ t y, Runs (.openMsg m) s t ∧ t.session k = some y ∧ y.auth = auth ∧
          y.events = (bitOf (leAt m.data 0 2) 0 && !s.hlk.sess.any (fun p => p.2.events)) ∧ y.iface = m.iface.val ∧
          y.w = s.act Reg.HLK_CTL F.HLK_CTL_WINDOW ∧ y.e = (m.seq.toNat + 1) % 2 ^ 32 ∧ y.last = s.rt ∧
          t.on Reg.HLK_FLAGS F.HLK_FLAGS_SESSION_OPEN = true ∧ (Unpaused m.iface s → t.hlk.out.length = 1) ∧ t.rn (Reg.HLK_S_ID k) = y.id % 2 ^ 32))) ∧
  (∀ (m : Msg) (s : State), ∀ q ∈ [(Instr.closeMsg m, 0x02), (.keepalive m, 0x03), (.regRead m, 0x10), (.regWrite m, 0x11),
      (.memRead m, 0x12), (.memWrite m, 0x13), (.blockRead m, 0x20), (.blockCancel m, 0x23), (.eventAck m, 0x41)],
    (Short m → s.takesMsg m = false → Runs q.1 s s.noOut) ∧
    (¬ Short m → s.hlkUp m.iface = true → ∃ t, Runs q.1 s t ∧ t.hlk.sess = s.hlk.sess ∧
      t.rd Reg.HLK_MACDROP = incSat32 (s.rd Reg.HLK_MACDROP) 1 ∧ KeepsRegs s t [Reg.HLK_MACDROP]) ∧
    (Reaches m s → s.sessSlot m.sess.toNat = none → ∃ t, Runs q.1 s t ∧ t.hlk.sess = s.hlk.sess ∧
      Leaves (btpFrame m.iface m.v6 (btpMessage false [] (q.2 + 0x80) m.sess.toNat m.seq.toNat 0 0x0B s.dev 0x0F []) s) s t) ∧
    ∀ k x, Reaches m s → s.sessSlot m.sess.toNat = some k → s.session k = some x →
      (x.auth = true → msgTagOk m q.2 x.key = false → ∃ t, Runs q.1 s t ∧ RegsOnly s.noOut t ∧
        t.rd Reg.HLK_AUTHFAIL = incSat32 (s.rd Reg.HLK_AUTHFAIL) 1 ∧ t.on Reg.HLK_FLAGS F.HLK_FLAGS_AUTH_FAIL = true ∧
        KeepsRegs s t [Reg.HLK_AUTHFAIL, Reg.HLK_FLAGS]) ∧
      ((x.auth = true → msgTagOk m q.2 x.key = true) →
        let d := (m.seq.toNat + 2 ^ 32 - x.e) % 2 ^ 32
        (d = 0 → 0 < x.w → x.busy = true → Runs q.1 s (received k s)) ∧
        (0 < d → d < x.w → x.buf.any (fun y => y.1 == m.seq.toNat) = false → ∃ t y, Runs q.1 s t ∧ t.session k = some y ∧
          y.buf = x.buf ++ [(m.seq.toNat, q.2, m)] ∧ y.e = x.e ∧ t.hlk.out = []) ∧
        (0 < d → x.w ≤ d → 2 ^ 32 - x.w ≤ d → ∃ t, Runs q.1 s t ∧ t.rd Reg.HLK_DUPCNT = incSat32 (s.rd Reg.HLK_DUPCNT) 1 ∧
          (∀ c, x.cache.find? (fun c => c.1 == m.seq.toNat) = some c → Leaves (btpFrame x.iface x.v6 c.2 s) s t) ∧
          (x.cache.find? (fun c => c.1 == m.seq.toNat) = none → t.hlk.out = [])) ∧
        (0 < d → x.w ≤ d → d < 2 ^ 32 - x.w → 2 ^ 31 ≤ d → ∃ t, Runs q.1 s t ∧
          Leaves (btpFrame x.iface x.v6 (btpMessage x.auth x.key (q.2 + 0x80) x.id m.seq.toNat x.e 0x10 s.dev 0x0F []) s) s t) ∧
        (0 < d → x.w ≤ d → d < 2 ^ 32 - x.w → d < 2 ^ 31 → ∃ t, Runs q.1 s t ∧ t.hlk.out = [] ∧
          t.rd Reg.HLK_DROPCNT = incSat32 (s.rd Reg.HLK_DROPCNT) 1 ∧ t.on Reg.HLK_FLAGS F.HLK_FLAGS_SEQ_DROP = true))) ∧
  (∀ (m : Msg) (k : Nat) (x : Session) (s : State),
    (Expected 0x03 m k x s → ∃ t, Runs (.keepalive m) s t ∧ Answered 0x03 0 0x0F [] k x s t ∧
      t.rd Reg.HLK_RXCNT = incSat32 (s.rd Reg.HLK_RXCNT) 1 ∧ t.rd Reg.HLK_TXCNT = incSat32 (s.rd Reg.HLK_TXCNT) 1 ∧
      KeepsRegs s t [Reg.HLK_RXCNT, Reg.HLK_TXCNT] ∧ KeepsMem s t) ∧
    (Expected 0x02 m k x s → k < 8 → ∃ t, Runs (.closeMsg m) s t ∧ t.session k = none ∧ (∀ b ∈ t.blks, b.sess ≠ k) ∧
      t.on Reg.HLK_FLAGS F.HLK_FLAGS_SESSION_END = true ∧ t.rd (Reg.HLK_S_ID k) = 0#32 ∧
      Leaves (btpFrame x.iface x.v6 (btpMessage x.auth x.key 0x82 x.id x.e ((x.e + 1) % 2 ^ 32) 0 s.dev 0x0F []) s) s t) ∧
    (Expected 0x41 m k x s →
      ((m.data.length < 8 ∨ m.data.length ≠ 8 + 2 * leAt m.data 4 2) → ∃ t, Runs (.eventAck m) s t ∧
        Answered 0x41 0x0D 0x0F [] k x s t) ∧
      (8 ≤ m.data.length → m.data.length = 8 + 2 * leAt m.data 4 2 → ∃ t, Runs (.eventAck m) s t ∧
        Answered 0x41 0 0x0F [] k x s t ∧
        (∀ y, t.session k = some y → y.evs = x.evs.filter (fun e => e.evseq != leAt m.data 0 4)) ∧
        ∀ i < leAt m.data 4 2, isSource (leAt m.data (8 + 2 * i) 2) = true → t.srcInsvc (leAt m.data (8 + 2 * i) 2) 1 = false))) ∧
  ∀ (k : Fin 8) (s : State),
    (s.session k = none → Runs (.sessionTimeout k) s s.noOut ∧ Runs (.eventRto k) s s.noOut) ∧
    ∀ x, s.session k = some x →
      (s.rt < x.last + s.rn Reg.HLK_SESS_TO * 1000 * tickUs → Runs (.sessionTimeout k) s s.noOut) ∧
      (x.last + s.rn Reg.HLK_SESS_TO * 1000 * tickUs ≤ s.rt → ∃ t, Runs (.sessionTimeout k) s t ∧ t.session k = none ∧
        (∀ b ∈ t.blks, b.sess ≠ k.val) ∧ t.on Reg.HLK_FLAGS F.HLK_FLAGS_SESSION_END = true) ∧
      (let due := x.evs.find? (fun e => decide (e.since + s.get Reg.HLK_RTO F.HLK_RTO_EVT * tickUs ≤ s.rt));
        (due = none → Runs (.eventRto k) s s.noOut) ∧
        ∀ e, due = some e →
          (e.sends < 16 → ∃ t, Runs (.eventRto k) s t ∧
            Leaves (btpFrame x.iface x.v6 (btpMessage x.auth x.key 0x40 x.id e.evseq 0 0 s.dev 0x0F e.data) s) s t) ∧
          (16 ≤ e.sends → ∃ t, Runs (.eventRto k) s t ∧ t.session k = none))

/-- Resting on R375, R376: a badly framed message is dropped and counted; one of unknown VERSION or TYPE that names no session is
answered UNSUPPORTED, and so is a COMMAND with an OP that R394 does not list. R385 to R387, R398: register and memory requests. -/
def Obligations.RegisterAndMemoryRequests : Prop :=
  (∀ (i : Fin 4) (v6 : Bool) (b : List Byte) (s : State),
    let m := parseMsg i v6 (BitVec.ofNat 16 s.btpPort) b
    let odd := leAt b 2 1 ≠ 1 ∨ hostTypes.contains (leAt b 3 1) = false
    let reply (x : Nat × Bool) (msg : List Byte) : FrameOut := btpFrame x.1 x.2 msg s
    (frameTooLong v6 b.length = true → s.hlkUp i = true → ∃ t, Runs (.unknownMessage i v6 b) s t ∧
      t.rd Reg.HLK_MACDROP = incSat32 (s.rd Reg.HLK_MACDROP) 1 ∧ KeepsRegs s t [Reg.HLK_MACDROP]) ∧
    (frameTooLong v6 b.length = false → s.reachable i v6 = false → Runs (.unknownMessage i v6 b) s s.noOut) ∧
    (frameTooLong v6 b.length = false → s.reachable i v6 = true →
      (wellFramed b = false → ∃ t, Runs (.unknownMessage i v6 b) s t ∧ RegsOnly s.noOut t ∧
        t.rd Reg.HLK_DROPCNT = incSat32 (s.rd Reg.HLK_DROPCNT) 1 ∧ KeepsRegs s t [Reg.HLK_DROPCNT]) ∧
      (wellFramed b = true → odd → s.sessSlot m.sess.toNat = none → ∃ t, Runs (.unknownMessage i v6 b) s t ∧
        Leaves (reply (i, v6) (btpMessage false [] (leAt b 3 1 % 128 + 0x80) m.sess.toNat m.seq.toNat 0 0x0E s.dev 0x0F [])) s t) ∧
      (wellFramed b = true → odd → ∀ k x, s.sessSlot m.sess.toNat = some k → s.session k = some x →
        (x.auth = true → bitOf m.flags.toNat 0 = true ∧ m.tag = btpTag x.key (b.take (24 + m.data.length))) →
        ∃ t, Runs (.unknownMessage i v6 b) s t ∧ Leaves (reply (x.iface, x.v6)
          (btpMessage x.auth x.key (leAt b 3 1 % 128 + 0x80) x.id m.seq.toNat x.e 0x0E s.dev 0x0F [])) s t)) ∧
    (∀ k x, frameTooLong v6 b.length = false → wellFramed b = true → leAt b 2 1 = 1 → leAt b 3 1 = 0x30 → m.data ≠ [] → Expected 0x30 m k x s →
      leAt m.data 0 1 ∉ [1, 2, 3, 0x10, 0x11, 0x20, 0x21, 0x22, 0x30] → ∃ t, Runs (.unknownMessage i v6 b) s t ∧
        Answered 0x30 0x0E 0x0F (commandReply s.tick (s.rn Reg.CKS_EPOCH) 0xFF 0) k x s t)) ∧
  ∀ (m : Msg) (k : Nat) (x : Session) (s : State),
    let p := m.data
    let u := received k s
    (Expected 0x10 m k x s →
      ((regReqBad p 4 = true ∨ s.fits x.iface x.v6 x.auth (4 + 8 * leAt p 0 2) = false) → ∃ t, Runs (.regRead m) s t ∧
        Answered 0x10 0x0D 0x0F [] k x s t) ∧
      (regReqBad p 4 = false → s.fits x.iface x.v6 x.auth (4 + 8 * leAt p 0 2) = true →
        let r := readEntries (payloadWords p 4 (leAt p 0 2)) u
        ∃ t, Runs (.regRead m) s t ∧ Answered 0x10 (firstBad (r.1.map (fun e => e.1))) 0x0F
          (leBytes 2 (leAt p 0 2) ++ leBytes 2 0 ++ r.1.flatMap (fun e => leBytes 4 e.2.toNat ++ leBytes 2 e.1 ++ leBytes 2 0))
          k x s t)) ∧
    (Expected 0x11 m k x s →
      (regReqBad p 8 = true → ∃ t, Runs (.regWrite m) s t ∧ Answered 0x11 0x0D 0x0F [] k x s t) ∧
      (regReqBad p 8 = false →
        let r := writeEntries x.id x.auth ((List.range (leAt p 0 2)).map (fun i => (leAt p (4 + 8 * i) 4, leAt p (8 + 8 * i) 4))) u
        Runs (.regWrite m) s (drainSession 256 k (afterReply
          (answer k 0x11 (firstBad r.1) 0x0F (leBytes 2 (leAt p 0 2) ++ leBytes 2 0 ++ r.1.flatMap (leBytes 2)) r.2))) ∧
        (leAt p 0 2 = 1 → leAt p 4 4 % 4 ≠ 0 → ∃ t, Runs (.regWrite m) s t ∧
          Answered 0x11 0x04 0x0F (leBytes 2 1 ++ leBytes 2 0 ++ leBytes 2 4) k x s t ∧
          t.on Reg.HLK_ERR F.HLK_ERR_ADDRESS = true ∧ KeepsRegs s t [Reg.HLK_ERR, Reg.HLK_RXCNT, Reg.HLK_TXCNT]))) ∧
    (Expected 0x12 m k x s →
      let bad := memBad p = true ∨ s.fits x.iface x.v6 x.auth (leAt p 4 4) = false
      let st := memStatus (leAt p 0 1) (leAt p 8 8) (leAt p 4 4) false u
      (bad → ∃ t, Runs (.memRead m) s t ∧ Answered 0x12 0x0D 0x0F [] k x s t ∧ KeepsMem s t) ∧
      (¬ bad → s.memRefused false = true → ∃ t, Runs (.memRead m) s t ∧ Answered 0x12 0x01 0x0F [] k x s t ∧ KeepsMem s t) ∧
      (¬ bad → s.memRefused false = false → st ≠ 0 → ∃ t, Runs (.memRead m) s t ∧ Answered 0x12 st 0x0F [] k x s t ∧
        KeepsMem s t) ∧
      (¬ bad → s.memRefused false = false → st = 0 → leAt p 0 1 = 1 → ∃ t, Runs (.memRead m) s t ∧
        Answered 0x12 0 0x0F (s.pmemBytes (leAt p 8 8) (leAt p 4 4)) k x s t ∧ KeepsMem s t) ∧
      (¬ bad → s.memRefused false = false → st = 0 → leAt p 0 1 = 0 →
        (s.rangeSleeps (leAt p 8 8) (leAt p 4 4) = false →
          let r := memRead (leAt p 8 8) (leAt p 4 4) u
          ∃ t, Runs (.memRead m) s t ∧ Answered 0x12 (if r.2.1 then 0x08 else 0) 0x0F r.1 k x s t) ∧
        (s.rangeSleeps (leAt p 8 8) (leAt p 4 4) = true → ∃ t y, Runs (.memRead m) s t ∧ t.session k = some y ∧
          y.buf = [(m.seq.toNat, 0x12, m)] ∧ y.e = x.e ∧ t.hlk.out = []))) ∧
    (Expected 0x13 m k x s →
      let n := leAt p 4 4
      let a := leAt p 8 8
      let bad := memBad p = true ∨ p.length ≠ 16 + n
      let st := memStatus (leAt p 0 1) a n true u
      (bad → ∃ t, Runs (.memWrite m) s t ∧ Answered 0x13 0x0D 0x0F [] k x s t ∧ KeepsMem s t) ∧
      (¬ bad → s.memRefused true = true → ∃ t, Runs (.memWrite m) s t ∧ Answered 0x13 0x01 0x0F [] k x s t ∧ KeepsMem s t) ∧
      (¬ bad → s.memRefused true = false → st ≠ 0 → ∃ t, Runs (.memWrite m) s t ∧ Answered 0x13 st 0x0F [] k x s t ∧
        KeepsMem s t) ∧
      (¬ bad → s.memRefused true = false → st = 0 → leAt p 0 1 = 1 → ∃ t, Runs (.memWrite m) s t ∧
        Answered 0x13 0 0x0F [] k x s t ∧ (∀ i < n, t.pmemByte (a + i) = p.getD (16 + i) 0#8) ∧
        (∀ b, b < a ∨ a + n ≤ b → t.pmemByte b = s.pmemByte b) ∧ ∀ b, t.memByte b = s.memByte b) ∧
      (¬ bad → s.memRefused true = false → st = 0 → leAt p 0 1 = 0 → ∃ v, Runs (.memWrite m) s v ∧
        Answered 0x13 0 0x0F [] k x s v ∧ (∀ b, v.pmemByte b = s.pmemByte b)))

/-- Resting on R389, R390, R391, R392: a block read is refused with its status or begins with frame 0; a frame leaves while the
window allows; an acknowledgement advances CUM and frees a finished stream; frames outstanding for HLK_RTO.DATA are sent again,
sixteen such timeouts end the read with TIMEOUT; a cancelled stream is free. -/
def Obligations.BlockReads : Prop :=
  (∀ (m : Msg) (k : Nat) (x : Session) (s : State),
    let p := m.data
    let u := received k s
    (Expected 0x20 m k x s →
      let bad := blockBad p = true ∨ s.fits x.iface x.v6 x.auth (24 + leAt p 4 2) = false
      let st := memStatus (leAt p 0 1) (leAt p 8 8) (leAt p 16 8) false u
      (bad → ∃ t, Runs (.blockRead m) s t ∧ Answered 0x20 0x0D 0x0F [] k x s t ∧ t.blks = s.blks) ∧
      (¬ bad → s.memRefused false = true → ∃ t, Runs (.blockRead m) s t ∧ Answered 0x20 0x01 0x0F [] k x s t ∧ t.blks = s.blks) ∧
      (¬ bad → s.memRefused false = false → st ≠ 0 → ∃ t, Runs (.blockRead m) s t ∧ Answered 0x20 st 0x0F [] k x s t ∧
        t.blks = s.blks) ∧
      (¬ bad → s.memRefused false = false → st = 0 → ((s.blkOf k (leAt p 3 1)).isSome = true ∨ 8 ≤ s.blks.length ∨
          (leAt p 1 1 = 1 ∧ ∀ c < 8, s.on (Reg.CMP_CTL c) F.CMP_CTL_ENABLE = false)) →
        ∃ t, Runs (.blockRead m) s t ∧ Answered 0x20 0x0F 0x0F [] k x s t ∧ t.blks = s.blks) ∧
      (¬ bad → s.memRefused false = false → st = 0 → s.blkOf k (leAt p 3 1) = none → s.blks.length < 8 → leAt p 1 1 = 0 →
        ∃ t, Runs (.blockRead m) s t ∧ Answered 0x20 0 0x0F [] k x s t ∧ ∃ b ∈ t.blks, b.sess = k ∧ b.id = leAt p 3 1 ∧
          b.seq = x.e ∧ b.space = leAt p 0 1 ∧ b.mode = 0 ∧ b.frame = leAt p 4 2 ∧ b.window = leAt p 6 2 ∧
          b.addr = leAt p 8 8 ∧ b.len = leAt p 16 8 ∧ b.next = 0 ∧ b.cum = 0)) ∧
    (Expected 0x23 m k x s →
      (p.length < 4 → ∃ t, Runs (.blockCancel m) s t ∧ Answered 0x23 0x0D 0x0F [] k x s t) ∧
      (4 ≤ p.length → ∃ t y, Runs (.blockCancel m) s t ∧ t.blkOf k (leAt p 0 1) = none ∧ t.session k = some y ∧
        y.e = (x.e + 1) % 2 ^ 32 ∧ (s.blkOf k (leAt p 0 1) = none → Answered 0x23 0 0x0F [] k x s t))) ∧
    (Reaches m s → s.sessSlot m.sess.toNat = some k → s.session k = some x →
      (x.auth = true → msgTagOk m 0x22 x.key = true) → p.length = 8 → leAt p 1 1 = 0 →
      (s.blkOf k (leAt p 0 1) = none → Runs (.dataAck m) s u) ∧
      ∀ b, s.blkOf k (leAt p 0 1) = some b →
        (b.next < leAt p 4 4 → Runs (.dataAck m) s u) ∧
        (b.cum < leAt p 4 4 → leAt p 4 4 ≤ b.next →
          (b.last = none → ∃ t c, Runs (.dataAck m) s t ∧ t.blkOf k (leAt p 0 1) = some c ∧ c.cum = leAt p 4 4 ∧ c.next = b.next ∧
            c.timeouts = 0 ∧ c.since = s.rt) ∧
          (∀ f st, b.last = some (f, st) → f < leAt p 4 4 → ∃ t, Runs (.dataAck m) s t ∧ t.blkOf k (leAt p 0 1) = none)))) ∧
  ∀ (k id : Fin 8) (s : State),
    (s.session k = none → Runs (.dataSend k id) s s.noOut ∧ Runs (.dataRto k id) s s.noOut) ∧
    (s.blkOf k id = none → Runs (.dataSend k id) s s.noOut ∧ Runs (.dataRto k id) s s.noOut) ∧
    ∀ x b, s.session k = some x → s.blkOf k id = some b →
      ((s.hlkUp x.iface = false ∨ s.rt < (s.hif x.iface).pause ∨ (s.dev = devStandby ∧ b.space = 0)) → Runs (.dataSend k id) s s.noOut) ∧
      (s.hlkUp x.iface = true → (s.hif x.iface).pause ≤ s.rt → b.space = 1 → b.mode = 0 → b.again = [] → b.last = none →
        b.fail = none → b.next < b.cum + b.window →
        let o := b.next * b.frame
        let n := min b.frame (b.len - o)
        let fin := decide (b.len ≤ o + n)
        ∃ t, Runs (.dataSend k id) s t ∧ (∃ c, t.blkOf k id = some c ∧ c.next = b.next + 1 ∧ c.last.isSome = fin) ∧
          Leaves (btpFrame x.iface x.v6 (btpMessage x.auth x.key 0x21 x.id b.seq 0 (if fin && b.poisoned then 0x08 else 0) s.dev 0x0F
            (leBytes 1 b.id ++ leBytes 1 (b2n fin) ++ leBytes 2 0 ++ leBytes 4 b.next ++ leBytes 8 o ++ leBytes 4 0 ++
              leBytes 4 0 ++ s.pmemBytes (b.addr + o) n)) s) s t) ∧
      ((b.next = b.cum ∨ s.rt < b.since + s.get Reg.HLK_RTO F.HLK_RTO_DATA * tickUs ∨ s.streamWaits x b b.oldest = true) →
        Runs (.dataRto k id) s s.noOut) ∧
      (b.next ≠ b.cum → b.since + s.get Reg.HLK_RTO F.HLK_RTO_DATA * tickUs ≤ s.rt → b.last = none → s.hlkUp x.iface = true →
        Unpaused x.iface s → b.space = 1 → b.mode = 0 → b.lastSends = 0 →
        (b.timeouts < 15 → ∃ t c, Runs (.dataRto k id) s t ∧
          t.blkOf k id = some c ∧ c.timeouts = b.timeouts + 1 ∧ c.since = s.rt ∧ c.next = b.next ∧ t.hlk.out.length = 1 ∧
          t.rd Reg.HLK_RETXCNT = incSat32 (s.rd Reg.HLK_RETXCNT) 1) ∧
        (15 ≤ b.timeouts → ∃ t c, Runs (.dataRto k id) s t ∧ t.on Reg.HLK_FLAGS F.HLK_FLAGS_STREAM_TIMEOUT = true ∧
          t.blkOf k id = some c ∧ c.last = some (b.next, 0x12)))

/-- Resting on 15 R394, R395, R398; 01 R35, R36; 16 R418 to R420: where no trigger, close or end of ARMING of a named group is due
in the same control cycle, ARM, HALT and STOP apply to every group named or to none, and the reply says which group refused, or
that the time of acceptance is now; a chain command is held for its time. -/
def Obligations.GroupCommands : Prop :=
  (∀ (m : Msg) (k : Nat) (x : Session) (s : State),
    let u := received k s
    let mask := leAt m.data 1 2
    ∀ q ∈ [(Instr.arm m, 1), (.halt m, 2), (.stop m, 3)],
      Expected 0x30 { m with data := BitVec.ofNat 8 q.2 :: m.data } k x s →
      let reply (g : Nat) : List Byte := commandReply s.tick (s.rn Reg.CKS_EPOCH) g 0
      let bad := m.data.length < 15 ∨ 1 < leAt m.data 0 1 ∨ mask = 0
      (bad → ∃ t, Runs q.1 s t ∧ Answered 0x30 0x0D 0x0F (reply 0xFF) k x s t) ∧
      (¬ bad → leAt m.data 0 1 = 1 →
        ((s.root && s.chnFormed) = false → ∃ t, Runs q.1 s t ∧
          Answered 0x30 0x01 (s.gst (concerned 0xFF mask)) (reply 0xFF) k x s t ∧ t.on Reg.HLK_ERR F.HLK_ERR_STATE = true) ∧
        ((s.root && s.chnFormed) = true → ∃ t y, Runs q.1 s t ∧ t.hlk.out = [] ∧ t.session k = some y ∧ y.busy = true ∧ y.e = x.e ∧
          ∃ c ∈ t.chn.cmds, c.op = q.2 ∧ c.groups = mask ∧ c.reply = some (k, x.e))) ∧
      (¬ bad → leAt m.data 0 1 = 0 →
        (s.dev ≠ devConfigured → ∃ t, Runs q.1 s t ∧
          Answered 0x30 0x01 (s.gst (concerned 0xFF mask)) (reply 0xFF) k x s t ∧ ∀ g < 16, t.gst g = s.gst g) ∧
        (s.dev = devConfigured → (∀ g < 16, bitOf mask g = true → Quiet u g) →
          let status := if q.2 = 1 then armStatus u else if q.2 = 2 then haltStatus u else stopStatus u
          (∀ g, (groupsIn mask).find? (fun g => status g != 0) = some g → ∃ t, Runs q.1 s t ∧
            Answered 0x30 (status g) (s.gst g) (reply g) k x s t ∧ ∀ h < 16, t.gst h = s.gst h) ∧
          ((groupsIn mask).find? (fun g => status g != 0) = none → ∃ t, Runs q.1 s t ∧
            Answered 0x30 0 (t.gst (concerned 0xFF mask)) (reply 0xFF) k x s t ∧ ∀ g < 16,
              (bitOf mask g = false → t.gst g = s.gst g) ∧
              (bitOf mask g = true → t.gst g = (if q.2 = 1 then gArming else if q.2 = 2 then gHalting else gStopped)))))) ∧
  ∀ s : State,
    (s.chn.cmds = [] → Runs .chainCmdApply s (drainSessions s.noOut)) ∧
    ∀ c rest, s.chn.cmds = c :: rest →
      (0 < tickDiff c.at_ s.tick → Runs .chainCmdApply s (drainSessions s.noOut)) ∧
      (tickDiff c.at_ s.tick ≤ 0 →
        let v := { s.noOut with chn := { s.chn with cmds := rest } }.setFlagIf c.late Reg.CHN_FLAGS F.CHN_FLAGS_CMD_LATE
        ((runGroupOp c.op c.groups v).1 = none →
          Runs .chainCmdApply s (drainSessions (cmdOutcome c 0 0xFF (runGroupOp c.op c.groups v).2))) ∧
        ∀ g st, (runGroupOp c.op c.groups v).1 = some (g, st) → Runs .chainCmdApply s (drainSessions (cmdOutcome c st g (runGroupOp c.op c.groups v).2)))

/-- Resting on 15 R394, R398; 17 R434, R436; 18 R463, R464, R466, R467: STANDBY, WAKE and the image commands are legal in the
states that R398 gives, their refusals named; STANDBY, WAKE and a region load that waits for VDDC answer only when they are done.
SYSTEM and WARM answer first. -/
def Obligations.DeviceCommands : Prop :=
  ∀ (m : Msg) (k : Nat) (x : Session) (s : State),
    let u := received k s
    let reply (g d : Nat) : List Byte := commandReply s.tick (s.rn Reg.CKS_EPOCH) g d
    let param := leAt m.data 3 4
    let wf := 15 ≤ m.data.length ∧ leAt m.data 0 1 = 0
    let exp (op : Nat) : Prop := Expected 0x30 { m with data := BitVec.ofNat 8 op :: m.data } k x s
    (∀ q ∈ [(Instr.standby m, 0x10), (.wake m, 0x11), (.imageLoad m, 0x20), (.regionLoad m, 0x21), (.imageUnload m, 0x22)],
      exp q.2 → (0x20 ≤ q.2 → s.cfg.loading = none) →
      (¬ wf → ∃ t, Runs q.1 s t ∧ Answered 0x30 0x0D 0x0F (reply 0xFF 0) k x s t) ∧
      (wf → s.dev ∉ (if q.2 = 0x20 then [devUnconfigured, devConfigured] else if q.2 = 0x11 then [devStandby] else [devConfigured]) →
        (q.2 = 0x11 → s.dev ≠ devStandby) → ∃ t, Runs q.1 s t ∧ Answered 0x30 0x01 0x0F (reply 0xFF 0) k x s t ∧ t.dev = s.dev ∧
          t.on Reg.HLK_ERR F.HLK_ERR_STATE = true) ∧
      (wf → q.2 ≠ 0x11 → q.2 ≠ 0x21 → s.dev = devConfigured → ∀ g,
        s.groupNot (if q.2 = 0x10 then [gStopped, gHalted, gUnused] else atRest) = some g → ∃ t, Runs q.1 s t ∧
          Answered 0x30 0x01 (s.gst g) (reply g 0) k x s t ∧ t.dev = s.dev)) ∧
    (exp 0x10 → wf → s.dev = devConfigured → s.groupNot [gStopped, gHalted, gUnused] = none →
      (standbyStatus u = 0x17 → ∃ t, Runs (.standby m) s t ∧ Answered 0x30 0x17 0x0F (reply 0xFF 0) k x s t ∧
        t.get Reg.EVC_SLEEP_STAT F.EVC_SLEEP_STAT_DEV = 2) ∧
      (standbyStatus u ≠ 0x17 → ∃ t y, Runs (.standby m) s t ∧ t.hlk.out = [] ∧ t.session k = some y ∧ y.busy = true ∧
        t.pwr.asked = true ∧ (k, x.id, s.tick) ∈ t.pwr.toEnter)) ∧
    (exp 0x11 → wf → s.dev = devStandby → ∃ t y, Runs (.wake m) s t ∧ t.hlk.out = [] ∧ t.session k = some y ∧ y.busy = true ∧
      (k, x.id, s.tick) ∈ t.pwr.toWake ∧ (s.pwr.waking = none → t.pwr.waking = some (s.rt, true))) ∧
    (exp 0x20 → wf → s.cfg.loading = none → (s.dev = devUnconfigured ∨ s.dev = devConfigured ∧ s.groupNot atRest = none) →
      ((imageLoad param u).1 = 0 → ∃ t, Runs (.imageLoad m) s t ∧ Answered 0x30 0 0x0F (reply 0xFF 0) k x s t ∧
        t.dev = devConfigured) ∧
      ((imageLoad param u).1 ≠ 0 → ∃ t, Runs (.imageLoad m) s t ∧
        Answered 0x30 0x13 0x0F (reply 0xFF (imageLoad param u).1) k x s t)) ∧
    (exp 0x21 → wf → s.cfg.loading = none → s.dev = devConfigured →
      let r := regionLoad param u
      let short := (raisePlans (param / 256) r.2 u).planShort (param / 256)
      ((r.1 ≠ 0 ∨ short = false) → ∃ t, Runs (.regionLoad m) s t ∧
        Answered 0x30 (if r.1 = 0 then 0 else 0x13) 0x0F (reply 0xFF r.1) k x s t) ∧
      (r.1 = 0 → short = true → ∃ t y, Runs (.regionLoad m) s t ∧ t.hlk.out = [] ∧ t.session k = some y ∧ y.busy = true ∧
        t.cfg.loading = some (param, k, x.id, s.rt) ∧ t.get Reg.FAB_STATUS F.FAB_STATUS_LOAD_REGIONS = param / 256 % 256)) ∧
    (exp 0x22 → wf → s.cfg.loading = none → s.dev = devConfigured → s.groupNot atRest = none → ∃ t, Runs (.imageUnload m) s t ∧
      Answered 0x30 0 0x0F (reply 0xFF 0) k x s t ∧ t.dev = devUnconfigured ∧
      t.get Reg.CFG_STATUS F.CFG_STATUS_ACTIVE = 7 ∧ ∀ g < 16, t.gst g = gUnused) ∧
    (param = 1 → Runs (.systemReset m) s s) ∧ (param ≠ 1 → Runs (.warmReset m) s s) ∧
    (exp 0x30 → wf →
      (1 < param → ∃ t, Runs (.systemReset m) s t ∧ Answered 0x30 0x0D 0x0F (reply 0xFF 0) k x s t) ∧
      (param = 0 → Unpaused x.iface s → ∃ t, Runs (.systemReset m) s t ∧ t.dev = devBoot ∧ t.tick = 0 ∧ t.hlk.sess = [] ∧ t.nv = s.nv ∧
        t.rn Reg.DEV_RESET_CAUSE = 4 + 256 * b2n (s.dev == devFault) ∧ t.hlk.out =
          [btpFrame x.iface x.v6 (btpMessage x.auth x.key 0xB0 x.id x.e ((x.e + 1) % 2 ^ 32) 0 s.dev 0x0F (reply 0xFF 0)) s]) ∧
      (param = 1 → s.boot.warmWait = none → Unpaused x.iface s → ∃ t, Runs (.warmReset m) s t ∧ t.tick = s.tick ∧
        (t.boot.warmWait = some s.rt ∨ t.boot.warm = true ∧ t.dev = devBoot) ∧ t.hlk.out.head? =
          some (btpFrame x.iface x.v6 (btpMessage x.auth x.key 0xB0 x.id x.e ((x.e + 1) % 2 ^ 32) 0 s.dev 0x0F (reply 0xFF 0)) s)))

/-! ### Chain (16_eweone_chain.md) -/

/-- Resting on R402, R404, R405, R408, R412, R414, R415, R424: a link comes up once, with its eye judged, and goes down with
LINK_DOWN, this device's own EVENTs waiting on; a device whose upstream link goes down becomes root where it may fall back or is
not on the chain's reference (keeping its address while a group runs). An IDLE cell carries ACK, CREDIT and ALIGNED; cells not
acknowledged within 2 µs are sent again, the ninth time takes the link down, as sixteen bad cells do. A trigger cell is taken
once, goes on and awaits its release. A message is taken only in sequence. -/
def Obligations.ChainLinks : Prop :=
  (∀ (i : Fin 2) (eye : Byte) (s : State),
    let least := s.get Reg.CHN_EYE_MIN F.CHN_EYE_MIN_MIN
    let warn := s.get Reg.CHN_EYE_MIN F.CHN_EYE_MIN_WARN
    ((s.linkUp i = true ∨ i = 1 ∧ s.on Reg.CHN_CTL F.CHN_CTL_DOWN_EN = false) → Runs (.chainLinkUp i eye) s s) ∧
    (s.linkUp i = false → (i = 1 → s.on Reg.CHN_CTL F.CHN_CTL_DOWN_EN = true) →
      (least ≤ eye.toNat → ∃ t, Runs (.chainLinkUp i eye) s t ∧
        t.linkUp i = true ∧ t.get Reg.CHN_EYE (eyeFld i) = eye.toNat ∧
        (eye.toNat < warn → t.on Reg.CHN_FLAGS F.CHN_FLAGS_EYE_LOW = true) ∧
        (i = 0 → t.on Reg.CKS_STATUS F.CKS_STATUS_CHREF_OK = true ∧ t.root = false) ∧
        (i = 1 → s.root = true → t.chn.enumAt = some (s.rt + 1000 * tickUs)) ∧
        (i = 1 → s.root = false → s.linkUp 0 = true → Queued 0 0x06 s.chnAddr [] s t)) ∧
      (eye.toNat < least → ∃ t, Runs (.chainLinkUp i eye) s t ∧ t.linkUp i = false ∧
        t.on Reg.CHN_FLAGS F.CHN_FLAGS_LINK_DOWN = true)) ∧
    (s.linkUp i = false → Runs (.chainLinkDown i) s s) ∧
    (s.linkUp i = true → ∃ t, Runs (.chainLinkDown i) s t ∧ t.linkUp i = false ∧ t.on Reg.CHN_FLAGS F.CHN_FLAGS_LINK_DOWN = true ∧
      (t.port i).msgQ = ((s.port i).unacked ++ (s.port i).msgQ).filter (fun m => m.own) ∧ (t.port i).unacked = [] ∧
      (i = 0 → t.on Reg.CKS_STATUS F.CKS_STATUS_CHREF_OK = false ∧ t.get Reg.CHN_STATUS F.CHN_STATUS_STATE = 0 ∧
        (s.on Reg.CKS_REF_CTL F.CKS_REF_CTL_FALLBACK = true ∨ s.on Reg.CKS_STATUS F.CKS_STATUS_ACTIVE_SRC = false →
          t.root = true ∧ t.chnAddr = (if s.anyRunning = true ∧ s.chnAddr ≠ 0 then s.chnAddr else 1) ∧ t.chn.enumAt = some (s.rt + 1000 * tickUs)) ∧
        (s.on Reg.CKS_REF_CTL F.CKS_REF_CTL_FALLBACK = false → s.on Reg.CKS_STATUS F.CKS_STATUS_ACTIVE_SRC = true →
          t.root = s.root ∧ t.chnAddr = s.chnAddr ∧ (s.root = false → t.on Reg.CHN_STATUS F.CHN_STATUS_TB_ALIGNED = false))) ∧
      (i = 1 → s.root = true → t.chn.enumAt = some (s.rt + 1000 * tickUs)) ∧
      (i = 1 → s.root = false → s.linkUp 0 = true → Queued 0 0x06 s.chnAddr [] s t))) ∧
  (∀ (i : Fin 2) (ack credit : Byte) (aligned : Bool) (eye : Byte) (s : State),
    (s.linkUp i = false → Runs (.idleCell i ack credit aligned eye) s s) ∧
    (s.linkUp i = true →
      let n := (ack.toNat + 256 + (s.port i).unacked.length - (s.port i).txSeq) % 256
      (s.get Reg.CHN_EYE (eyeFld i) ≤ eye.toNat → ∃ t, Runs (.idleCell i ack credit aligned eye) s t ∧ t.linkUp i = true ∧
        (t.port i).credit = min 16 credit.toNat ∧ (t.port i).peerAligned = aligned ∧ (t.port i).msgQ = (s.port i).msgQ ∧
        (0 < n → n ≤ (s.port i).unacked.length → (t.port i).unacked = (s.port i).unacked.drop n) ∧
        (n = 0 → (t.port i).unacked = (s.port i).unacked) ∧
        (i = 0 → aligned = true → s.root = false → 16 ≤ s.chn.inRounds → s.on Reg.CKS_STATUS F.CKS_STATUS_ACTIVE_SRC = true →
          t.on Reg.CHN_STATUS F.CHN_STATUS_TB_ALIGNED = true) ∧
        (i = 0 → aligned = false → s.root = false → t.on Reg.CHN_STATUS F.CHN_STATUS_TB_ALIGNED = false) ∧
        KeepsRegs s t [Reg.CHN_STATUS, Reg.CHN_FLAGS]) ∧
      (eye.toNat < s.get Reg.CHN_EYE (eyeFld i) → s.get Reg.CHN_EYE_MIN F.CHN_EYE_MIN_MIN ≤ eye.toNat →
        ∃ t, Runs (.idleCell i ack credit aligned eye) s t ∧ t.linkUp i = true ∧ t.get Reg.CHN_EYE (eyeFld i) = eye.toNat ∧
          (eye.toNat < s.get Reg.CHN_EYE_MIN F.CHN_EYE_MIN_WARN → t.on Reg.CHN_FLAGS F.CHN_FLAGS_EYE_LOW = true)) ∧
      (eye.toNat < s.get Reg.CHN_EYE (eyeFld i) → eye.toNat < s.get Reg.CHN_EYE_MIN F.CHN_EYE_MIN_MIN →
        ∃ t, Runs (.idleCell i ack credit aligned eye) s t ∧ t.linkUp i = false))) ∧
  (∀ (i : Fin 2) (s : State),
    let p := s.port i
    ((s.linkUp i = false ∨ p.unacked = [] ∨ s.rt < p.ackSince + 2 * tickUs) → Runs (.cellResend i) s s) ∧
    (s.linkUp i = true → p.unacked ≠ [] → p.ackSince + 2 * tickUs ≤ s.rt →
      (p.rounds < 8 → ∃ t, Runs (.cellResend i) s t ∧ (t.port i).again = some 0 ∧ (t.port i).rounds = p.rounds + 1 ∧
        (t.port i).unacked = p.unacked ∧ (t.port i).ackSince = s.rt ∧ t.regs = s.regs) ∧
      (8 ≤ p.rounds → ∃ t, Runs (.cellResend i) s t ∧ t.linkUp i = false)) ∧
    (∀ u, s.linkUp i = false → Runs (.badCell i u) s s) ∧
    (s.linkUp i = true → ∃ t, Runs (.badCell i none) s t ∧ t.rd Reg.CHN_CRCERR = incSat32 (s.rd Reg.CHN_CRCERR) 1 ∧
      t.on Reg.CHN_FLAGS F.CHN_FLAGS_LINK_ERR = true ∧
      t.linkUp i = decide ((p.bad.filter (fun t => decide (s.rt < t + 256 * 2048))).length < 15)) ∧
    (∀ l : Byte, s.linkUp i = true →
      (¬ Accepts i ⟨0#8, l, []⟩ s → Runs (.badCell i (some l)) s s) ∧
      (Accepts i ⟨0#8, l, []⟩ s → ∃ t, Runs (.badCell i (some l)) s t ∧ (t.port i).rxSeq = (p.rxSeq + 1) % 256 ∧
        t.rd Reg.CHN_CRCERR = incSat32 (s.rd Reg.CHN_CRCERR) 1 ∧ t.on Reg.CHN_FLAGS F.CHN_FLAGS_LINK_ERR = true)) ∧
    (∀ c : List Byte,
      ((s.linkUp i = false ∨ p.prevTrig = some c) → Runs (.triggerCell i c) s s) ∧
      (s.linkUp i = true → p.prevTrig ≠ some c →
        let ts := extendTicks 40 (leAt c 3 5) s.tick
        let release := (ts + leAt c 9 4) % 2 ^ 64
        ∃ t, Runs (.triggerCell i c) s t ∧ (t.port i).prevTrig = some c ∧
          t.rd Reg.CHN_TRIGRX = incSat32 (s.rd Reg.CHN_TRIGRX) 1 ∧
          (⟨leAt c 0 1 % 16, release, (ts * 256 + leAt c 8 1) % 2 ^ 72⟩ : ChnTrig) ∈ t.chn.await ∧
          (tickDiff release s.tick < 0 → t.on Reg.CHN_FLAGS F.CHN_FLAGS_TRIG_LATE = true) ∧
          (s.linkUp (1 - i) = true → (s.port (1 - i)).trigQ.length < 16 →
            (t.port (1 - i)).trigQ = (s.port (1 - i)).trigQ ++ [c]) ∧
          (s.linkUp (1 - i) = true → 16 ≤ (s.port (1 - i)).trigQ.length →
            t.rd Reg.CHN_TRIGDROP = incSat32 (s.rd Reg.CHN_TRIGDROP) 1 ∧ t.on Reg.CHN_FLAGS F.CHN_FLAGS_TRIG_DROP = true) ∧
          KeepsRegs s t [Reg.CHN_TRIGRX, Reg.CHN_TRIGDROP, Reg.CHN_FLAGS]))) ∧
  ∀ (c : Cell) (e : Bool) (s : State), ∀ q ∈ [(Instr.enumClaim c e, 0), (.enumReturn c, 1), (.enumAssign c e, 0), (.enumDone c, 1),
      (.config c, 0), (.topo c, 1), (.eventCell c, 1), (.cmd c, 0), (.cmdRes c, 1), (.snap c, 0), (.ptpmap c, 0)],
    (¬ Accepts q.2 c s → Runs q.1 s s) ∧
    (Accepts q.2 c s → ∃ t, Runs q.1 s t ∧ (t.port q.2).rxSeq = ((s.port q.2).rxSeq + 1) % 256)

/-- Resting on R408, R409, R410, R423, R425: without an upstream link the device becomes root and enumerates; claims, addresses
and delays travel down and up the chain, each device taking its address, until the root has COUNT and RELEASE and CONFIG forms the
chain; a change below starts it again. -/
def Obligations.ChainForms : Prop :=
  (∀ s : State,
    let gen := (s.rn Reg.CHN_GEN + 1) % 65536
    let started (t : State) : Prop := t.rn Reg.CHN_GEN = gen ∧ t.on Reg.CHN_FLAGS F.CHN_FLAGS_TOPO_CHANGE = true ∧
      (s.linkUp 1 = true → t.get Reg.CHN_STATUS F.CHN_STATUS_STATE = 1 ∧ t.chn.enumStep = 1 ∧
        Queued 1 0x01 t.chnAddr (leBytes 8 2 ++ leBytes 2 gen) s t) ∧
      (s.linkUp 1 = false → t.chnFormed = true ∧ t.get Reg.CHN_STATUS F.CHN_STATUS_COUNT = 1 ∧ t.rn Reg.CHN_RELEASE = 3072)
    let search := s.clk.released = true ∧ s.root = false ∧ s.linkUp 0 = false ∧ s.clk.relRt + 10000 * tickUs ≤ s.rt ∧
      s.get Reg.CHN_STATUS F.CHN_STATUS_STATE = 0 ∧ s.chnAddr = 0
    (search → ∃ t, Runs .rootSearchEnd s t ∧ t.root = true ∧ t.chnAddr = 1 ∧ started t) ∧
    (¬ search → Runs .rootSearchEnd s s) ∧
    (s.root = true → (∃ t, Runs .reenum s t ∧ started t ∧ t.chn.enumAt = s.chn.enumAt) ∧ ∀ at_, s.chn.enumAt = some at_ →
      (at_ ≤ s.rt → ∃ t, Runs .enumerationStart s t ∧ started t ∧ t.chn.enumAt = none) ∧
      (s.rt < at_ → Runs .enumerationStart s s)) ∧
    (s.root = false → Runs .reenum s s ∧ Runs .enumerationStart s s) ∧ (s.chn.enumAt = none → Runs .enumerationStart s s)) ∧
  ∀ (c : Cell) (b : Bool) (s : State),
    let mask := leAt c.data 0 8
    let gen := leAt c.data 8 2
    (Accepts 0 c s →
      (let own : Option (Nat × Bool) := if s.anyRunning = true ∧ s.chnAddr ≠ 0 then some (s.chnAddr, true)
          else if s.on Reg.CHN_CTL F.CHN_CTL_STICKY = true then s.nv.addr.map (fun a => (a, s.anyRunning)) else none
        ∃ t m, Runs (.enumClaim c b) s t ∧ t.chn.claimGen = gen ∧
          (own = none → t.chn.claim = none ∧ m = mask) ∧
          (∀ a act, own = some (a, act) → (bitOf mask a = false → t.chn.claim = some (a, act) ∧ m = mask + 2 ^ a) ∧
            (bitOf mask a = true → t.chn.claim = (if act = true ∧ b = false then some (a, act) else none) ∧ m = mask)) ∧
          t.get Reg.CHN_STATUS F.CHN_STATUS_STATE = 1 ∧ t.on Reg.CHN_PTP_CTL F.CHN_PTP_CTL_MAP_VALID = false ∧
          t.on Reg.CHN_FLAGS F.CHN_FLAGS_TOPO_CHANGE = true ∧
          (s.linkUp 1 = true → Queued 1 0x01 c.src.toNat (leBytes 8 m ++ leBytes 2 gen) s t) ∧
          (s.linkUp 1 = false → Queued 0 0x02 s.chnAddr (leBytes 8 m ++ leBytes 2 gen) s t)) ∧
      (gen ≠ s.chn.claimGen → s.linkUp 1 = true → ∃ t, Runs (.enumAssign c b) s t ∧ Queued 1 0x03 c.src.toNat c.data s t ∧
        t.regs = s.regs) ∧
      (gen = s.chn.claimGen → (∀ x act, s.chn.claim = some (x, act) → x < 64) → ∃ t a m, Runs (.enumAssign c b) s t ∧
        (∀ x act, s.chn.claim = some (x, act) → (act = true ∨ b = false) → a = x ∧ m = mask) ∧
        ((s.chn.claim = none ∨ b = true ∧ ∃ x, s.chn.claim = some (x, false)) →
          a < 64 ∧ (∀ k, 0 < k → k < 64 → (a = 0 ∨ k < a) → bitOf mask k = true) ∧ (a ≠ 0 → bitOf mask a = false) ∧
          m = mask + (if a = 0 then 0 else 2 ^ a)) ∧
        t.chnAddr = a ∧ t.chn.claim = none ∧
        (s.chnAddr ≠ a → t.on Reg.CHN_FLAGS F.CHN_FLAGS_ADDR_CHANGED = true) ∧
        (a = 0 → t.on Reg.CHN_FLAGS F.CHN_FLAGS_CHAIN_FULL = true) ∧
        (s.root = false → s.on Reg.CHN_CTL F.CHN_CTL_STICKY = true → a ≠ 0 → t.nv.addr = some a) ∧
        (s.linkUp 1 = true → Queued 1 0x03 c.src.toNat (leBytes 8 m ++ leBytes 2 gen) s t) ∧
        (s.linkUp 1 = false → Queued 0 0x04 a (leBytes 1 1 ++ leBytes 4 ((s.rn Reg.CHN_HOP + 255) / 256) ++ leBytes 2 gen) s t)) ∧
      (∃ t, Runs (.config c) s t ∧ t.rn Reg.CHN_GEN = leAt c.data 0 2 ∧ t.rn Reg.CHN_RELEASE = leAt c.data 3 4 ∧
        t.chnFormed = true ∧ t.on Reg.CHN_FLAGS F.CHN_FLAGS_FORMED = true ∧
        (leAt c.data 2 1 < 64 → t.get Reg.CHN_STATUS F.CHN_STATUS_COUNT = leAt c.data 2 1) ∧
        (s.linkUp 1 = true → Queued 1 0x05 c.src.toNat c.data s t) ∧
        KeepsRegs s t [Reg.CHN_GEN, Reg.CHN_RELEASE, Reg.CHN_STATUS, Reg.CHN_FLAGS])) ∧
    (Accepts 1 c s →
      (s.root = false → s.linkUp 0 = true → ∃ t, Runs (.enumReturn c) s t ∧ Queued 0 0x02 c.src.toNat c.data s t ∧ t.regs = s.regs) ∧
      (s.root = true → s.chn.enumStep = 1 → gen = s.rn Reg.CHN_GEN → ∃ t, Runs (.enumReturn c) s t ∧ t.chn.enumStep = 2 ∧
        Queued 1 0x03 s.chnAddr c.data s t) ∧
      (let count := leAt c.data 0 1 + 1
        let sum := leAt c.data 1 4
        let g := leAt c.data 5 2
        (s.root = false → s.linkUp 0 = true → ∃ t, Runs (.enumDone c) s t ∧ t.regs = s.regs ∧
          Queued 0 0x04 c.src.toNat (leBytes 1 count ++ leBytes 4 (sum + (s.rn Reg.CHN_HOP + 255) / 256) ++ leBytes 2 g) s t) ∧
        (s.root = true → s.chn.enumStep = 2 → g = s.rn Reg.CHN_GEN → count < 64 →
          let rel := (2048 + sum + 3932 * (count - 1) + 1024) % 2 ^ 32
          ∃ t, Runs (.enumDone c) s t ∧ t.chnFormed = true ∧ t.get Reg.CHN_STATUS F.CHN_STATUS_COUNT = count ∧
            t.rn Reg.CHN_RELEASE = rel ∧ t.on Reg.CHN_FLAGS F.CHN_FLAGS_FORMED = true ∧
            Queued 1 0x05 s.chnAddr (leBytes 2 g ++ leBytes 1 count ++ leBytes 4 rel) s t)) ∧
      (s.root = true → ∃ t, Runs (.topo c) s t ∧ t.chn.enumAt = some (s.rt + 1000 * tickUs) ∧ t.regs = s.regs) ∧
      (s.root = false → s.linkUp 0 = true → ∃ t, Runs (.topo c) s t ∧ Queued 0 0x06 c.src.toNat c.data s t ∧ t.regs = s.regs))

/-- Resting on R411, R412, R425: time requests and responses are stamped; 256 exchanges give the hop delay and the offset, which
is slewed by at most 16/256 tick, or stepped, the clock outputs held meanwhile, when no group runs. R416 to R423: events gather on
the root, commands wait for their time and answer, the mapping goes to every device. -/
def Obligations.ChainTimeAndMessages : Prop :=
  ∀ s : State,
    ((s.linkUp 0 = false ∨ s.rt < s.chn.lastReq + 16 * 2048) → Runs .timeExchangeStart s s) ∧
    (s.linkUp 0 = true → s.chn.lastReq + 16 * 2048 ≤ s.rt → ∃ t, Runs .timeExchangeStart s t ∧ t.chn.lastReq = s.rt ∧
      none ∈ (t.port 0).timeQ ∧ t.regs = s.regs) ∧
    (∀ back : BitVec 16,
      (s.linkUp 1 = false → Runs (.timeReq back) s s) ∧
      (s.linkUp 1 = true → ∃ t, Runs (.timeReq back) s t ∧ t.regs = s.regs ∧
        (t.port 1).timeQ = (s.port 1).timeQ ++ [some ((s.now256 + 2 ^ 72 - back.toNat) % 2 ^ 72)])) ∧
    (∀ (t2 : BitVec 40) (frac : Byte) (res : BitVec 24) (back : BitVec 16),
      ((s.chn.t1 = none ∨ s.linkUp 0 = false ∨ 256 ≤ s.chn.exch) → Runs (.timeRsp t2 frac res back) s s) ∧
      (∀ t1, s.chn.t1 = some t1 → s.linkUp 0 = true → s.chn.exch < 256 →
        let d2 : Int := sext 72 (unsx 72 ((((s.now256 + 2 ^ 72 - back.toNat) % 2 ^ 72 : Nat) : Int) - t1)) - res.toNat
        let t2' : Nat := extendTicks 40 t2.toNat s.tick * 256 + frac.toNat
        ∃ t, Runs (.timeRsp t2 frac res back) s t ∧ t.chn.t1 = none ∧ t.chn.exch = s.chn.exch + 1 ∧ t.regs = s.regs ∧
          t.chn.sumD = s.chn.sumD + d2 ∧ t.chn.sumO = s.chn.sumO + (2 * sext 72 (unsx 72 ((t2' : Int) - t1)) - d2 -
            2 * sext 16 (s.get Reg.CHN_ASYM F.CHN_ASYM_ASYM)))) ∧
    (s.chn.exch < 256 → Runs .alignmentRoundEnd s s) ∧
    (256 ≤ s.chn.exch → ∃ (t : State) (o d : Int), Runs .alignmentRoundEnd s t ∧ (512 * o - s.chn.sumO).natAbs < 512 ∧
        (512 * d - s.chn.sumD).natAbs < 512 ∧ t.rn Reg.CHN_HOP = unsx 32 d ∧ t.rn Reg.CHN_OFFSET = unsx 32 o ∧ t.chn.exch = 0 ∧
        (¬ KeepsTime s → t.chn.inRounds = 0 ∧ t.chn.outRounds = 0 ∧ KeepsRegs s t [Reg.CHN_HOP, Reg.CHN_OFFSET]) ∧
        (KeepsTime s →
          (t.chn.inRounds = (if o.natAbs ≤ 32 then s.chn.inRounds + 1 else 0)) ∧
          (t.chn.outRounds = (if 96 < o.natAbs then s.chn.outRounds + 1 else 0)) ∧
          (o.natAbs ≤ 32 → 15 ≤ s.chn.inRounds → (s.port 0).peerAligned = true →
            t.on Reg.CHN_STATUS F.CHN_STATUS_TB_ALIGNED = true) ∧
          (96 < o.natAbs → 3 ≤ s.chn.outRounds → t.on Reg.CHN_STATUS F.CHN_STATUS_TB_ALIGNED = false) ∧
          (o.natAbs < 256 → t.chn.slew = max (-16) (min 16 o) ∧ t.tick = s.tick) ∧
          (256 ≤ o.natAbs → s.anyRunning = true → t.on Reg.CHN_STATUS F.CHN_STATUS_ALIGN_WAIT = true ∧ t.tick = s.tick) ∧
          (256 ≤ o.natAbs → s.anyRunning = false → t.tick = unsx 64 ((s.tick : Int) + roundShift 8 o) ∧
            t.rn Reg.CKS_EPOCH = (s.rn Reg.CKS_EPOCH + 1) % 2 ^ 32 ∧ ∀ k < 9, t.on (Reg.CKS_OUT k) F.CKS_OUT_GATED = true))) ∧
    (s.on Reg.CHN_STATUS F.CHN_STATUS_ALIGN_WAIT = true → s.anyRunning = false → KeepsTime s → ∃ t,
      Runs .deferredStep s t ∧ t.tick = unsx 64 ((s.tick : Int) + roundShift 8 s.chn.off) ∧
      t.on Reg.CHN_STATUS F.CHN_STATUS_ALIGN_WAIT = false ∧ ∀ k < 9, t.on (Reg.CKS_OUT k) F.CKS_OUT_GATED = true) ∧
    ((s.on Reg.CHN_STATUS F.CHN_STATUS_ALIGN_WAIT = false ∨ s.anyRunning = true ∨ ¬ KeepsTime s) → Runs .deferredStep s s) ∧
    (∃ t, Runs .realign s t ∧ t.regs = s.regs ∧ t.chn.exch = 0 ∧ t.chn.sumD = 0 ∧ t.chn.sumO = 0 ∧ t.chn.inRounds = 0) ∧
    (∃ t, Runs .chnCntclr s t ∧ Cleared s t [Reg.CHN_TRIGTX, Reg.CHN_TRIGRX, Reg.CHN_TRIGDROP, Reg.CHN_CRCERR, Reg.CHN_RETX]) ∧
    (∃ t, Runs .revtInfoRead s t ∧ t.chn.revt = s.chn.revt.drop 1 ∧
      KeepsRegs s t [Reg.CHN_REVT_STAT, Reg.CHN_REVT_INFO, Reg.CHN_REVT_TS_LO, Reg.CHN_REVT_TS_HI]) ∧
    (∀ v : Word,
      let master := s.root = true ∧ s.get Reg.CHN_PTP_CTL F.CHN_PTP_CTL_ROLE = 2
      (master → s.tick < 2 ^ 64 → ∃ t, Runs (.mapRateWrite v) s t ∧ t.rd Reg.CHN_MAP_RATE = v ∧
        t.rd64 Reg.CHN_MAP_TICK_LO = s.tick ∧ t.chn.mapDirty = true ∧ KeepsRegs s t [Reg.CHN_MAP_RATE, Reg.CHN_MAP_TICK_LO,
          Reg.CHN_MAP_TICK_HI] ∧
        t.chn.map = ⟨s.tick, s.rn Reg.CHN_MAP_SEC_LO + 2 ^ 32 * s.rn Reg.CHN_MAP_SEC_HI, s.rn Reg.CHN_MAP_NS, v.toNat⟩) ∧
      (¬ master → Runs (.mapRateWrite v) s s)) ∧
    ((s.root = false ∨ s.chn.mapDirty = false ∧ s.rt < s.chn.mapSent + 1000000 * tickUs) → Runs .ptpmapBroadcast s s) ∧
    (s.root = true → (s.chn.mapDirty = true ∨ s.chn.mapSent + 1000000 * tickUs ≤ s.rt) →
      let q := (s.chn.mapSeq + 1) % 256
      let m := s.chn.map
      let part (k : Nat) (b : List Byte) := messageOut 0x50 s.chnAddr (leBytes 1 q ++ leBytes 1 k ++ b)
      ∃ t, Runs .ptpmapBroadcast s t ∧ t.chn.mapSeq = q ∧ t.chn.mapDirty = false ∧ t.chn.mapSent = s.rt ∧ t.regs = s.regs ∧
        (s.linkUp 1 = true → (t.port 1).msgQ = (s.port 1).msgQ ++
          [part 0 (leBytes 8 m.tick), part 1 (leBytes 6 m.sec), part 2 (leBytes 4 m.ns ++ leBytes 4 m.rate)])) ∧
    (s.root = false → Runs .cmdDoneTimeout s s) ∧
    (s.root = true → s.get Reg.CHN_CMDSTAT F.CHN_CMDSTAT_CSEQ = s.chn.cseq → s.chn.cmdAt ≠ 0 →
      s.on Reg.CHN_CMDSTAT F.CHN_CMDSTAT_DONE = false → s.on Reg.CHN_CMDSTAT F.CHN_CMDSTAT_TIMEOUT = false →
      (1000 * tickUs ≤ tickDiff s.tick s.chn.cmdAt → ∃ t, Runs .cmdDoneTimeout s t ∧ RegsOnly s t ∧
        t.on Reg.CHN_CMDSTAT F.CHN_CMDSTAT_TIMEOUT = true ∧ t.on Reg.CHN_FLAGS F.CHN_FLAGS_CMD_DONE = true ∧
        KeepsRegs s t [Reg.CHN_CMDSTAT, Reg.CHN_FLAGS]) ∧
      (tickDiff s.tick s.chn.cmdAt < 1000 * tickUs → Runs .cmdDoneTimeout s s)) ∧
    ∀ c : Cell,
      (Accepts 1 c s →
        (s.root = false → s.linkUp 0 = true → ∃ t u, Runs (.eventCell c) s t ∧ Queued 0 0x20 c.src.toNat c.data s t ∧
          Runs (.cmdRes c) s u ∧ Queued 0 0x31 c.src.toNat c.data s u ∧ t.regs = s.regs ∧ u.regs = s.regs) ∧
        (s.root = true → ∃ t e, Runs (.eventCell c) s t ∧ t.chn.revt = s.chn.revt ++ [e] ∧
          e.ts = extendTicks 56 (leAt c.data 3 7) s.tick ∧ t.on Reg.CHN_FLAGS F.CHN_FLAGS_REVT = true) ∧
        (s.root = true → leAt c.data 0 1 ≠ s.get Reg.CHN_CMDSTAT F.CHN_CMDSTAT_CSEQ → Runs (.cmdRes c) s (cellTaken 1 s)) ∧
        (s.root = true → leAt c.data 0 1 = s.get Reg.CHN_CMDSTAT F.CHN_CMDSTAT_CSEQ → c.src.toNat % 64 ≠ 0 →
          s.on (Reg.CHN_RES (c.src.toNat % 64)) F.CHN_RES_VALID = false → s.get Reg.CHN_CMDSTAT F.CHN_CMDSTAT_NREP < 62 →
          let res := Reg.CHN_RES (c.src.toNat % 64)
          ∃ t, Runs (.cmdRes c) s t ∧ t.rn res = 2 ^ 31 + 2 ^ 30 * b2n (bitOf (leAt c.data 5 1) 0) + 2 ^ 16 * leAt c.data 4 1 +
              2 ^ 8 * (leAt c.data 3 1 % 16) + leAt c.data 1 2 % 256 ∧
            t.get Reg.CHN_CMDSTAT F.CHN_CMDSTAT_NREP = s.get Reg.CHN_CMDSTAT F.CHN_CMDSTAT_NREP + 1 ∧
            (s.get Reg.CHN_STATUS F.CHN_STATUS_COUNT ≤ s.get Reg.CHN_CMDSTAT F.CHN_CMDSTAT_NREP + 2 →
              t.on Reg.CHN_CMDSTAT F.CHN_CMDSTAT_DONE = true) ∧
            KeepsRegs s t [res, Reg.CHN_CMDSTAT, Reg.CHN_FLAGS])) ∧
      (Accepts 0 c s →
        (∃ t h, Runs (.cmd c) s t ∧ h ∈ t.chn.cmds ∧ h.op = leAt c.data 0 1 ∧ h.groups = leAt c.data 2 2 ∧
          h.at_ = extendTicks 48 (leAt c.data 4 6) s.tick ∧ h.late = decide (tickDiff h.at_ s.tick ≤ 0) ∧ t.regs = s.regs ∧
          (s.linkUp 1 = true → Queued 1 0x30 c.src.toNat c.data s t)) ∧
        (let at_ := extendTicks 48 (leAt c.data 0 6) s.tick
          ∃ t, Runs (.snap c) s t ∧ t.rn Reg.MON_SNAP_SEQ = leAt c.data 6 4 ∧
            (s.linkUp 1 = true → Queued 1 0x40 c.src.toNat c.data s t) ∧
            (32768 ≤ tickDiff at_ s.tick → t.mon.snapT = at_ ∧ t.get Reg.MON_SNAP_STAT F.MON_SNAP_STAT_STATE = 1) ∧
            (tickDiff at_ s.tick < 32768 → t.get Reg.MON_SNAP_STAT F.MON_SNAP_STAT_STATE = 4 ∧
              t.on Reg.MON_FLAGS F.MON_FLAGS_SNAP_MISSED = true ∧
              KeepsRegs s t [Reg.MON_SNAP_SEQ, Reg.MON_SNAP_STAT, Reg.MON_FLAGS])) ∧
        (∀ p0 p1, c.data.length = 10 → leAt c.data 0 1 = s.chn.mapSeq → leAt c.data 1 1 = 2 → s.chn.mapParts = [(0, p0), (1, p1)] →
          ∃ t, Runs (.ptpmap c) s t ∧ t.on Reg.CHN_PTP_CTL F.CHN_PTP_CTL_MAP_VALID = true ∧ t.chn.mapParts = [] ∧
            t.rd64 Reg.CHN_MAP_TICK_LO = leAt p0 0 8 ∧ t.rn Reg.CHN_MAP_SEC_LO = leAt p1 0 4 ∧
            t.rn Reg.CHN_MAP_SEC_HI = leAt p1 4 2 ∧ t.rn Reg.CHN_MAP_NS = leAt c.data 2 4 ∧
            t.rn Reg.CHN_MAP_RATE = leAt c.data 6 4 ∧ t.chn.map = ⟨leAt p0 0 8, leAt p1 0 4 + 2 ^ 32 * leAt p1 4 2, leAt c.data 2 4, leAt c.data 6 4⟩ ∧
            (s.linkUp 1 = true → Queued 1 0x50 c.src.toNat c.data s t)) ∧
        (c.data.length = 10 → leAt c.data 0 1 ≠ s.chn.mapSeq → ∃ t, Runs (.ptpmap c) s t ∧ t.regs = s.regs ∧ t.chn.mapSeq = leAt c.data 0 1 ∧
          t.chn.mapParts = [(leAt c.data 1 1, c.data.drop 2)]))

/-! ### Commands, ticks, reserved addresses, and what every step keeps -/

/-- One step carries out the command at the front of the queue on the state with the rest of the queue. With no command waiting
one control cycle passes (00_scope.md R516; the model's choice for an empty queue, log entry 1). Every command completes: `exec`
answers a next state for every constructor of Instr, whatever its operands and in every state. No command is refused and none
faults: an access that a rule refuses is reported in a register or in a reply (00_scope.md R20, R21; 15_host_link.md R399). -/
def Obligations.StepRunsFrontCommand : Prop :=
  ((∀ (c : Instr) (rest : List Instr) (s : State), s.pending = c :: rest → step s = exec c { s with pending := rest }) ∧
   ∀ s : State, s.pending = [] → step s = .next (idleCycle s)) ∧
  (∀ (c : Instr) (s : State), ∃ t, exec c s = .next t)

/-- Resting on 16_eweone_chain.md R407: a field that holds the low `b` bits of a tick count is extended to the 64-bit value that
is congruent to it modulo 2^`b` and nearest to the tick count `now`. -/
def Obligations.TickFieldsExtend : Prop :=
  ∀ b v now : Nat, 0 < b → b < 64 → v < 2 ^ b → now < 2 ^ 64 →
    extendTicks b v now < 2 ^ 64 ∧ extendTicks b v now % 2 ^ b = v ∧
    ∀ w, w < 2 ^ 64 → w % 2 ^ b = v → (tickDiff (extendTicks b v now) now).natAbs ≤ (tickDiff w now).natAbs

/-- Resting on 00_scope.md R20: an address within a block that holds no register reads 0 and ignores a write; an address outside
every block is refused. -/
def Obligations.ReservedAddresses : Prop :=
  ∀ (a : Nat) (v : Word) (sess : Nat) (auth : Bool) (s : State),
    ((blockOf a).isSome = true → a % 4 = 0 → rowOf a = none → s.standbyBlocked a = false →
      readReg a s = (.ok, 0#32, s) ∧ writeReg a v sess auth s = (.ok, s)) ∧
    (blockOf a = none → (readReg a s).1 = .address ∧ (readReg a s).2.1 = 0#32 ∧
      (writeReg a v sess auth s).1 = .address ∧ ∀ b, b ≠ Reg.HLK_ERR → (writeReg a v sess auth s).2.rd b = s.rd b)

/-- Resting on 16_eweone_chain.md R417: the root's FIFO of remote events takes each EVENT, up to 256, CLAIM_TS extended, and sets
REVT; CHN_REVT_TS shows the oldest; a read of CHN_REVT_INFO returns the oldest and removes it, and of an empty FIFO returns VALID
= 0 and removes nothing. The premises on the entries and the registers are what every enqueue and dequeue leaves. -/
def Obligations.RemoteEventFifo : Prop :=
  let shows (s : State) : Prop := (∀ e ∈ s.chn.revt, e.info < 2 ^ 31) ∧
    (s.chn.revt = [] → s.on Reg.CHN_REVT_INFO F.CHN_REVT_INFO_VALID = false) ∧
    ∀ e rest, s.chn.revt = e :: rest → s.rd64 Reg.CHN_REVT_TS_LO = e.ts % 2 ^ 64 ∧ s.on Reg.CHN_REVT_INFO F.CHN_REVT_INFO_VALID = true
  (∀ (c : Cell) (s : State), (∀ e ∈ s.chn.revt, e.info < 2 ^ 31) → s.root = true → s.linkUp 1 = true → c.lseq.toNat = (s.port 1).rxSeq →
    (s.chn.revt.length < 256 → (s.port 0).msgQ.length < 16 → ∃ t e, Runs (.eventCell c) s t ∧ t.chn.revt = s.chn.revt ++ [e] ∧
      e.ts = extendTicks 56 (leAt c.data 3 7) s.tick ∧ t.on Reg.CHN_FLAGS F.CHN_FLAGS_REVT = true ∧ shows t ∧
      fldGet F.CHN_REVT_INFO_SOURCE (BitVec.ofNat 32 e.info) = leAt c.data 0 2 % 2048 ∧
      fldGet F.CHN_REVT_INFO_PRI (BitVec.ofNat 32 e.info) = leAt c.data 2 1 % 16) ∧
    (256 ≤ s.chn.revt.length → Runs (.eventCell c) s s)) ∧
  ∀ s : State, shows s → ∃ t, Runs .revtInfoRead s t ∧ shows t ∧ t.chn.revt = s.chn.revt.drop 1 ∧
    readReg Reg.CHN_REVT_INFO s = (.ok, s.rd Reg.CHN_REVT_INFO, t)

/-- Resting on 15_host_link.md R386: in STANDBY a command that stands for a host write of a register of a block whose domain is
off changes nothing and is reported with ERR_STATE. -/
def Obligations.HostWritesInStandby : Prop :=
  ∀ (c : Instr) (s : State) (a : Nat), hostRegOf c = some a → s.standbyBlocked a = true → ∃ t, Runs c s t ∧
    Reported s t F.HLK_ERR_STATE Reg.HLK_REFUSED_ADDR a

/-- What reset leaves: the canonical form, an empty queue, BOOT, tick count 0, and every register at the value of its Reset column
(00_scope.md R18; 01_architecture.md R31, R38; 02 R68; 03 R92; 09 R253; 14 R367; 18 R471, R472). What memory reads as after
power-on is the model's choice (log entry 2). -/
def Obligations.ResetIsCanonical : Prop :=
  let s := State.reset
  Canonical s ∧ s.pending = [] ∧ s.dev = devBoot ∧ s.tick = 0 ∧ s.lines = [] ∧ s.log = [] ∧ (∀ a, s.rd a = resetWord a) ∧
  (∀ g < 16, s.gst g = gUnused) ∧ s.rd Reg.DEV_ID = 0x9144AF00#32 ∧ s.rd Reg.DEV_RESET_CAUSE = 1#32 ∧
  s.get Reg.FAB_VLIMIT F.FAB_VLIMIT_VMIN = 650 ∧ s.get Reg.FAB_VLIMIT F.FAB_VLIMIT_VMAX = 850 ∧
  s.get Reg.FAB_VDDC F.FAB_VDDC_TARGET = 800 ∧ (∀ n < 16, s.fchState n = 0) ∧ (∀ n < 16, s.rd (Reg.TPT_WIDTH n) = 0x400#32) ∧
  (∀ t < 3, s.get (Reg.EVC_T_CTL t) F.EVC_T_CTL_WINDOW = 64) ∧ s.rd Reg.PWR_DOM_CTL = 0x3F#32 ∧ s.rd Reg.HLK_SESS_TO = 10000#32

/-- Every step keeps the canonical form of the stored data, and takes from the queue the command that it carried out and nothing
else. -/
def Obligations.StepKeepsCanonical : Prop :=
  ∀ s t : State, Canonical s → step s = .next t → Canonical t ∧ t.pending = s.pending.tail
end

