-- ==== Sys2Proof/Laws/Bits.lean ====
section
/-! SUPPORT. The laws of register fields: a field reads as it was set, and every disjoint field is left alone. -/
set_option Elab.async false
namespace Sys2Proof.Machine

/-- A bit of a mask. -/
theorem fldMask_getLsbD (f : Fld) (i : Nat) :
    (fldMask f).getLsbD i = (decide (i < 32) && decide (f.lo ≤ i) && decide (i < f.lo + f.w)) := by
  simp only [fldMask, BitVec.getLsbD_ofNat, Nat.testBit_mul_two_pow, Nat.testBit_two_pow_sub_one]
  by_cases h1 : i < 32 <;> by_cases h2 : f.lo ≤ i <;> by_cases h3 : i < f.lo + f.w <;> simp [h1, h2, h3] <;> omega

/-- The bits of a register after a field is set. -/
theorem fldSet_getLsbD (f : Fld) (v : Word) (x i : Nat) :
    (fldSet f v x).getLsbD i =
      if i < 32 ∧ f.lo ≤ i ∧ i < f.lo + f.w then x.testBit (i - f.lo) else v.getLsbD i := by
  simp only [fldSet, BitVec.getLsbD_or, BitVec.getLsbD_and, BitVec.getLsbD_not, fldMask_getLsbD, BitVec.getLsbD_ofNat,
    Nat.testBit_mul_two_pow, Nat.testBit_mod_two_pow]
  by_cases h1 : i < 32 <;> by_cases h2 : f.lo ≤ i <;> by_cases h3 : i < f.lo + f.w <;> simp [h1, h2, h3]
  · intro h; omega
  · intro _ h; omega
  · exact BitVec.getLsbD_of_ge v i (by omega)
  · exact BitVec.getLsbD_of_ge v i (by omega)
  · exact BitVec.getLsbD_of_ge v i (by omega)
  · exact BitVec.getLsbD_of_ge v i (by omega)

/-- A field of a word, bit by bit. -/
theorem fldGet_testBit (f : Fld) (v : Word) (i : Nat) :
    (fldGet f v).testBit i = (decide (i < f.w) && v.getLsbD (f.lo + i)) := by
  simp only [fldGet, Nat.testBit_mod_two_pow, Nat.testBit_div_two_pow, BitVec.testBit_toNat]
  rw [Nat.add_comm]

/-- A field reads as it was set, reduced to its width. -/
theorem fldGet_fldSet (f : Fld) (v : Word) (x : Nat) (h : f.lo + f.w ≤ 32) : fldGet f (fldSet f v x) = x % 2 ^ f.w := by
  apply Nat.eq_of_testBit_eq
  intro i
  rw [fldGet_testBit, fldSet_getLsbD, Nat.testBit_mod_two_pow]
  by_cases hi : i < f.w
  · have : f.lo + i < 32 ∧ f.lo ≤ f.lo + i ∧ f.lo + i < f.lo + f.w := by omega
    simp [hi, this]
  · simp [hi]

/-- A disjoint field reads as before. -/
theorem fldGet_fldSet_ne (f g : Fld) (v : Word) (x : Nat) (h : g.lo + g.w ≤ f.lo ∨ f.lo + f.w ≤ g.lo) :
    fldGet g (fldSet f v x) = fldGet g v := by
  apply Nat.eq_of_testBit_eq
  intro i
  rw [fldGet_testBit, fldGet_testBit, fldSet_getLsbD]
  by_cases hi : i < g.w
  · have : ¬ (g.lo + i < 32 ∧ f.lo ≤ g.lo + i ∧ g.lo + i < f.lo + f.w) := by omega
    simp [this]
  · simp [hi]

/-- A field is below its width. -/
theorem fldGet_lt (f : Fld) (v : Word) : fldGet f v < 2 ^ f.w := Nat.mod_lt _ (Nat.two_pow_pos _)

end Sys2Proof.Machine
end

