-- ==== Sys2Proof/Laws/Sparse.lean ====
section
/-! SUPPORT. The laws of sparse tables: reading after an update, and that every update keeps the canonical form. -/
set_option Elab.async false
namespace Sys2Proof.Machine

variable {α : Type}

theorem lookupD_eraseKey_self (d : Nat → α) (k : Nat) (m : List (Nat × α)) : lookupD d (eraseKey k m) k = d k := by
  induction m with
  | nil => rfl
  | cons p t ih =>
    obtain ⟨j, v⟩ := p
    by_cases h : j = k <;> simp [eraseKey, lookupD, h, ih]

theorem lookupD_eraseKey_ne (d : Nat → α) {k j : Nat} (h : j ≠ k) (m : List (Nat × α)) :
    lookupD d (eraseKey k m) j = lookupD d m j := by
  induction m with
  | nil => rfl
  | cons p t ih =>
    obtain ⟨i, v⟩ := p
    by_cases hk : i = k
    · subst hk; simp [eraseKey, lookupD, ih, Ne.symm h]
    · by_cases hj : i = j <;> simp [eraseKey, lookupD, hk, hj, ih, h]

theorem lookupD_insertKey_ne (d : Nat → α) {k j : Nat} (h : j ≠ k) (v : α) (m : List (Nat × α)) :
    lookupD d (insertKey k v m) j = lookupD d m j := by
  induction m with
  | nil => simp [insertKey, lookupD, Ne.symm h]
  | cons p t ih =>
    obtain ⟨i, u⟩ := p
    by_cases hk : k < i
    · simp [insertKey, lookupD, hk, Ne.symm h]
    · simp [insertKey, lookupD, hk, ih]

theorem lookupD_insertKey_self (d : Nat → α) (k : Nat) (v : α) (m : List (Nat × α)) :
    lookupD d (insertKey k v (eraseKey k m)) k = v := by
  induction m with
  | nil => simp [eraseKey, insertKey, lookupD]
  | cons p t ih =>
    obtain ⟨i, u⟩ := p
    by_cases hi : i = k
    · simpa [eraseKey, hi] using ih
    · by_cases hk : k < i
      · simp [eraseKey, insertKey, lookupD, hi, hk]
      · simp [eraseKey, insertKey, lookupD, hi, hk, ih]

/-- Reading the key that was written gives the value written. -/
@[simp] theorem lookupD_updateD_self [DecidableEq α] (d : Nat → α) (m : List (Nat × α)) (k : Nat) (v : α) :
    lookupD d (updateD d m k v) k = v := by
  unfold updateD
  split
  · rename_i h; rw [lookupD_eraseKey_self, h]
  · exact lookupD_insertKey_self d k v m

/-- Every other key reads as before. -/
theorem lookupD_updateD_ne [DecidableEq α] (d : Nat → α) (m : List (Nat × α)) {k j : Nat} (h : j ≠ k) (v : α) :
    lookupD d (updateD d m k v) j = lookupD d m j := by
  unfold updateD
  split
  · exact lookupD_eraseKey_ne d h m
  · rw [lookupD_insertKey_ne d h, lookupD_eraseKey_ne d h]

theorem keysAbove_mono {k j : Nat} (h : j ≤ k) {m : List (Nat × α)} (hm : keysAbove k m = true) : keysAbove j m = true := by
  simp only [keysAbove, List.all_eq_true, decide_eq_true_eq] at *
  intro p hp
  have := hm p hp
  omega

theorem keysAbove_eraseKey {k j : Nat} {m : List (Nat × α)} (h : keysAbove j m = true) : keysAbove j (eraseKey k m) = true := by
  induction m with
  | nil => exact h
  | cons p t ih =>
    obtain ⟨i, v⟩ := p
    simp only [keysAbove, List.all_cons, Bool.and_eq_true] at h ih ⊢
    by_cases hi : i = k
    · simpa [eraseKey, hi] using ih h.2
    · simp [eraseKey, hi]
      exact ⟨by simpa using h.1, by simpa using ih h.2⟩

theorem keysAbove_insertKey {k j : Nat} {v : α} {m : List (Nat × α)} (hj : j < k) (h : keysAbove j m = true) :
    keysAbove j (insertKey k v m) = true := by
  induction m with
  | nil => simpa [insertKey, keysAbove] using hj
  | cons p t ih =>
    obtain ⟨i, u⟩ := p
    simp only [keysAbove, List.all_cons, Bool.and_eq_true] at h ih
    by_cases hk : k < i
    · simp only [insertKey, hk, if_true, keysAbove, List.all_cons, Bool.and_eq_true, decide_eq_true_eq]
      exact ⟨hj, by simpa using h.1, h.2⟩
    · simp only [insertKey, hk, if_false, keysAbove, List.all_cons, Bool.and_eq_true]
      exact ⟨h.1, ih h.2⟩

theorem keysRising_eraseKey {k : Nat} {m : List (Nat × α)} (h : keysRising m = true) : keysRising (eraseKey k m) = true := by
  induction m with
  | nil => exact h
  | cons p t ih =>
    obtain ⟨i, v⟩ := p
    simp only [keysRising, Bool.and_eq_true] at h
    by_cases hi : i = k
    · simpa [eraseKey, hi] using ih h.2
    · simp only [eraseKey, hi, if_false, keysRising, Bool.and_eq_true]
      exact ⟨keysAbove_eraseKey h.1, ih h.2⟩

theorem mem_eraseKey {k : Nat} {m : List (Nat × α)} {p : Nat × α} (h : p ∈ eraseKey k m) : p ∈ m ∧ p.1 ≠ k := by
  induction m with
  | nil => simp [eraseKey] at h
  | cons q t ih =>
    obtain ⟨i, v⟩ := q
    by_cases hi : i = k
    · simp only [eraseKey, hi, if_true] at h
      exact ⟨List.mem_cons_of_mem _ (ih h).1, (ih h).2⟩
    · simp only [eraseKey, hi, if_false, List.mem_cons] at h
      rcases h with rfl | h
      · exact ⟨List.mem_cons_self, hi⟩
      · exact ⟨List.mem_cons_of_mem _ (ih h).1, (ih h).2⟩

theorem mem_insertKey {k : Nat} {v : α} {m : List (Nat × α)} {p : Nat × α} (h : p ∈ insertKey k v m) : p = (k, v) ∨ p ∈ m := by
  induction m with
  | nil => simpa [insertKey] using h
  | cons q t ih =>
    obtain ⟨i, u⟩ := q
    by_cases hk : k < i
    · simp only [insertKey, hk, if_true, List.mem_cons] at h
      simpa [List.mem_cons] using h
    · simp only [insertKey, hk, if_false, List.mem_cons] at h
      rcases h with h | h
      · exact Or.inr (by simp [h])
      · rcases ih h with h | h
        · exact Or.inl h
        · exact Or.inr (List.mem_cons_of_mem _ h)

theorem keysRising_insertKey {k : Nat} {v : α} {m : List (Nat × α)} (h : keysRising m = true) (hk : ∀ p ∈ m, p.1 ≠ k) :
    keysRising (insertKey k v m) = true := by
  induction m with
  | nil => rfl
  | cons q t ih =>
    obtain ⟨i, u⟩ := q
    have hi : i ≠ k := hk (i, u) List.mem_cons_self
    simp only [keysRising, Bool.and_eq_true] at h
    by_cases hlt : k < i
    · simp only [insertKey, hlt, if_true, keysRising, Bool.and_eq_true]
      refine ⟨?_, h.1, h.2⟩
      simp only [keysAbove, List.all_cons, Bool.and_eq_true, decide_eq_true_eq]
      exact ⟨hlt, keysAbove_mono (Nat.le_of_lt hlt) h.1⟩
    · simp only [insertKey, hlt, if_false, keysRising, Bool.and_eq_true]
      exact ⟨keysAbove_insertKey (by omega) h.1, ih h.2 fun p hp => hk p (List.mem_cons_of_mem _ hp)⟩

/-- An update keeps the canonical form. -/
theorem sparseWf_updateD [DecidableEq α] {d : Nat → α} {m : List (Nat × α)} (h : sparseWf d m = true) (k : Nat) (v : α) :
    sparseWf d (updateD d m k v) = true := by
  simp only [sparseWf, Bool.and_eq_true, List.all_eq_true, decide_eq_true_eq] at *
  unfold updateD
  split
  · exact ⟨keysRising_eraseKey h.1, fun p hp => h.2 p (mem_eraseKey hp).1⟩
  · rename_i hv
    refine ⟨keysRising_insertKey (keysRising_eraseKey h.1) fun p hp => (mem_eraseKey hp).2, fun p hp => ?_⟩
    rcases mem_insertKey hp with rfl | hp
    · exact hv
    · exact h.2 p (mem_eraseKey hp).1

/-- Leaving entries out keeps the canonical form. -/
theorem sparseWf_filter [DecidableEq α] {d : Nat → α} {m : List (Nat × α)} (h : sparseWf d m = true) (q : Nat × α → Bool) :
    sparseWf d (m.filter q) = true := by
  simp only [sparseWf, Bool.and_eq_true, List.all_eq_true, decide_eq_true_eq] at *
  refine ⟨?_, fun p hp => h.2 p (List.mem_filter.mp hp).1⟩
  have h1 := h.1
  clear h
  induction m with
  | nil => rfl
  | cons p t ih =>
    obtain ⟨i, v⟩ := p
    simp only [keysRising, Bool.and_eq_true] at h1
    have ha : keysAbove i (t.filter q) = true := by
      simp only [keysAbove, List.all_eq_true, decide_eq_true_eq] at *
      exact fun r hr => h1.1 r (List.mem_filter.mp hr).1
    by_cases hq : q (i, v) = true
    · simp only [List.filter_cons, hq, if_true, keysRising, Bool.and_eq_true]
      exact ⟨ha, ih h1.2⟩
    · simp only [List.filter_cons, hq]
      exact ih h1.2

end Sys2Proof.Machine
end

