-- ==== Sys2Proof/Laws/State.lean ====
section
/-! SUPPORT. The laws of the state's accessors: what each named update reads as afterwards, field by field. -/
set_option Elab.async false
namespace Sys2Proof.Machine

/-! ### The register file -/

@[simp] theorem State.rd_wr_self (s : State) (a : Nat) (v : Word) : (s.wr a v).rd a = v :=
  lookupD_updateD_self resetWord s.regs a v

theorem State.rd_wr_ne (s : State) {a b : Nat} (h : b ≠ a) (v : Word) : (s.wr a v).rd b = s.rd b :=
  lookupD_updateD_ne resetWord s.regs h v

@[simp] theorem State.rd_put_self (s : State) (a : Nat) (f : Fld) (x : Nat) : (s.put a f x).rd a = fldSet f (s.rd a) x :=
  State.rd_wr_self s a _

theorem State.rd_put_ne (s : State) {a b : Nat} (h : b ≠ a) (f : Fld) (x : Nat) : (s.put a f x).rd b = s.rd b :=
  State.rd_wr_ne s h _

theorem State.rd_wn_self (s : State) (a x : Nat) : (s.wn a x).rd a = BitVec.ofNat 32 x := State.rd_wr_self s a _

theorem State.rd_wn_ne (s : State) {a b : Nat} (h : b ≠ a) (x : Nat) : (s.wn a x).rd b = s.rd b := State.rd_wr_ne s h _

theorem State.rn_wn_self (s : State) (a x : Nat) (h : x < 2 ^ 32) : (s.wn a x).rn a = x := by
  rw [State.rn, State.rd_wn_self, BitVec.toNat_ofNat, Nat.mod_eq_of_lt h]

theorem State.rd_bump_self (s : State) (a n : Nat) : (s.bump a n).rd a = incSat32 (s.rd a) n := State.rd_wr_self s a _

theorem State.rd_bump_ne (s : State) {a b : Nat} (h : b ≠ a) (n : Nat) : (s.bump a n).rd b = s.rd b := State.rd_wr_ne s h _

/-- A field reads as it was put. -/
theorem State.get_put_self (s : State) (a : Nat) (f : Fld) (x : Nat) (h : f.lo + f.w ≤ 32) : (s.put a f x).get a f = x % 2 ^ f.w := by
  simp [State.get, fldGet_fldSet f _ x h]

/-- A disjoint field of the same register reads as before. -/
theorem State.get_put_fld (s : State) (a : Nat) (f g : Fld) (x : Nat) (h : g.lo + g.w ≤ f.lo ∨ f.lo + f.w ≤ g.lo) :
    (s.put a f x).get a g = s.get a g := by
  simp [State.get, fldGet_fldSet_ne f g _ x h]

/-- A field of another register reads as before. -/
theorem State.get_put_ne (s : State) {a b : Nat} (h : b ≠ a) (f g : Fld) (x : Nat) : (s.put a f x).get b g = s.get b g := by
  simp [State.get, State.rd_put_ne s h]

theorem State.get_wr_ne (s : State) {a b : Nat} (h : b ≠ a) (g : Fld) (v : Word) : (s.wr a v).get b g = s.get b g := by
  simp [State.get, State.rd_wr_ne s h]

/-- A register write keeps the file canonical. -/
theorem State.wr_wf {s : State} (h : sparseWf resetWord s.regs = true) (a : Nat) (v : Word) :
    sparseWf resetWord (s.wr a v).regs = true := sparseWf_updateD h a v

/-! ### What the present cycle has done (00_scope.md R22, R23) -/

@[simp] theorem State.setNow_wr (s : State) (a : Nat) (v : Word) (b : Nat) : (s.wr a v).setNow b = s.setNow b := rfl
@[simp] theorem State.countNow_wr (s : State) (a : Nat) (v : Word) (b : Nat) : (s.wr a v).countNow b = s.countNow b := rfl
@[simp] theorem State.setNow_wn (s : State) (a x b : Nat) : (s.wn a x).setNow b = s.setNow b := rfl
@[simp] theorem State.countNow_wn (s : State) (a x b : Nat) : (s.wn a x).countNow b = s.countNow b := rfl
@[simp] theorem State.setNow_put (s : State) (a : Nat) (f : Fld) (x b : Nat) : (s.put a f x).setNow b = s.setNow b := rfl
@[simp] theorem State.countNow_put (s : State) (a : Nat) (f : Fld) (x b : Nat) : (s.put a f x).countNow b = s.countNow b := rfl

/-- A cycle in which hardware has done nothing yet has no set to keep. -/
theorem State.setNow_old (s : State) (a : Nat) (h : s.cyc.rt ≠ s.rt) : s.setNow a = 0#32 := by
  simp [State.setNow, State.cycNow, h]

/-- A cycle in which hardware has done nothing yet has no increment to keep. -/
theorem State.countNow_old (s : State) (a : Nat) (h : s.cyc.rt ≠ s.rt) : s.countNow a = 0 := by
  simp [State.countNow, State.cycNow, h]

/-! ### wr -/

@[simp] theorem State.wr_pending (s : State) (a : Nat) (v : Word) : (s.wr a v).pending = s.pending := rfl
@[simp] theorem State.wr_tick (s : State) (a : Nat) (v : Word) : (s.wr a v).tick = s.tick := rfl
@[simp] theorem State.wr_rt (s : State) (a : Nat) (v : Word) : (s.wr a v).rt = s.rt := rfl
@[simp] theorem State.wr_free (s : State) (a : Nat) (v : Word) : (s.wr a v).free = s.free := rfl
@[simp] theorem State.wr_cyc (s : State) (a : Nat) (v : Word) : (s.wr a v).cyc = s.cyc := rfl
@[simp] theorem State.wr_lines (s : State) (a : Nat) (v : Word) : (s.wr a v).lines = s.lines := rfl
@[simp] theorem State.wr_fab (s : State) (a : Nat) (v : Word) : (s.wr a v).fab = s.fab := rfl
@[simp] theorem State.wr_queues (s : State) (a : Nat) (v : Word) : (s.wr a v).queues = s.queues := rfl
@[simp] theorem State.wr_lastFrame (s : State) (a : Nat) (v : Word) : (s.wr a v).lastFrame = s.lastFrame := rfl
@[simp] theorem State.wr_fchs (s : State) (a : Nat) (v : Word) : (s.wr a v).fchs = s.fchs := rfl
@[simp] theorem State.wr_calTiles (s : State) (a : Nat) (v : Word) : (s.wr a v).calTiles = s.calTiles := rfl
@[simp] theorem State.wr_calPorts (s : State) (a : Nat) (v : Word) : (s.wr a v).calPorts = s.calPorts := rfl
@[simp] theorem State.wr_fieldTrims (s : State) (a : Nat) (v : Word) : (s.wr a v).fieldTrims = s.fieldTrims := rfl
@[simp] theorem State.wr_dcfs (s : State) (a : Nat) (v : Word) : (s.wr a v).dcfs = s.dcfs := rfl
@[simp] theorem State.wr_streams (s : State) (a : Nat) (v : Word) : (s.wr a v).streams = s.streams := rfl
@[simp] theorem State.wr_evc (s : State) (a : Nat) (v : Word) : (s.wr a v).evc = s.evc := rfl
@[simp] theorem State.wr_pwr (s : State) (a : Nat) (v : Word) : (s.wr a v).pwr = s.pwr := rfl
@[simp] theorem State.wr_log (s : State) (a : Nat) (v : Word) : (s.wr a v).log = s.log := rfl
@[simp] theorem State.wr_logWrapped (s : State) (a : Nat) (v : Word) : (s.wr a v).logWrapped = s.logWrapped := rfl
@[simp] theorem State.wr_clk (s : State) (a : Nat) (v : Word) : (s.wr a v).clk = s.clk := rfl
@[simp] theorem State.wr_mem (s : State) (a : Nat) (v : Word) : (s.wr a v).mem = s.mem := rfl
@[simp] theorem State.wr_mchs (s : State) (a : Nat) (v : Word) : (s.wr a v).mchs = s.mchs := rfl
@[simp] theorem State.wr_mdlls (s : State) (a : Nat) (v : Word) : (s.wr a v).mdlls = s.mdlls := rfl
@[simp] theorem State.wr_nv (s : State) (a : Nat) (v : Word) : (s.wr a v).nv = s.nv := rfl
@[simp] theorem State.wr_flows (s : State) (a : Nat) (v : Word) : (s.wr a v).flows = s.flows := rfl
@[simp] theorem State.wr_dma (s : State) (a : Nat) (v : Word) : (s.wr a v).dma = s.dma := rfl
@[simp] theorem State.wr_cmps (s : State) (a : Nat) (v : Word) : (s.wr a v).cmps = s.cmps := rfl
@[simp] theorem State.wr_cmpTurn (s : State) (a : Nat) (v : Word) : (s.wr a v).cmpTurn = s.cmpTurn := rfl
@[simp] theorem State.wr_blks (s : State) (a : Nat) (v : Word) : (s.wr a v).blks = s.blks := rfl
@[simp] theorem State.wr_pmem (s : State) (a : Nat) (v : Word) : (s.wr a v).pmem = s.pmem := rfl
@[simp] theorem State.wr_closedEnds (s : State) (a : Nat) (v : Word) : (s.wr a v).closedEnds = s.closedEnds := rfl
@[simp] theorem State.wr_stos (s : State) (a : Nat) (v : Word) : (s.wr a v).stos = s.stos := rfl
@[simp] theorem State.wr_tpts (s : State) (a : Nat) (v : Word) : (s.wr a v).tpts = s.tpts := rfl
@[simp] theorem State.wr_trus (s : State) (a : Nat) (v : Word) : (s.wr a v).trus = s.trus := rfl
@[simp] theorem State.wr_trigQ (s : State) (a : Nat) (v : Word) : (s.wr a v).trigQ = s.trigQ := rfl
@[simp] theorem State.wr_chn (s : State) (a : Nat) (v : Word) : (s.wr a v).chn = s.chn := rfl
@[simp] theorem State.wr_decs (s : State) (a : Nat) (v : Word) : (s.wr a v).decs = s.decs := rfl
@[simp] theorem State.wr_rings (s : State) (a : Nat) (v : Word) : (s.wr a v).rings = s.rings := rfl
@[simp] theorem State.wr_wacs (s : State) (a : Nat) (v : Word) : (s.wr a v).wacs = s.wacs := rfl
@[simp] theorem State.wr_pcvs (s : State) (a : Nat) (v : Word) : (s.wr a v).pcvs = s.pcvs := rfl
@[simp] theorem State.wr_cfg (s : State) (a : Nat) (v : Word) : (s.wr a v).cfg = s.cfg := rfl
@[simp] theorem State.wr_hlk (s : State) (a : Nat) (v : Word) : (s.wr a v).hlk = s.hlk := rfl
@[simp] theorem State.wr_mon (s : State) (a : Nat) (v : Word) : (s.wr a v).mon = s.mon := rfl
@[simp] theorem State.wr_boot (s : State) (a : Nat) (v : Word) : (s.wr a v).boot = s.boot := rfl
@[simp] theorem State.wr_tap (s : State) (a : Nat) (v : Word) : (s.wr a v).tap = s.tap := rfl
@[simp] theorem State.wr_memOut (s : State) (a : Nat) (v : Word) : (s.wr a v).memOut = s.memOut := rfl

/-! ### wn -/

@[simp] theorem State.wn_pending (s : State) (a x : Nat) : (s.wn a x).pending = s.pending := rfl
@[simp] theorem State.wn_tick (s : State) (a x : Nat) : (s.wn a x).tick = s.tick := rfl
@[simp] theorem State.wn_rt (s : State) (a x : Nat) : (s.wn a x).rt = s.rt := rfl
@[simp] theorem State.wn_free (s : State) (a x : Nat) : (s.wn a x).free = s.free := rfl
@[simp] theorem State.wn_cyc (s : State) (a x : Nat) : (s.wn a x).cyc = s.cyc := rfl
@[simp] theorem State.wn_lines (s : State) (a x : Nat) : (s.wn a x).lines = s.lines := rfl
@[simp] theorem State.wn_fab (s : State) (a x : Nat) : (s.wn a x).fab = s.fab := rfl
@[simp] theorem State.wn_queues (s : State) (a x : Nat) : (s.wn a x).queues = s.queues := rfl
@[simp] theorem State.wn_lastFrame (s : State) (a x : Nat) : (s.wn a x).lastFrame = s.lastFrame := rfl
@[simp] theorem State.wn_fchs (s : State) (a x : Nat) : (s.wn a x).fchs = s.fchs := rfl
@[simp] theorem State.wn_calTiles (s : State) (a x : Nat) : (s.wn a x).calTiles = s.calTiles := rfl
@[simp] theorem State.wn_calPorts (s : State) (a x : Nat) : (s.wn a x).calPorts = s.calPorts := rfl
@[simp] theorem State.wn_fieldTrims (s : State) (a x : Nat) : (s.wn a x).fieldTrims = s.fieldTrims := rfl
@[simp] theorem State.wn_dcfs (s : State) (a x : Nat) : (s.wn a x).dcfs = s.dcfs := rfl
@[simp] theorem State.wn_streams (s : State) (a x : Nat) : (s.wn a x).streams = s.streams := rfl
@[simp] theorem State.wn_evc (s : State) (a x : Nat) : (s.wn a x).evc = s.evc := rfl
@[simp] theorem State.wn_pwr (s : State) (a x : Nat) : (s.wn a x).pwr = s.pwr := rfl
@[simp] theorem State.wn_log (s : State) (a x : Nat) : (s.wn a x).log = s.log := rfl
@[simp] theorem State.wn_logWrapped (s : State) (a x : Nat) : (s.wn a x).logWrapped = s.logWrapped := rfl
@[simp] theorem State.wn_clk (s : State) (a x : Nat) : (s.wn a x).clk = s.clk := rfl
@[simp] theorem State.wn_mem (s : State) (a x : Nat) : (s.wn a x).mem = s.mem := rfl
@[simp] theorem State.wn_mchs (s : State) (a x : Nat) : (s.wn a x).mchs = s.mchs := rfl
@[simp] theorem State.wn_mdlls (s : State) (a x : Nat) : (s.wn a x).mdlls = s.mdlls := rfl
@[simp] theorem State.wn_nv (s : State) (a x : Nat) : (s.wn a x).nv = s.nv := rfl
@[simp] theorem State.wn_flows (s : State) (a x : Nat) : (s.wn a x).flows = s.flows := rfl
@[simp] theorem State.wn_dma (s : State) (a x : Nat) : (s.wn a x).dma = s.dma := rfl
@[simp] theorem State.wn_cmps (s : State) (a x : Nat) : (s.wn a x).cmps = s.cmps := rfl
@[simp] theorem State.wn_cmpTurn (s : State) (a x : Nat) : (s.wn a x).cmpTurn = s.cmpTurn := rfl
@[simp] theorem State.wn_blks (s : State) (a x : Nat) : (s.wn a x).blks = s.blks := rfl
@[simp] theorem State.wn_pmem (s : State) (a x : Nat) : (s.wn a x).pmem = s.pmem := rfl
@[simp] theorem State.wn_closedEnds (s : State) (a x : Nat) : (s.wn a x).closedEnds = s.closedEnds := rfl
@[simp] theorem State.wn_stos (s : State) (a x : Nat) : (s.wn a x).stos = s.stos := rfl
@[simp] theorem State.wn_tpts (s : State) (a x : Nat) : (s.wn a x).tpts = s.tpts := rfl
@[simp] theorem State.wn_trus (s : State) (a x : Nat) : (s.wn a x).trus = s.trus := rfl
@[simp] theorem State.wn_trigQ (s : State) (a x : Nat) : (s.wn a x).trigQ = s.trigQ := rfl
@[simp] theorem State.wn_chn (s : State) (a x : Nat) : (s.wn a x).chn = s.chn := rfl
@[simp] theorem State.wn_decs (s : State) (a x : Nat) : (s.wn a x).decs = s.decs := rfl
@[simp] theorem State.wn_rings (s : State) (a x : Nat) : (s.wn a x).rings = s.rings := rfl
@[simp] theorem State.wn_wacs (s : State) (a x : Nat) : (s.wn a x).wacs = s.wacs := rfl
@[simp] theorem State.wn_pcvs (s : State) (a x : Nat) : (s.wn a x).pcvs = s.pcvs := rfl
@[simp] theorem State.wn_cfg (s : State) (a x : Nat) : (s.wn a x).cfg = s.cfg := rfl
@[simp] theorem State.wn_hlk (s : State) (a x : Nat) : (s.wn a x).hlk = s.hlk := rfl
@[simp] theorem State.wn_mon (s : State) (a x : Nat) : (s.wn a x).mon = s.mon := rfl
@[simp] theorem State.wn_boot (s : State) (a x : Nat) : (s.wn a x).boot = s.boot := rfl
@[simp] theorem State.wn_tap (s : State) (a x : Nat) : (s.wn a x).tap = s.tap := rfl
@[simp] theorem State.wn_memOut (s : State) (a x : Nat) : (s.wn a x).memOut = s.memOut := rfl

/-! ### put -/

@[simp] theorem State.put_pending (s : State) (a : Nat) (f : Fld) (x : Nat) : (s.put a f x).pending = s.pending := rfl
@[simp] theorem State.put_tick (s : State) (a : Nat) (f : Fld) (x : Nat) : (s.put a f x).tick = s.tick := rfl
@[simp] theorem State.put_rt (s : State) (a : Nat) (f : Fld) (x : Nat) : (s.put a f x).rt = s.rt := rfl
@[simp] theorem State.put_free (s : State) (a : Nat) (f : Fld) (x : Nat) : (s.put a f x).free = s.free := rfl
@[simp] theorem State.put_cyc (s : State) (a : Nat) (f : Fld) (x : Nat) : (s.put a f x).cyc = s.cyc := rfl
@[simp] theorem State.put_lines (s : State) (a : Nat) (f : Fld) (x : Nat) : (s.put a f x).lines = s.lines := rfl
@[simp] theorem State.put_fab (s : State) (a : Nat) (f : Fld) (x : Nat) : (s.put a f x).fab = s.fab := rfl
@[simp] theorem State.put_queues (s : State) (a : Nat) (f : Fld) (x : Nat) : (s.put a f x).queues = s.queues := rfl
@[simp] theorem State.put_lastFrame (s : State) (a : Nat) (f : Fld) (x : Nat) : (s.put a f x).lastFrame = s.lastFrame := rfl
@[simp] theorem State.put_fchs (s : State) (a : Nat) (f : Fld) (x : Nat) : (s.put a f x).fchs = s.fchs := rfl
@[simp] theorem State.put_calTiles (s : State) (a : Nat) (f : Fld) (x : Nat) : (s.put a f x).calTiles = s.calTiles := rfl
@[simp] theorem State.put_calPorts (s : State) (a : Nat) (f : Fld) (x : Nat) : (s.put a f x).calPorts = s.calPorts := rfl
@[simp] theorem State.put_fieldTrims (s : State) (a : Nat) (f : Fld) (x : Nat) : (s.put a f x).fieldTrims = s.fieldTrims := rfl
@[simp] theorem State.put_dcfs (s : State) (a : Nat) (f : Fld) (x : Nat) : (s.put a f x).dcfs = s.dcfs := rfl
@[simp] theorem State.put_streams (s : State) (a : Nat) (f : Fld) (x : Nat) : (s.put a f x).streams = s.streams := rfl
@[simp] theorem State.put_evc (s : State) (a : Nat) (f : Fld) (x : Nat) : (s.put a f x).evc = s.evc := rfl
@[simp] theorem State.put_pwr (s : State) (a : Nat) (f : Fld) (x : Nat) : (s.put a f x).pwr = s.pwr := rfl
@[simp] theorem State.put_log (s : State) (a : Nat) (f : Fld) (x : Nat) : (s.put a f x).log = s.log := rfl
@[simp] theorem State.put_logWrapped (s : State) (a : Nat) (f : Fld) (x : Nat) : (s.put a f x).logWrapped = s.logWrapped := rfl
@[simp] theorem State.put_clk (s : State) (a : Nat) (f : Fld) (x : Nat) : (s.put a f x).clk = s.clk := rfl
@[simp] theorem State.put_mem (s : State) (a : Nat) (f : Fld) (x : Nat) : (s.put a f x).mem = s.mem := rfl
@[simp] theorem State.put_mchs (s : State) (a : Nat) (f : Fld) (x : Nat) : (s.put a f x).mchs = s.mchs := rfl
@[simp] theorem State.put_mdlls (s : State) (a : Nat) (f : Fld) (x : Nat) : (s.put a f x).mdlls = s.mdlls := rfl
@[simp] theorem State.put_nv (s : State) (a : Nat) (f : Fld) (x : Nat) : (s.put a f x).nv = s.nv := rfl
@[simp] theorem State.put_flows (s : State) (a : Nat) (f : Fld) (x : Nat) : (s.put a f x).flows = s.flows := rfl
@[simp] theorem State.put_dma (s : State) (a : Nat) (f : Fld) (x : Nat) : (s.put a f x).dma = s.dma := rfl
@[simp] theorem State.put_cmps (s : State) (a : Nat) (f : Fld) (x : Nat) : (s.put a f x).cmps = s.cmps := rfl
@[simp] theorem State.put_cmpTurn (s : State) (a : Nat) (f : Fld) (x : Nat) : (s.put a f x).cmpTurn = s.cmpTurn := rfl
@[simp] theorem State.put_blks (s : State) (a : Nat) (f : Fld) (x : Nat) : (s.put a f x).blks = s.blks := rfl
@[simp] theorem State.put_pmem (s : State) (a : Nat) (f : Fld) (x : Nat) : (s.put a f x).pmem = s.pmem := rfl
@[simp] theorem State.put_closedEnds (s : State) (a : Nat) (f : Fld) (x : Nat) : (s.put a f x).closedEnds = s.closedEnds := rfl
@[simp] theorem State.put_stos (s : State) (a : Nat) (f : Fld) (x : Nat) : (s.put a f x).stos = s.stos := rfl
@[simp] theorem State.put_tpts (s : State) (a : Nat) (f : Fld) (x : Nat) : (s.put a f x).tpts = s.tpts := rfl
@[simp] theorem State.put_trus (s : State) (a : Nat) (f : Fld) (x : Nat) : (s.put a f x).trus = s.trus := rfl
@[simp] theorem State.put_trigQ (s : State) (a : Nat) (f : Fld) (x : Nat) : (s.put a f x).trigQ = s.trigQ := rfl
@[simp] theorem State.put_chn (s : State) (a : Nat) (f : Fld) (x : Nat) : (s.put a f x).chn = s.chn := rfl
@[simp] theorem State.put_decs (s : State) (a : Nat) (f : Fld) (x : Nat) : (s.put a f x).decs = s.decs := rfl
@[simp] theorem State.put_rings (s : State) (a : Nat) (f : Fld) (x : Nat) : (s.put a f x).rings = s.rings := rfl
@[simp] theorem State.put_wacs (s : State) (a : Nat) (f : Fld) (x : Nat) : (s.put a f x).wacs = s.wacs := rfl
@[simp] theorem State.put_pcvs (s : State) (a : Nat) (f : Fld) (x : Nat) : (s.put a f x).pcvs = s.pcvs := rfl
@[simp] theorem State.put_cfg (s : State) (a : Nat) (f : Fld) (x : Nat) : (s.put a f x).cfg = s.cfg := rfl
@[simp] theorem State.put_hlk (s : State) (a : Nat) (f : Fld) (x : Nat) : (s.put a f x).hlk = s.hlk := rfl
@[simp] theorem State.put_mon (s : State) (a : Nat) (f : Fld) (x : Nat) : (s.put a f x).mon = s.mon := rfl
@[simp] theorem State.put_boot (s : State) (a : Nat) (f : Fld) (x : Nat) : (s.put a f x).boot = s.boot := rfl
@[simp] theorem State.put_tap (s : State) (a : Nat) (f : Fld) (x : Nat) : (s.put a f x).tap = s.tap := rfl
@[simp] theorem State.put_memOut (s : State) (a : Nat) (f : Fld) (x : Nat) : (s.put a f x).memOut = s.memOut := rfl

/-! ### bump -/

@[simp] theorem State.bump_pending (s : State) (a n : Nat) : (s.bump a n).pending = s.pending := rfl
@[simp] theorem State.bump_tick (s : State) (a n : Nat) : (s.bump a n).tick = s.tick := rfl
@[simp] theorem State.bump_rt (s : State) (a n : Nat) : (s.bump a n).rt = s.rt := rfl
@[simp] theorem State.bump_free (s : State) (a n : Nat) : (s.bump a n).free = s.free := rfl
@[simp] theorem State.bump_lines (s : State) (a n : Nat) : (s.bump a n).lines = s.lines := rfl
@[simp] theorem State.bump_fab (s : State) (a n : Nat) : (s.bump a n).fab = s.fab := rfl
@[simp] theorem State.bump_queues (s : State) (a n : Nat) : (s.bump a n).queues = s.queues := rfl
@[simp] theorem State.bump_lastFrame (s : State) (a n : Nat) : (s.bump a n).lastFrame = s.lastFrame := rfl
@[simp] theorem State.bump_fchs (s : State) (a n : Nat) : (s.bump a n).fchs = s.fchs := rfl
@[simp] theorem State.bump_calTiles (s : State) (a n : Nat) : (s.bump a n).calTiles = s.calTiles := rfl
@[simp] theorem State.bump_calPorts (s : State) (a n : Nat) : (s.bump a n).calPorts = s.calPorts := rfl
@[simp] theorem State.bump_fieldTrims (s : State) (a n : Nat) : (s.bump a n).fieldTrims = s.fieldTrims := rfl
@[simp] theorem State.bump_dcfs (s : State) (a n : Nat) : (s.bump a n).dcfs = s.dcfs := rfl
@[simp] theorem State.bump_streams (s : State) (a n : Nat) : (s.bump a n).streams = s.streams := rfl
@[simp] theorem State.bump_evc (s : State) (a n : Nat) : (s.bump a n).evc = s.evc := rfl
@[simp] theorem State.bump_pwr (s : State) (a n : Nat) : (s.bump a n).pwr = s.pwr := rfl
@[simp] theorem State.bump_log (s : State) (a n : Nat) : (s.bump a n).log = s.log := rfl
@[simp] theorem State.bump_logWrapped (s : State) (a n : Nat) : (s.bump a n).logWrapped = s.logWrapped := rfl
@[simp] theorem State.bump_clk (s : State) (a n : Nat) : (s.bump a n).clk = s.clk := rfl
@[simp] theorem State.bump_mem (s : State) (a n : Nat) : (s.bump a n).mem = s.mem := rfl
@[simp] theorem State.bump_mchs (s : State) (a n : Nat) : (s.bump a n).mchs = s.mchs := rfl
@[simp] theorem State.bump_mdlls (s : State) (a n : Nat) : (s.bump a n).mdlls = s.mdlls := rfl
@[simp] theorem State.bump_nv (s : State) (a n : Nat) : (s.bump a n).nv = s.nv := rfl
@[simp] theorem State.bump_flows (s : State) (a n : Nat) : (s.bump a n).flows = s.flows := rfl
@[simp] theorem State.bump_dma (s : State) (a n : Nat) : (s.bump a n).dma = s.dma := rfl
@[simp] theorem State.bump_cmps (s : State) (a n : Nat) : (s.bump a n).cmps = s.cmps := rfl
@[simp] theorem State.bump_cmpTurn (s : State) (a n : Nat) : (s.bump a n).cmpTurn = s.cmpTurn := rfl
@[simp] theorem State.bump_blks (s : State) (a n : Nat) : (s.bump a n).blks = s.blks := rfl
@[simp] theorem State.bump_pmem (s : State) (a n : Nat) : (s.bump a n).pmem = s.pmem := rfl
@[simp] theorem State.bump_closedEnds (s : State) (a n : Nat) : (s.bump a n).closedEnds = s.closedEnds := rfl
@[simp] theorem State.bump_stos (s : State) (a n : Nat) : (s.bump a n).stos = s.stos := rfl
@[simp] theorem State.bump_tpts (s : State) (a n : Nat) : (s.bump a n).tpts = s.tpts := rfl
@[simp] theorem State.bump_trus (s : State) (a n : Nat) : (s.bump a n).trus = s.trus := rfl
@[simp] theorem State.bump_trigQ (s : State) (a n : Nat) : (s.bump a n).trigQ = s.trigQ := rfl
@[simp] theorem State.bump_chn (s : State) (a n : Nat) : (s.bump a n).chn = s.chn := rfl
@[simp] theorem State.bump_decs (s : State) (a n : Nat) : (s.bump a n).decs = s.decs := rfl
@[simp] theorem State.bump_rings (s : State) (a n : Nat) : (s.bump a n).rings = s.rings := rfl
@[simp] theorem State.bump_wacs (s : State) (a n : Nat) : (s.bump a n).wacs = s.wacs := rfl
@[simp] theorem State.bump_pcvs (s : State) (a n : Nat) : (s.bump a n).pcvs = s.pcvs := rfl
@[simp] theorem State.bump_cfg (s : State) (a n : Nat) : (s.bump a n).cfg = s.cfg := rfl
@[simp] theorem State.bump_hlk (s : State) (a n : Nat) : (s.bump a n).hlk = s.hlk := rfl
@[simp] theorem State.bump_mon (s : State) (a n : Nat) : (s.bump a n).mon = s.mon := rfl
@[simp] theorem State.bump_boot (s : State) (a n : Nat) : (s.bump a n).boot = s.boot := rfl
@[simp] theorem State.bump_tap (s : State) (a n : Nat) : (s.bump a n).tap = s.tap := rfl
@[simp] theorem State.bump_memOut (s : State) (a n : Nat) : (s.bump a n).memOut = s.memOut := rfl

/-! ### noteSet -/

@[simp] theorem State.noteSet_pending (s : State) (a k : Nat) : (s.noteSet a k).pending = s.pending := rfl
@[simp] theorem State.noteSet_tick (s : State) (a k : Nat) : (s.noteSet a k).tick = s.tick := rfl
@[simp] theorem State.noteSet_rt (s : State) (a k : Nat) : (s.noteSet a k).rt = s.rt := rfl
@[simp] theorem State.noteSet_free (s : State) (a k : Nat) : (s.noteSet a k).free = s.free := rfl
@[simp] theorem State.noteSet_regs (s : State) (a k : Nat) : (s.noteSet a k).regs = s.regs := rfl
@[simp] theorem State.noteSet_lines (s : State) (a k : Nat) : (s.noteSet a k).lines = s.lines := rfl
@[simp] theorem State.noteSet_fab (s : State) (a k : Nat) : (s.noteSet a k).fab = s.fab := rfl
@[simp] theorem State.noteSet_queues (s : State) (a k : Nat) : (s.noteSet a k).queues = s.queues := rfl
@[simp] theorem State.noteSet_lastFrame (s : State) (a k : Nat) : (s.noteSet a k).lastFrame = s.lastFrame := rfl
@[simp] theorem State.noteSet_fchs (s : State) (a k : Nat) : (s.noteSet a k).fchs = s.fchs := rfl
@[simp] theorem State.noteSet_calTiles (s : State) (a k : Nat) : (s.noteSet a k).calTiles = s.calTiles := rfl
@[simp] theorem State.noteSet_calPorts (s : State) (a k : Nat) : (s.noteSet a k).calPorts = s.calPorts := rfl
@[simp] theorem State.noteSet_fieldTrims (s : State) (a k : Nat) : (s.noteSet a k).fieldTrims = s.fieldTrims := rfl
@[simp] theorem State.noteSet_dcfs (s : State) (a k : Nat) : (s.noteSet a k).dcfs = s.dcfs := rfl
@[simp] theorem State.noteSet_streams (s : State) (a k : Nat) : (s.noteSet a k).streams = s.streams := rfl
@[simp] theorem State.noteSet_evc (s : State) (a k : Nat) : (s.noteSet a k).evc = s.evc := rfl
@[simp] theorem State.noteSet_pwr (s : State) (a k : Nat) : (s.noteSet a k).pwr = s.pwr := rfl
@[simp] theorem State.noteSet_log (s : State) (a k : Nat) : (s.noteSet a k).log = s.log := rfl
@[simp] theorem State.noteSet_logWrapped (s : State) (a k : Nat) : (s.noteSet a k).logWrapped = s.logWrapped := rfl
@[simp] theorem State.noteSet_clk (s : State) (a k : Nat) : (s.noteSet a k).clk = s.clk := rfl
@[simp] theorem State.noteSet_mem (s : State) (a k : Nat) : (s.noteSet a k).mem = s.mem := rfl
@[simp] theorem State.noteSet_mchs (s : State) (a k : Nat) : (s.noteSet a k).mchs = s.mchs := rfl
@[simp] theorem State.noteSet_mdlls (s : State) (a k : Nat) : (s.noteSet a k).mdlls = s.mdlls := rfl
@[simp] theorem State.noteSet_nv (s : State) (a k : Nat) : (s.noteSet a k).nv = s.nv := rfl
@[simp] theorem State.noteSet_flows (s : State) (a k : Nat) : (s.noteSet a k).flows = s.flows := rfl
@[simp] theorem State.noteSet_dma (s : State) (a k : Nat) : (s.noteSet a k).dma = s.dma := rfl
@[simp] theorem State.noteSet_cmps (s : State) (a k : Nat) : (s.noteSet a k).cmps = s.cmps := rfl
@[simp] theorem State.noteSet_cmpTurn (s : State) (a k : Nat) : (s.noteSet a k).cmpTurn = s.cmpTurn := rfl
@[simp] theorem State.noteSet_blks (s : State) (a k : Nat) : (s.noteSet a k).blks = s.blks := rfl
@[simp] theorem State.noteSet_pmem (s : State) (a k : Nat) : (s.noteSet a k).pmem = s.pmem := rfl
@[simp] theorem State.noteSet_closedEnds (s : State) (a k : Nat) : (s.noteSet a k).closedEnds = s.closedEnds := rfl
@[simp] theorem State.noteSet_stos (s : State) (a k : Nat) : (s.noteSet a k).stos = s.stos := rfl
@[simp] theorem State.noteSet_tpts (s : State) (a k : Nat) : (s.noteSet a k).tpts = s.tpts := rfl
@[simp] theorem State.noteSet_trus (s : State) (a k : Nat) : (s.noteSet a k).trus = s.trus := rfl
@[simp] theorem State.noteSet_trigQ (s : State) (a k : Nat) : (s.noteSet a k).trigQ = s.trigQ := rfl
@[simp] theorem State.noteSet_chn (s : State) (a k : Nat) : (s.noteSet a k).chn = s.chn := rfl
@[simp] theorem State.noteSet_decs (s : State) (a k : Nat) : (s.noteSet a k).decs = s.decs := rfl
@[simp] theorem State.noteSet_rings (s : State) (a k : Nat) : (s.noteSet a k).rings = s.rings := rfl
@[simp] theorem State.noteSet_wacs (s : State) (a k : Nat) : (s.noteSet a k).wacs = s.wacs := rfl
@[simp] theorem State.noteSet_pcvs (s : State) (a k : Nat) : (s.noteSet a k).pcvs = s.pcvs := rfl
@[simp] theorem State.noteSet_cfg (s : State) (a k : Nat) : (s.noteSet a k).cfg = s.cfg := rfl
@[simp] theorem State.noteSet_hlk (s : State) (a k : Nat) : (s.noteSet a k).hlk = s.hlk := rfl
@[simp] theorem State.noteSet_mon (s : State) (a k : Nat) : (s.noteSet a k).mon = s.mon := rfl
@[simp] theorem State.noteSet_boot (s : State) (a k : Nat) : (s.noteSet a k).boot = s.boot := rfl
@[simp] theorem State.noteSet_tap (s : State) (a k : Nat) : (s.noteSet a k).tap = s.tap := rfl
@[simp] theorem State.noteSet_memOut (s : State) (a k : Nat) : (s.noteSet a k).memOut = s.memOut := rfl
@[simp] theorem State.noteSet_rd (s : State) (a k : Nat) (b : Nat) : (s.noteSet a k).rd b = s.rd b := rfl

/-! ### noteCount -/

@[simp] theorem State.noteCount_pending (s : State) (a n : Nat) : (s.noteCount a n).pending = s.pending := rfl
@[simp] theorem State.noteCount_tick (s : State) (a n : Nat) : (s.noteCount a n).tick = s.tick := rfl
@[simp] theorem State.noteCount_rt (s : State) (a n : Nat) : (s.noteCount a n).rt = s.rt := rfl
@[simp] theorem State.noteCount_free (s : State) (a n : Nat) : (s.noteCount a n).free = s.free := rfl
@[simp] theorem State.noteCount_regs (s : State) (a n : Nat) : (s.noteCount a n).regs = s.regs := rfl
@[simp] theorem State.noteCount_lines (s : State) (a n : Nat) : (s.noteCount a n).lines = s.lines := rfl
@[simp] theorem State.noteCount_fab (s : State) (a n : Nat) : (s.noteCount a n).fab = s.fab := rfl
@[simp] theorem State.noteCount_queues (s : State) (a n : Nat) : (s.noteCount a n).queues = s.queues := rfl
@[simp] theorem State.noteCount_lastFrame (s : State) (a n : Nat) : (s.noteCount a n).lastFrame = s.lastFrame := rfl
@[simp] theorem State.noteCount_fchs (s : State) (a n : Nat) : (s.noteCount a n).fchs = s.fchs := rfl
@[simp] theorem State.noteCount_calTiles (s : State) (a n : Nat) : (s.noteCount a n).calTiles = s.calTiles := rfl
@[simp] theorem State.noteCount_calPorts (s : State) (a n : Nat) : (s.noteCount a n).calPorts = s.calPorts := rfl
@[simp] theorem State.noteCount_fieldTrims (s : State) (a n : Nat) : (s.noteCount a n).fieldTrims = s.fieldTrims := rfl
@[simp] theorem State.noteCount_dcfs (s : State) (a n : Nat) : (s.noteCount a n).dcfs = s.dcfs := rfl
@[simp] theorem State.noteCount_streams (s : State) (a n : Nat) : (s.noteCount a n).streams = s.streams := rfl
@[simp] theorem State.noteCount_evc (s : State) (a n : Nat) : (s.noteCount a n).evc = s.evc := rfl
@[simp] theorem State.noteCount_pwr (s : State) (a n : Nat) : (s.noteCount a n).pwr = s.pwr := rfl
@[simp] theorem State.noteCount_log (s : State) (a n : Nat) : (s.noteCount a n).log = s.log := rfl
@[simp] theorem State.noteCount_logWrapped (s : State) (a n : Nat) : (s.noteCount a n).logWrapped = s.logWrapped := rfl
@[simp] theorem State.noteCount_clk (s : State) (a n : Nat) : (s.noteCount a n).clk = s.clk := rfl
@[simp] theorem State.noteCount_mem (s : State) (a n : Nat) : (s.noteCount a n).mem = s.mem := rfl
@[simp] theorem State.noteCount_mchs (s : State) (a n : Nat) : (s.noteCount a n).mchs = s.mchs := rfl
@[simp] theorem State.noteCount_mdlls (s : State) (a n : Nat) : (s.noteCount a n).mdlls = s.mdlls := rfl
@[simp] theorem State.noteCount_nv (s : State) (a n : Nat) : (s.noteCount a n).nv = s.nv := rfl
@[simp] theorem State.noteCount_flows (s : State) (a n : Nat) : (s.noteCount a n).flows = s.flows := rfl
@[simp] theorem State.noteCount_dma (s : State) (a n : Nat) : (s.noteCount a n).dma = s.dma := rfl
@[simp] theorem State.noteCount_cmps (s : State) (a n : Nat) : (s.noteCount a n).cmps = s.cmps := rfl
@[simp] theorem State.noteCount_cmpTurn (s : State) (a n : Nat) : (s.noteCount a n).cmpTurn = s.cmpTurn := rfl
@[simp] theorem State.noteCount_blks (s : State) (a n : Nat) : (s.noteCount a n).blks = s.blks := rfl
@[simp] theorem State.noteCount_pmem (s : State) (a n : Nat) : (s.noteCount a n).pmem = s.pmem := rfl
@[simp] theorem State.noteCount_closedEnds (s : State) (a n : Nat) : (s.noteCount a n).closedEnds = s.closedEnds := rfl
@[simp] theorem State.noteCount_stos (s : State) (a n : Nat) : (s.noteCount a n).stos = s.stos := rfl
@[simp] theorem State.noteCount_tpts (s : State) (a n : Nat) : (s.noteCount a n).tpts = s.tpts := rfl
@[simp] theorem State.noteCount_trus (s : State) (a n : Nat) : (s.noteCount a n).trus = s.trus := rfl
@[simp] theorem State.noteCount_trigQ (s : State) (a n : Nat) : (s.noteCount a n).trigQ = s.trigQ := rfl
@[simp] theorem State.noteCount_chn (s : State) (a n : Nat) : (s.noteCount a n).chn = s.chn := rfl
@[simp] theorem State.noteCount_decs (s : State) (a n : Nat) : (s.noteCount a n).decs = s.decs := rfl
@[simp] theorem State.noteCount_rings (s : State) (a n : Nat) : (s.noteCount a n).rings = s.rings := rfl
@[simp] theorem State.noteCount_wacs (s : State) (a n : Nat) : (s.noteCount a n).wacs = s.wacs := rfl
@[simp] theorem State.noteCount_pcvs (s : State) (a n : Nat) : (s.noteCount a n).pcvs = s.pcvs := rfl
@[simp] theorem State.noteCount_cfg (s : State) (a n : Nat) : (s.noteCount a n).cfg = s.cfg := rfl
@[simp] theorem State.noteCount_hlk (s : State) (a n : Nat) : (s.noteCount a n).hlk = s.hlk := rfl
@[simp] theorem State.noteCount_mon (s : State) (a n : Nat) : (s.noteCount a n).mon = s.mon := rfl
@[simp] theorem State.noteCount_boot (s : State) (a n : Nat) : (s.noteCount a n).boot = s.boot := rfl
@[simp] theorem State.noteCount_tap (s : State) (a n : Nat) : (s.noteCount a n).tap = s.tap := rfl
@[simp] theorem State.noteCount_memOut (s : State) (a n : Nat) : (s.noteCount a n).memOut = s.memOut := rfl
@[simp] theorem State.noteCount_rd (s : State) (a n : Nat) (b : Nat) : (s.noteCount a n).rd b = s.rd b := rfl

/-! ### useFree -/

@[simp] theorem State.useFree_pending (s : State) : (s.useFree).pending = s.pending := rfl
@[simp] theorem State.useFree_tick (s : State) : (s.useFree).tick = s.tick := rfl
@[simp] theorem State.useFree_rt (s : State) : (s.useFree).rt = s.rt := rfl
@[simp] theorem State.useFree_regs (s : State) : (s.useFree).regs = s.regs := rfl
@[simp] theorem State.useFree_cyc (s : State) : (s.useFree).cyc = s.cyc := rfl
@[simp] theorem State.useFree_lines (s : State) : (s.useFree).lines = s.lines := rfl
@[simp] theorem State.useFree_fab (s : State) : (s.useFree).fab = s.fab := rfl
@[simp] theorem State.useFree_queues (s : State) : (s.useFree).queues = s.queues := rfl
@[simp] theorem State.useFree_lastFrame (s : State) : (s.useFree).lastFrame = s.lastFrame := rfl
@[simp] theorem State.useFree_fchs (s : State) : (s.useFree).fchs = s.fchs := rfl
@[simp] theorem State.useFree_calTiles (s : State) : (s.useFree).calTiles = s.calTiles := rfl
@[simp] theorem State.useFree_calPorts (s : State) : (s.useFree).calPorts = s.calPorts := rfl
@[simp] theorem State.useFree_fieldTrims (s : State) : (s.useFree).fieldTrims = s.fieldTrims := rfl
@[simp] theorem State.useFree_dcfs (s : State) : (s.useFree).dcfs = s.dcfs := rfl
@[simp] theorem State.useFree_streams (s : State) : (s.useFree).streams = s.streams := rfl
@[simp] theorem State.useFree_evc (s : State) : (s.useFree).evc = s.evc := rfl
@[simp] theorem State.useFree_pwr (s : State) : (s.useFree).pwr = s.pwr := rfl
@[simp] theorem State.useFree_log (s : State) : (s.useFree).log = s.log := rfl
@[simp] theorem State.useFree_logWrapped (s : State) : (s.useFree).logWrapped = s.logWrapped := rfl
@[simp] theorem State.useFree_clk (s : State) : (s.useFree).clk = s.clk := rfl
@[simp] theorem State.useFree_mem (s : State) : (s.useFree).mem = s.mem := rfl
@[simp] theorem State.useFree_mchs (s : State) : (s.useFree).mchs = s.mchs := rfl
@[simp] theorem State.useFree_mdlls (s : State) : (s.useFree).mdlls = s.mdlls := rfl
@[simp] theorem State.useFree_nv (s : State) : (s.useFree).nv = s.nv := rfl
@[simp] theorem State.useFree_flows (s : State) : (s.useFree).flows = s.flows := rfl
@[simp] theorem State.useFree_dma (s : State) : (s.useFree).dma = s.dma := rfl
@[simp] theorem State.useFree_cmps (s : State) : (s.useFree).cmps = s.cmps := rfl
@[simp] theorem State.useFree_cmpTurn (s : State) : (s.useFree).cmpTurn = s.cmpTurn := rfl
@[simp] theorem State.useFree_blks (s : State) : (s.useFree).blks = s.blks := rfl
@[simp] theorem State.useFree_pmem (s : State) : (s.useFree).pmem = s.pmem := rfl
@[simp] theorem State.useFree_closedEnds (s : State) : (s.useFree).closedEnds = s.closedEnds := rfl
@[simp] theorem State.useFree_stos (s : State) : (s.useFree).stos = s.stos := rfl
@[simp] theorem State.useFree_tpts (s : State) : (s.useFree).tpts = s.tpts := rfl
@[simp] theorem State.useFree_trus (s : State) : (s.useFree).trus = s.trus := rfl
@[simp] theorem State.useFree_trigQ (s : State) : (s.useFree).trigQ = s.trigQ := rfl
@[simp] theorem State.useFree_chn (s : State) : (s.useFree).chn = s.chn := rfl
@[simp] theorem State.useFree_decs (s : State) : (s.useFree).decs = s.decs := rfl
@[simp] theorem State.useFree_rings (s : State) : (s.useFree).rings = s.rings := rfl
@[simp] theorem State.useFree_wacs (s : State) : (s.useFree).wacs = s.wacs := rfl
@[simp] theorem State.useFree_pcvs (s : State) : (s.useFree).pcvs = s.pcvs := rfl
@[simp] theorem State.useFree_cfg (s : State) : (s.useFree).cfg = s.cfg := rfl
@[simp] theorem State.useFree_hlk (s : State) : (s.useFree).hlk = s.hlk := rfl
@[simp] theorem State.useFree_mon (s : State) : (s.useFree).mon = s.mon := rfl
@[simp] theorem State.useFree_boot (s : State) : (s.useFree).boot = s.boot := rfl
@[simp] theorem State.useFree_tap (s : State) : (s.useFree).tap = s.tap := rfl
@[simp] theorem State.useFree_memOut (s : State) : (s.useFree).memOut = s.memOut := rfl
@[simp] theorem State.useFree_rd (s : State) (b : Nat) : (s.useFree).rd b = s.rd b := rfl

/-! ### sendLine -/

@[simp] theorem State.sendLine_pending (s : State) (n : Nat) (r : Bool) : (s.sendLine n r).pending = s.pending := rfl
@[simp] theorem State.sendLine_tick (s : State) (n : Nat) (r : Bool) : (s.sendLine n r).tick = s.tick := rfl
@[simp] theorem State.sendLine_rt (s : State) (n : Nat) (r : Bool) : (s.sendLine n r).rt = s.rt := rfl
@[simp] theorem State.sendLine_free (s : State) (n : Nat) (r : Bool) : (s.sendLine n r).free = s.free := rfl
@[simp] theorem State.sendLine_regs (s : State) (n : Nat) (r : Bool) : (s.sendLine n r).regs = s.regs := rfl
@[simp] theorem State.sendLine_cyc (s : State) (n : Nat) (r : Bool) : (s.sendLine n r).cyc = s.cyc := rfl
@[simp] theorem State.sendLine_fab (s : State) (n : Nat) (r : Bool) : (s.sendLine n r).fab = s.fab := rfl
@[simp] theorem State.sendLine_queues (s : State) (n : Nat) (r : Bool) : (s.sendLine n r).queues = s.queues := rfl
@[simp] theorem State.sendLine_lastFrame (s : State) (n : Nat) (r : Bool) : (s.sendLine n r).lastFrame = s.lastFrame := rfl
@[simp] theorem State.sendLine_fchs (s : State) (n : Nat) (r : Bool) : (s.sendLine n r).fchs = s.fchs := rfl
@[simp] theorem State.sendLine_calTiles (s : State) (n : Nat) (r : Bool) : (s.sendLine n r).calTiles = s.calTiles := rfl
@[simp] theorem State.sendLine_calPorts (s : State) (n : Nat) (r : Bool) : (s.sendLine n r).calPorts = s.calPorts := rfl
@[simp] theorem State.sendLine_fieldTrims (s : State) (n : Nat) (r : Bool) : (s.sendLine n r).fieldTrims = s.fieldTrims := rfl
@[simp] theorem State.sendLine_dcfs (s : State) (n : Nat) (r : Bool) : (s.sendLine n r).dcfs = s.dcfs := rfl
@[simp] theorem State.sendLine_streams (s : State) (n : Nat) (r : Bool) : (s.sendLine n r).streams = s.streams := rfl
@[simp] theorem State.sendLine_evc (s : State) (n : Nat) (r : Bool) : (s.sendLine n r).evc = s.evc := rfl
@[simp] theorem State.sendLine_pwr (s : State) (n : Nat) (r : Bool) : (s.sendLine n r).pwr = s.pwr := rfl
@[simp] theorem State.sendLine_log (s : State) (n : Nat) (r : Bool) : (s.sendLine n r).log = s.log := rfl
@[simp] theorem State.sendLine_logWrapped (s : State) (n : Nat) (r : Bool) : (s.sendLine n r).logWrapped = s.logWrapped := rfl
@[simp] theorem State.sendLine_clk (s : State) (n : Nat) (r : Bool) : (s.sendLine n r).clk = s.clk := rfl
@[simp] theorem State.sendLine_mem (s : State) (n : Nat) (r : Bool) : (s.sendLine n r).mem = s.mem := rfl
@[simp] theorem State.sendLine_mchs (s : State) (n : Nat) (r : Bool) : (s.sendLine n r).mchs = s.mchs := rfl
@[simp] theorem State.sendLine_mdlls (s : State) (n : Nat) (r : Bool) : (s.sendLine n r).mdlls = s.mdlls := rfl
@[simp] theorem State.sendLine_nv (s : State) (n : Nat) (r : Bool) : (s.sendLine n r).nv = s.nv := rfl
@[simp] theorem State.sendLine_flows (s : State) (n : Nat) (r : Bool) : (s.sendLine n r).flows = s.flows := rfl
@[simp] theorem State.sendLine_dma (s : State) (n : Nat) (r : Bool) : (s.sendLine n r).dma = s.dma := rfl
@[simp] theorem State.sendLine_cmps (s : State) (n : Nat) (r : Bool) : (s.sendLine n r).cmps = s.cmps := rfl
@[simp] theorem State.sendLine_cmpTurn (s : State) (n : Nat) (r : Bool) : (s.sendLine n r).cmpTurn = s.cmpTurn := rfl
@[simp] theorem State.sendLine_blks (s : State) (n : Nat) (r : Bool) : (s.sendLine n r).blks = s.blks := rfl
@[simp] theorem State.sendLine_pmem (s : State) (n : Nat) (r : Bool) : (s.sendLine n r).pmem = s.pmem := rfl
@[simp] theorem State.sendLine_closedEnds (s : State) (n : Nat) (r : Bool) : (s.sendLine n r).closedEnds = s.closedEnds := rfl
@[simp] theorem State.sendLine_stos (s : State) (n : Nat) (r : Bool) : (s.sendLine n r).stos = s.stos := rfl
@[simp] theorem State.sendLine_tpts (s : State) (n : Nat) (r : Bool) : (s.sendLine n r).tpts = s.tpts := rfl
@[simp] theorem State.sendLine_trus (s : State) (n : Nat) (r : Bool) : (s.sendLine n r).trus = s.trus := rfl
@[simp] theorem State.sendLine_trigQ (s : State) (n : Nat) (r : Bool) : (s.sendLine n r).trigQ = s.trigQ := rfl
@[simp] theorem State.sendLine_chn (s : State) (n : Nat) (r : Bool) : (s.sendLine n r).chn = s.chn := rfl
@[simp] theorem State.sendLine_decs (s : State) (n : Nat) (r : Bool) : (s.sendLine n r).decs = s.decs := rfl
@[simp] theorem State.sendLine_rings (s : State) (n : Nat) (r : Bool) : (s.sendLine n r).rings = s.rings := rfl
@[simp] theorem State.sendLine_wacs (s : State) (n : Nat) (r : Bool) : (s.sendLine n r).wacs = s.wacs := rfl
@[simp] theorem State.sendLine_pcvs (s : State) (n : Nat) (r : Bool) : (s.sendLine n r).pcvs = s.pcvs := rfl
@[simp] theorem State.sendLine_cfg (s : State) (n : Nat) (r : Bool) : (s.sendLine n r).cfg = s.cfg := rfl
@[simp] theorem State.sendLine_hlk (s : State) (n : Nat) (r : Bool) : (s.sendLine n r).hlk = s.hlk := rfl
@[simp] theorem State.sendLine_mon (s : State) (n : Nat) (r : Bool) : (s.sendLine n r).mon = s.mon := rfl
@[simp] theorem State.sendLine_boot (s : State) (n : Nat) (r : Bool) : (s.sendLine n r).boot = s.boot := rfl
@[simp] theorem State.sendLine_tap (s : State) (n : Nat) (r : Bool) : (s.sendLine n r).tap = s.tap := rfl
@[simp] theorem State.sendLine_memOut (s : State) (n : Nat) (r : Bool) : (s.sendLine n r).memOut = s.memOut := rfl
@[simp] theorem State.sendLine_rd (s : State) (n : Nat) (r : Bool) (b : Nat) : (s.sendLine n r).rd b = s.rd b := rfl

/-! ### noOut -/

@[simp] theorem State.noOut_pending (s : State) : (s.noOut).pending = s.pending := rfl
@[simp] theorem State.noOut_tick (s : State) : (s.noOut).tick = s.tick := rfl
@[simp] theorem State.noOut_rt (s : State) : (s.noOut).rt = s.rt := rfl
@[simp] theorem State.noOut_free (s : State) : (s.noOut).free = s.free := rfl
@[simp] theorem State.noOut_regs (s : State) : (s.noOut).regs = s.regs := rfl
@[simp] theorem State.noOut_cyc (s : State) : (s.noOut).cyc = s.cyc := rfl
@[simp] theorem State.noOut_lines (s : State) : (s.noOut).lines = s.lines := rfl
@[simp] theorem State.noOut_fab (s : State) : (s.noOut).fab = s.fab := rfl
@[simp] theorem State.noOut_queues (s : State) : (s.noOut).queues = s.queues := rfl
@[simp] theorem State.noOut_lastFrame (s : State) : (s.noOut).lastFrame = s.lastFrame := rfl
@[simp] theorem State.noOut_fchs (s : State) : (s.noOut).fchs = s.fchs := rfl
@[simp] theorem State.noOut_calTiles (s : State) : (s.noOut).calTiles = s.calTiles := rfl
@[simp] theorem State.noOut_calPorts (s : State) : (s.noOut).calPorts = s.calPorts := rfl
@[simp] theorem State.noOut_fieldTrims (s : State) : (s.noOut).fieldTrims = s.fieldTrims := rfl
@[simp] theorem State.noOut_dcfs (s : State) : (s.noOut).dcfs = s.dcfs := rfl
@[simp] theorem State.noOut_streams (s : State) : (s.noOut).streams = s.streams := rfl
@[simp] theorem State.noOut_evc (s : State) : (s.noOut).evc = s.evc := rfl
@[simp] theorem State.noOut_pwr (s : State) : (s.noOut).pwr = s.pwr := rfl
@[simp] theorem State.noOut_log (s : State) : (s.noOut).log = s.log := rfl
@[simp] theorem State.noOut_logWrapped (s : State) : (s.noOut).logWrapped = s.logWrapped := rfl
@[simp] theorem State.noOut_clk (s : State) : (s.noOut).clk = s.clk := rfl
@[simp] theorem State.noOut_mem (s : State) : (s.noOut).mem = s.mem := rfl
@[simp] theorem State.noOut_mchs (s : State) : (s.noOut).mchs = s.mchs := rfl
@[simp] theorem State.noOut_mdlls (s : State) : (s.noOut).mdlls = s.mdlls := rfl
@[simp] theorem State.noOut_nv (s : State) : (s.noOut).nv = s.nv := rfl
@[simp] theorem State.noOut_flows (s : State) : (s.noOut).flows = s.flows := rfl
@[simp] theorem State.noOut_dma (s : State) : (s.noOut).dma = s.dma := rfl
@[simp] theorem State.noOut_cmps (s : State) : (s.noOut).cmps = s.cmps := rfl
@[simp] theorem State.noOut_cmpTurn (s : State) : (s.noOut).cmpTurn = s.cmpTurn := rfl
@[simp] theorem State.noOut_blks (s : State) : (s.noOut).blks = s.blks := rfl
@[simp] theorem State.noOut_pmem (s : State) : (s.noOut).pmem = s.pmem := rfl
@[simp] theorem State.noOut_closedEnds (s : State) : (s.noOut).closedEnds = s.closedEnds := rfl
@[simp] theorem State.noOut_stos (s : State) : (s.noOut).stos = s.stos := rfl
@[simp] theorem State.noOut_tpts (s : State) : (s.noOut).tpts = s.tpts := rfl
@[simp] theorem State.noOut_trus (s : State) : (s.noOut).trus = s.trus := rfl
@[simp] theorem State.noOut_trigQ (s : State) : (s.noOut).trigQ = s.trigQ := rfl
@[simp] theorem State.noOut_chn (s : State) : (s.noOut).chn = s.chn := rfl
@[simp] theorem State.noOut_decs (s : State) : (s.noOut).decs = s.decs := rfl
@[simp] theorem State.noOut_rings (s : State) : (s.noOut).rings = s.rings := rfl
@[simp] theorem State.noOut_wacs (s : State) : (s.noOut).wacs = s.wacs := rfl
@[simp] theorem State.noOut_pcvs (s : State) : (s.noOut).pcvs = s.pcvs := rfl
@[simp] theorem State.noOut_cfg (s : State) : (s.noOut).cfg = s.cfg := rfl
@[simp] theorem State.noOut_mon (s : State) : (s.noOut).mon = s.mon := rfl
@[simp] theorem State.noOut_boot (s : State) : (s.noOut).boot = s.boot := rfl
@[simp] theorem State.noOut_tap (s : State) : (s.noOut).tap = s.tap := rfl
@[simp] theorem State.noOut_memOut (s : State) : (s.noOut).memOut = s.memOut := rfl
@[simp] theorem State.noOut_rd (s : State) (b : Nat) : (s.noOut).rd b = s.rd b := rfl

/-! ### setMch -/

@[simp] theorem State.setMch_pending (s : State) (m : Nat) (x : MchHid) : (s.setMch m x).pending = s.pending := rfl
@[simp] theorem State.setMch_tick (s : State) (m : Nat) (x : MchHid) : (s.setMch m x).tick = s.tick := rfl
@[simp] theorem State.setMch_rt (s : State) (m : Nat) (x : MchHid) : (s.setMch m x).rt = s.rt := rfl
@[simp] theorem State.setMch_regs (s : State) (m : Nat) (x : MchHid) : (s.setMch m x).regs = s.regs := rfl
@[simp] theorem State.setMch_mem (s : State) (m : Nat) (x : MchHid) : (s.setMch m x).mem = s.mem := rfl
@[simp] theorem State.setMch_pmem (s : State) (m : Nat) (x : MchHid) : (s.setMch m x).pmem = s.pmem := rfl
@[simp] theorem State.setMch_rd (s : State) (m : Nat) (x : MchHid) (b : Nat) : (s.setMch m x).rd b = s.rd b := rfl
@[simp] theorem State.mch_setMch (s : State) (m : Nat) (x : MchHid) : (s.setMch m x).mch m = x := lookupD_updateD_self _ _ _ _
theorem State.mch_setMch_ne (s : State) {m j : Nat} (h : j ≠ m) (x : MchHid) : (s.setMch m x).mch j = s.mch j := lookupD_updateD_ne _ _ h _

/-! ### setMdll -/

@[simp] theorem State.setMdll_pending (s : State) (m : Nat) (x : MdllHid) : (s.setMdll m x).pending = s.pending := rfl
@[simp] theorem State.setMdll_tick (s : State) (m : Nat) (x : MdllHid) : (s.setMdll m x).tick = s.tick := rfl
@[simp] theorem State.setMdll_rt (s : State) (m : Nat) (x : MdllHid) : (s.setMdll m x).rt = s.rt := rfl
@[simp] theorem State.setMdll_regs (s : State) (m : Nat) (x : MdllHid) : (s.setMdll m x).regs = s.regs := rfl
@[simp] theorem State.setMdll_mem (s : State) (m : Nat) (x : MdllHid) : (s.setMdll m x).mem = s.mem := rfl
@[simp] theorem State.setMdll_pmem (s : State) (m : Nat) (x : MdllHid) : (s.setMdll m x).pmem = s.pmem := rfl
@[simp] theorem State.setMdll_rd (s : State) (m : Nat) (x : MdllHid) (b : Nat) : (s.setMdll m x).rd b = s.rd b := rfl
@[simp] theorem State.mdll_setMdll (s : State) (m : Nat) (x : MdllHid) : (s.setMdll m x).mdll m = x := lookupD_updateD_self _ _ _ _
theorem State.mdll_setMdll_ne (s : State) {m j : Nat} (h : j ≠ m) (x : MdllHid) : (s.setMdll m x).mdll j = s.mdll j := lookupD_updateD_ne _ _ h _

/-! ### setFlow -/

@[simp] theorem State.setFlow_pending (s : State) (f : Nat) (x : DmaFlow) : (s.setFlow f x).pending = s.pending := rfl
@[simp] theorem State.setFlow_tick (s : State) (f : Nat) (x : DmaFlow) : (s.setFlow f x).tick = s.tick := rfl
@[simp] theorem State.setFlow_rt (s : State) (f : Nat) (x : DmaFlow) : (s.setFlow f x).rt = s.rt := rfl
@[simp] theorem State.setFlow_regs (s : State) (f : Nat) (x : DmaFlow) : (s.setFlow f x).regs = s.regs := rfl
@[simp] theorem State.setFlow_mem (s : State) (f : Nat) (x : DmaFlow) : (s.setFlow f x).mem = s.mem := rfl
@[simp] theorem State.setFlow_pmem (s : State) (f : Nat) (x : DmaFlow) : (s.setFlow f x).pmem = s.pmem := rfl
@[simp] theorem State.setFlow_rd (s : State) (f : Nat) (x : DmaFlow) (b : Nat) : (s.setFlow f x).rd b = s.rd b := rfl
@[simp] theorem State.flow_setFlow (s : State) (f : Nat) (x : DmaFlow) : (s.setFlow f x).flow f = x := lookupD_updateD_self _ _ _ _
theorem State.flow_setFlow_ne (s : State) {f j : Nat} (h : j ≠ f) (x : DmaFlow) : (s.setFlow f x).flow j = s.flow j := lookupD_updateD_ne _ _ h _

/-! ### setFch -/

@[simp] theorem State.setFch_pending (s : State) (n : Nat) (x : FchHid) : (s.setFch n x).pending = s.pending := rfl
@[simp] theorem State.setFch_tick (s : State) (n : Nat) (x : FchHid) : (s.setFch n x).tick = s.tick := rfl
@[simp] theorem State.setFch_rt (s : State) (n : Nat) (x : FchHid) : (s.setFch n x).rt = s.rt := rfl
@[simp] theorem State.setFch_regs (s : State) (n : Nat) (x : FchHid) : (s.setFch n x).regs = s.regs := rfl
@[simp] theorem State.setFch_mem (s : State) (n : Nat) (x : FchHid) : (s.setFch n x).mem = s.mem := rfl
@[simp] theorem State.setFch_pmem (s : State) (n : Nat) (x : FchHid) : (s.setFch n x).pmem = s.pmem := rfl
@[simp] theorem State.setFch_rd (s : State) (n : Nat) (x : FchHid) (b : Nat) : (s.setFch n x).rd b = s.rd b := rfl
@[simp] theorem State.fch_setFch (s : State) (n : Nat) (x : FchHid) : (s.setFch n x).fch n = x := lookupD_updateD_self _ _ _ _
theorem State.fch_setFch_ne (s : State) {n j : Nat} (h : j ≠ n) (x : FchHid) : (s.setFch n x).fch j = s.fch j := lookupD_updateD_ne _ _ h _

/-! ### setDcf -/

@[simp] theorem State.setDcf_pending (s : State) (n : Nat) (x : DcfHid) : (s.setDcf n x).pending = s.pending := rfl
@[simp] theorem State.setDcf_tick (s : State) (n : Nat) (x : DcfHid) : (s.setDcf n x).tick = s.tick := rfl
@[simp] theorem State.setDcf_rt (s : State) (n : Nat) (x : DcfHid) : (s.setDcf n x).rt = s.rt := rfl
@[simp] theorem State.setDcf_regs (s : State) (n : Nat) (x : DcfHid) : (s.setDcf n x).regs = s.regs := rfl
@[simp] theorem State.setDcf_mem (s : State) (n : Nat) (x : DcfHid) : (s.setDcf n x).mem = s.mem := rfl
@[simp] theorem State.setDcf_pmem (s : State) (n : Nat) (x : DcfHid) : (s.setDcf n x).pmem = s.pmem := rfl
@[simp] theorem State.setDcf_rd (s : State) (n : Nat) (x : DcfHid) (b : Nat) : (s.setDcf n x).rd b = s.rd b := rfl
@[simp] theorem State.dcf_setDcf (s : State) (n : Nat) (x : DcfHid) : (s.setDcf n x).dcf n = x := lookupD_updateD_self _ _ _ _
theorem State.dcf_setDcf_ne (s : State) {n j : Nat} (h : j ≠ n) (x : DcfHid) : (s.setDcf n x).dcf j = s.dcf j := lookupD_updateD_ne _ _ h _

/-! ### setTru -/

@[simp] theorem State.setTru_pending (s : State) (u : Nat) (x : TruHid) : (s.setTru u x).pending = s.pending := rfl
@[simp] theorem State.setTru_tick (s : State) (u : Nat) (x : TruHid) : (s.setTru u x).tick = s.tick := rfl
@[simp] theorem State.setTru_rt (s : State) (u : Nat) (x : TruHid) : (s.setTru u x).rt = s.rt := rfl
@[simp] theorem State.setTru_regs (s : State) (u : Nat) (x : TruHid) : (s.setTru u x).regs = s.regs := rfl
@[simp] theorem State.setTru_mem (s : State) (u : Nat) (x : TruHid) : (s.setTru u x).mem = s.mem := rfl
@[simp] theorem State.setTru_pmem (s : State) (u : Nat) (x : TruHid) : (s.setTru u x).pmem = s.pmem := rfl
@[simp] theorem State.setTru_rd (s : State) (u : Nat) (x : TruHid) (b : Nat) : (s.setTru u x).rd b = s.rd b := rfl
@[simp] theorem State.tru_setTru (s : State) (u : Nat) (x : TruHid) : (s.setTru u x).tru u = x := lookupD_updateD_self _ _ _ _
theorem State.tru_setTru_ne (s : State) {u j : Nat} (h : j ≠ u) (x : TruHid) : (s.setTru u x).tru j = s.tru j := lookupD_updateD_ne _ _ h _

/-! ### setPcv -/

@[simp] theorem State.setPcv_pending (s : State) (k : Nat) (x : PcvHid) : (s.setPcv k x).pending = s.pending := rfl
@[simp] theorem State.setPcv_tick (s : State) (k : Nat) (x : PcvHid) : (s.setPcv k x).tick = s.tick := rfl
@[simp] theorem State.setPcv_rt (s : State) (k : Nat) (x : PcvHid) : (s.setPcv k x).rt = s.rt := rfl
@[simp] theorem State.setPcv_regs (s : State) (k : Nat) (x : PcvHid) : (s.setPcv k x).regs = s.regs := rfl
@[simp] theorem State.setPcv_mem (s : State) (k : Nat) (x : PcvHid) : (s.setPcv k x).mem = s.mem := rfl
@[simp] theorem State.setPcv_pmem (s : State) (k : Nat) (x : PcvHid) : (s.setPcv k x).pmem = s.pmem := rfl
@[simp] theorem State.setPcv_rd (s : State) (k : Nat) (x : PcvHid) (b : Nat) : (s.setPcv k x).rd b = s.rd b := rfl
@[simp] theorem State.pcv_setPcv (s : State) (k : Nat) (x : PcvHid) : (s.setPcv k x).pcv k = x := lookupD_updateD_self _ _ _ _
theorem State.pcv_setPcv_ne (s : State) {k j : Nat} (h : j ≠ k) (x : PcvHid) : (s.setPcv k x).pcv j = s.pcv j := lookupD_updateD_ne _ _ h _

/-! ### setSto -/

@[simp] theorem State.setSto_pending (s : State) (n : Nat) (x : StoHid) : (s.setSto n x).pending = s.pending := rfl
@[simp] theorem State.setSto_tick (s : State) (n : Nat) (x : StoHid) : (s.setSto n x).tick = s.tick := rfl
@[simp] theorem State.setSto_rt (s : State) (n : Nat) (x : StoHid) : (s.setSto n x).rt = s.rt := rfl
@[simp] theorem State.setSto_regs (s : State) (n : Nat) (x : StoHid) : (s.setSto n x).regs = s.regs := rfl
@[simp] theorem State.setSto_mem (s : State) (n : Nat) (x : StoHid) : (s.setSto n x).mem = s.mem := rfl
@[simp] theorem State.setSto_pmem (s : State) (n : Nat) (x : StoHid) : (s.setSto n x).pmem = s.pmem := rfl
@[simp] theorem State.setSto_rd (s : State) (n : Nat) (x : StoHid) (b : Nat) : (s.setSto n x).rd b = s.rd b := rfl
@[simp] theorem State.sto_setSto (s : State) (n : Nat) (x : StoHid) : (s.setSto n x).sto n = x := lookupD_updateD_self _ _ _ _
theorem State.sto_setSto_ne (s : State) {n j : Nat} (h : j ≠ n) (x : StoHid) : (s.setSto n x).sto j = s.sto j := lookupD_updateD_ne _ _ h _

/-! ### setTpt -/

@[simp] theorem State.setTpt_pending (s : State) (p : Nat) (x : TptHid) : (s.setTpt p x).pending = s.pending := rfl
@[simp] theorem State.setTpt_tick (s : State) (p : Nat) (x : TptHid) : (s.setTpt p x).tick = s.tick := rfl
@[simp] theorem State.setTpt_rt (s : State) (p : Nat) (x : TptHid) : (s.setTpt p x).rt = s.rt := rfl
@[simp] theorem State.setTpt_regs (s : State) (p : Nat) (x : TptHid) : (s.setTpt p x).regs = s.regs := rfl
@[simp] theorem State.setTpt_mem (s : State) (p : Nat) (x : TptHid) : (s.setTpt p x).mem = s.mem := rfl
@[simp] theorem State.setTpt_pmem (s : State) (p : Nat) (x : TptHid) : (s.setTpt p x).pmem = s.pmem := rfl
@[simp] theorem State.setTpt_rd (s : State) (p : Nat) (x : TptHid) (b : Nat) : (s.setTpt p x).rd b = s.rd b := rfl
@[simp] theorem State.tpt_setTpt (s : State) (p : Nat) (x : TptHid) : (s.setTpt p x).tpt p = x := lookupD_updateD_self _ _ _ _
theorem State.tpt_setTpt_ne (s : State) {p j : Nat} (h : j ≠ p) (x : TptHid) : (s.setTpt p x).tpt j = s.tpt j := lookupD_updateD_ne _ _ h _

/-! ### setWac -/

@[simp] theorem State.setWac_pending (s : State) (n : Nat) (x : WacHid) : (s.setWac n x).pending = s.pending := rfl
@[simp] theorem State.setWac_tick (s : State) (n : Nat) (x : WacHid) : (s.setWac n x).tick = s.tick := rfl
@[simp] theorem State.setWac_rt (s : State) (n : Nat) (x : WacHid) : (s.setWac n x).rt = s.rt := rfl
@[simp] theorem State.setWac_regs (s : State) (n : Nat) (x : WacHid) : (s.setWac n x).regs = s.regs := rfl
@[simp] theorem State.setWac_mem (s : State) (n : Nat) (x : WacHid) : (s.setWac n x).mem = s.mem := rfl
@[simp] theorem State.setWac_pmem (s : State) (n : Nat) (x : WacHid) : (s.setWac n x).pmem = s.pmem := rfl
@[simp] theorem State.setWac_rd (s : State) (n : Nat) (x : WacHid) (b : Nat) : (s.setWac n x).rd b = s.rd b := rfl
@[simp] theorem State.wac_setWac (s : State) (n : Nat) (x : WacHid) : (s.setWac n x).wac n = x := lookupD_updateD_self _ _ _ _
theorem State.wac_setWac_ne (s : State) {n j : Nat} (h : j ≠ n) (x : WacHid) : (s.setWac n x).wac j = s.wac j := lookupD_updateD_ne _ _ h _

/-! ### setCmp -/

@[simp] theorem State.setCmp_pending (s : State) (n : Nat) (x : CmpHid) : (s.setCmp n x).pending = s.pending := rfl
@[simp] theorem State.setCmp_tick (s : State) (n : Nat) (x : CmpHid) : (s.setCmp n x).tick = s.tick := rfl
@[simp] theorem State.setCmp_rt (s : State) (n : Nat) (x : CmpHid) : (s.setCmp n x).rt = s.rt := rfl
@[simp] theorem State.setCmp_regs (s : State) (n : Nat) (x : CmpHid) : (s.setCmp n x).regs = s.regs := rfl
@[simp] theorem State.setCmp_mem (s : State) (n : Nat) (x : CmpHid) : (s.setCmp n x).mem = s.mem := rfl
@[simp] theorem State.setCmp_pmem (s : State) (n : Nat) (x : CmpHid) : (s.setCmp n x).pmem = s.pmem := rfl
@[simp] theorem State.setCmp_rd (s : State) (n : Nat) (x : CmpHid) (b : Nat) : (s.setCmp n x).rd b = s.rd b := rfl
@[simp] theorem State.cmp_setCmp (s : State) (n : Nat) (x : CmpHid) : (s.setCmp n x).cmp n = x := lookupD_updateD_self _ _ _ _
theorem State.cmp_setCmp_ne (s : State) {n j : Nat} (h : j ≠ n) (x : CmpHid) : (s.setCmp n x).cmp j = s.cmp j := lookupD_updateD_ne _ _ h _

/-! ### setDec -/

@[simp] theorem State.setDec_pending (s : State) (k : Nat) (x : DecHid) : (s.setDec k x).pending = s.pending := rfl
@[simp] theorem State.setDec_tick (s : State) (k : Nat) (x : DecHid) : (s.setDec k x).tick = s.tick := rfl
@[simp] theorem State.setDec_rt (s : State) (k : Nat) (x : DecHid) : (s.setDec k x).rt = s.rt := rfl
@[simp] theorem State.setDec_regs (s : State) (k : Nat) (x : DecHid) : (s.setDec k x).regs = s.regs := rfl
@[simp] theorem State.setDec_mem (s : State) (k : Nat) (x : DecHid) : (s.setDec k x).mem = s.mem := rfl
@[simp] theorem State.setDec_pmem (s : State) (k : Nat) (x : DecHid) : (s.setDec k x).pmem = s.pmem := rfl
@[simp] theorem State.setDec_rd (s : State) (k : Nat) (x : DecHid) (b : Nat) : (s.setDec k x).rd b = s.rd b := rfl
@[simp] theorem State.dec_setDec (s : State) (k : Nat) (x : DecHid) : (s.setDec k x).dec k = x := lookupD_updateD_self _ _ _ _
theorem State.dec_setDec_ne (s : State) {k j : Nat} (h : j ≠ k) (x : DecHid) : (s.setDec k x).dec j = s.dec j := lookupD_updateD_ne _ _ h _

/-! ### setRings -/

@[simp] theorem State.setRings_pending (s : State) (g : Nat) (x : List PolRing) : (s.setRings g x).pending = s.pending := rfl
@[simp] theorem State.setRings_tick (s : State) (g : Nat) (x : List PolRing) : (s.setRings g x).tick = s.tick := rfl
@[simp] theorem State.setRings_rt (s : State) (g : Nat) (x : List PolRing) : (s.setRings g x).rt = s.rt := rfl
@[simp] theorem State.setRings_regs (s : State) (g : Nat) (x : List PolRing) : (s.setRings g x).regs = s.regs := rfl
@[simp] theorem State.setRings_mem (s : State) (g : Nat) (x : List PolRing) : (s.setRings g x).mem = s.mem := rfl
@[simp] theorem State.setRings_pmem (s : State) (g : Nat) (x : List PolRing) : (s.setRings g x).pmem = s.pmem := rfl
@[simp] theorem State.setRings_rd (s : State) (g : Nat) (x : List PolRing) (b : Nat) : (s.setRings g x).rd b = s.rd b := rfl
@[simp] theorem State.ringsOf_setRings (s : State) (g : Nat) (x : List PolRing) : (s.setRings g x).ringsOf g = x := lookupD_updateD_self _ _ _ _
theorem State.ringsOf_setRings_ne (s : State) {g j : Nat} (h : j ≠ g) (x : List PolRing) : (s.setRings g x).ringsOf j = s.ringsOf j := lookupD_updateD_ne _ _ h _

/-! ### setTrigs -/

@[simp] theorem State.setTrigs_pending (s : State) (g : Nat) (x : List Trig) : (s.setTrigs g x).pending = s.pending := rfl
@[simp] theorem State.setTrigs_tick (s : State) (g : Nat) (x : List Trig) : (s.setTrigs g x).tick = s.tick := rfl
@[simp] theorem State.setTrigs_rt (s : State) (g : Nat) (x : List Trig) : (s.setTrigs g x).rt = s.rt := rfl
@[simp] theorem State.setTrigs_regs (s : State) (g : Nat) (x : List Trig) : (s.setTrigs g x).regs = s.regs := rfl
@[simp] theorem State.setTrigs_mem (s : State) (g : Nat) (x : List Trig) : (s.setTrigs g x).mem = s.mem := rfl
@[simp] theorem State.setTrigs_pmem (s : State) (g : Nat) (x : List Trig) : (s.setTrigs g x).pmem = s.pmem := rfl
@[simp] theorem State.setTrigs_rd (s : State) (g : Nat) (x : List Trig) (b : Nat) : (s.setTrigs g x).rd b = s.rd b := rfl
@[simp] theorem State.trigs_setTrigs (s : State) (g : Nat) (x : List Trig) : (s.setTrigs g x).trigs g = x := lookupD_updateD_self _ _ _ _
theorem State.trigs_setTrigs_ne (s : State) {g j : Nat} (h : j ≠ g) (x : List Trig) : (s.setTrigs g x).trigs j = s.trigs j := lookupD_updateD_ne _ _ h _

/-! ### setCalTile -/

@[simp] theorem State.setCalTile_pending (s : State) (t : Nat) (x : CalTile) : (s.setCalTile t x).pending = s.pending := rfl
@[simp] theorem State.setCalTile_tick (s : State) (t : Nat) (x : CalTile) : (s.setCalTile t x).tick = s.tick := rfl
@[simp] theorem State.setCalTile_rt (s : State) (t : Nat) (x : CalTile) : (s.setCalTile t x).rt = s.rt := rfl
@[simp] theorem State.setCalTile_regs (s : State) (t : Nat) (x : CalTile) : (s.setCalTile t x).regs = s.regs := rfl
@[simp] theorem State.setCalTile_mem (s : State) (t : Nat) (x : CalTile) : (s.setCalTile t x).mem = s.mem := rfl
@[simp] theorem State.setCalTile_pmem (s : State) (t : Nat) (x : CalTile) : (s.setCalTile t x).pmem = s.pmem := rfl
@[simp] theorem State.setCalTile_rd (s : State) (t : Nat) (x : CalTile) (b : Nat) : (s.setCalTile t x).rd b = s.rd b := rfl
@[simp] theorem State.calTile_setCalTile (s : State) (t : Nat) (x : CalTile) : (s.setCalTile t x).calTile t = x := lookupD_updateD_self _ _ _ _
theorem State.calTile_setCalTile_ne (s : State) {t j : Nat} (h : j ≠ t) (x : CalTile) : (s.setCalTile t x).calTile j = s.calTile j := lookupD_updateD_ne _ _ h _

/-! ### setCalPort -/

@[simp] theorem State.setCalPort_pending (s : State) (q : Nat) (x : CalPort) : (s.setCalPort q x).pending = s.pending := rfl
@[simp] theorem State.setCalPort_tick (s : State) (q : Nat) (x : CalPort) : (s.setCalPort q x).tick = s.tick := rfl
@[simp] theorem State.setCalPort_rt (s : State) (q : Nat) (x : CalPort) : (s.setCalPort q x).rt = s.rt := rfl
@[simp] theorem State.setCalPort_regs (s : State) (q : Nat) (x : CalPort) : (s.setCalPort q x).regs = s.regs := rfl
@[simp] theorem State.setCalPort_mem (s : State) (q : Nat) (x : CalPort) : (s.setCalPort q x).mem = s.mem := rfl
@[simp] theorem State.setCalPort_pmem (s : State) (q : Nat) (x : CalPort) : (s.setCalPort q x).pmem = s.pmem := rfl
@[simp] theorem State.setCalPort_rd (s : State) (q : Nat) (x : CalPort) (b : Nat) : (s.setCalPort q x).rd b = s.rd b := rfl
@[simp] theorem State.calPort_setCalPort (s : State) (q : Nat) (x : CalPort) : (s.setCalPort q x).calPort q = x := lookupD_updateD_self _ _ _ _
theorem State.calPort_setCalPort_ne (s : State) {q j : Nat} (h : j ≠ q) (x : CalPort) : (s.setCalPort q x).calPort j = s.calPort j := lookupD_updateD_ne _ _ h _

/-! ### setQueue -/

@[simp] theorem State.setQueue_pending (s : State) (k : Nat) (x : List QItem) : (s.setQueue k x).pending = s.pending := rfl
@[simp] theorem State.setQueue_tick (s : State) (k : Nat) (x : List QItem) : (s.setQueue k x).tick = s.tick := rfl
@[simp] theorem State.setQueue_rt (s : State) (k : Nat) (x : List QItem) : (s.setQueue k x).rt = s.rt := rfl
@[simp] theorem State.setQueue_regs (s : State) (k : Nat) (x : List QItem) : (s.setQueue k x).regs = s.regs := rfl
@[simp] theorem State.setQueue_mem (s : State) (k : Nat) (x : List QItem) : (s.setQueue k x).mem = s.mem := rfl
@[simp] theorem State.setQueue_pmem (s : State) (k : Nat) (x : List QItem) : (s.setQueue k x).pmem = s.pmem := rfl
@[simp] theorem State.setQueue_rd (s : State) (k : Nat) (x : List QItem) (b : Nat) : (s.setQueue k x).rd b = s.rd b := rfl
@[simp] theorem State.queue_setQueue (s : State) (k : Nat) (x : List QItem) : (s.setQueue k x).queue k = x := lookupD_updateD_self _ _ _ _
theorem State.queue_setQueue_ne (s : State) {k j : Nat} (h : j ≠ k) (x : List QItem) : (s.setQueue k x).queue j = s.queue j := lookupD_updateD_ne _ _ h _

end Sys2Proof.Machine
end

