-- ==== Sys2Proof/Laws/Ops.lean ====
section
/-! SUPPORT. The laws of the shared operations over flags, counts, register pairs, group states and register writes. -/
set_option Elab.async false
namespace Sys2Proof.Machine

/-! ### A flag's pulse or fall: only `lines` -/

@[simp] theorem State.sendFlag_pending (s : State) (a b : Nat) (r : Bool) : (s.sendFlag a b r).pending = s.pending := by
  unfold State.sendFlag; split <;> rfl
@[simp] theorem State.sendFlag_tick (s : State) (a b : Nat) (r : Bool) : (s.sendFlag a b r).tick = s.tick := by
  unfold State.sendFlag; split <;> rfl
@[simp] theorem State.sendFlag_rt (s : State) (a b : Nat) (r : Bool) : (s.sendFlag a b r).rt = s.rt := by
  unfold State.sendFlag; split <;> rfl
@[simp] theorem State.sendFlag_free (s : State) (a b : Nat) (r : Bool) : (s.sendFlag a b r).free = s.free := by
  unfold State.sendFlag; split <;> rfl
@[simp] theorem State.sendFlag_regs (s : State) (a b : Nat) (r : Bool) : (s.sendFlag a b r).regs = s.regs := by
  unfold State.sendFlag; split <;> rfl
@[simp] theorem State.sendFlag_cyc (s : State) (a b : Nat) (r : Bool) : (s.sendFlag a b r).cyc = s.cyc := by
  unfold State.sendFlag; split <;> rfl
@[simp] theorem State.sendFlag_fab (s : State) (a b : Nat) (r : Bool) : (s.sendFlag a b r).fab = s.fab := by
  unfold State.sendFlag; split <;> rfl
@[simp] theorem State.sendFlag_queues (s : State) (a b : Nat) (r : Bool) : (s.sendFlag a b r).queues = s.queues := by
  unfold State.sendFlag; split <;> rfl
@[simp] theorem State.sendFlag_lastFrame (s : State) (a b : Nat) (r : Bool) : (s.sendFlag a b r).lastFrame = s.lastFrame := by
  unfold State.sendFlag; split <;> rfl
@[simp] theorem State.sendFlag_fchs (s : State) (a b : Nat) (r : Bool) : (s.sendFlag a b r).fchs = s.fchs := by
  unfold State.sendFlag; split <;> rfl
@[simp] theorem State.sendFlag_calTiles (s : State) (a b : Nat) (r : Bool) : (s.sendFlag a b r).calTiles = s.calTiles := by
  unfold State.sendFlag; split <;> rfl
@[simp] theorem State.sendFlag_calPorts (s : State) (a b : Nat) (r : Bool) : (s.sendFlag a b r).calPorts = s.calPorts := by
  unfold State.sendFlag; split <;> rfl
@[simp] theorem State.sendFlag_fieldTrims (s : State) (a b : Nat) (r : Bool) : (s.sendFlag a b r).fieldTrims = s.fieldTrims := by
  unfold State.sendFlag; split <;> rfl
@[simp] theorem State.sendFlag_dcfs (s : State) (a b : Nat) (r : Bool) : (s.sendFlag a b r).dcfs = s.dcfs := by
  unfold State.sendFlag; split <;> rfl
@[simp] theorem State.sendFlag_streams (s : State) (a b : Nat) (r : Bool) : (s.sendFlag a b r).streams = s.streams := by
  unfold State.sendFlag; split <;> rfl
@[simp] theorem State.sendFlag_evc (s : State) (a b : Nat) (r : Bool) : (s.sendFlag a b r).evc = s.evc := by
  unfold State.sendFlag; split <;> rfl
@[simp] theorem State.sendFlag_pwr (s : State) (a b : Nat) (r : Bool) : (s.sendFlag a b r).pwr = s.pwr := by
  unfold State.sendFlag; split <;> rfl
@[simp] theorem State.sendFlag_log (s : State) (a b : Nat) (r : Bool) : (s.sendFlag a b r).log = s.log := by
  unfold State.sendFlag; split <;> rfl
@[simp] theorem State.sendFlag_logWrapped (s : State) (a b : Nat) (r : Bool) : (s.sendFlag a b r).logWrapped = s.logWrapped := by
  unfold State.sendFlag; split <;> rfl
@[simp] theorem State.sendFlag_clk (s : State) (a b : Nat) (r : Bool) : (s.sendFlag a b r).clk = s.clk := by
  unfold State.sendFlag; split <;> rfl
@[simp] theorem State.sendFlag_mem (s : State) (a b : Nat) (r : Bool) : (s.sendFlag a b r).mem = s.mem := by
  unfold State.sendFlag; split <;> rfl
@[simp] theorem State.sendFlag_mchs (s : State) (a b : Nat) (r : Bool) : (s.sendFlag a b r).mchs = s.mchs := by
  unfold State.sendFlag; split <;> rfl
@[simp] theorem State.sendFlag_mdlls (s : State) (a b : Nat) (r : Bool) : (s.sendFlag a b r).mdlls = s.mdlls := by
  unfold State.sendFlag; split <;> rfl
@[simp] theorem State.sendFlag_nv (s : State) (a b : Nat) (r : Bool) : (s.sendFlag a b r).nv = s.nv := by
  unfold State.sendFlag; split <;> rfl
@[simp] theorem State.sendFlag_flows (s : State) (a b : Nat) (r : Bool) : (s.sendFlag a b r).flows = s.flows := by
  unfold State.sendFlag; split <;> rfl
@[simp] theorem State.sendFlag_dma (s : State) (a b : Nat) (r : Bool) : (s.sendFlag a b r).dma = s.dma := by
  unfold State.sendFlag; split <;> rfl
@[simp] theorem State.sendFlag_cmps (s : State) (a b : Nat) (r : Bool) : (s.sendFlag a b r).cmps = s.cmps := by
  unfold State.sendFlag; split <;> rfl
@[simp] theorem State.sendFlag_cmpTurn (s : State) (a b : Nat) (r : Bool) : (s.sendFlag a b r).cmpTurn = s.cmpTurn := by
  unfold State.sendFlag; split <;> rfl
@[simp] theorem State.sendFlag_blks (s : State) (a b : Nat) (r : Bool) : (s.sendFlag a b r).blks = s.blks := by
  unfold State.sendFlag; split <;> rfl
@[simp] theorem State.sendFlag_pmem (s : State) (a b : Nat) (r : Bool) : (s.sendFlag a b r).pmem = s.pmem := by
  unfold State.sendFlag; split <;> rfl
@[simp] theorem State.sendFlag_closedEnds (s : State) (a b : Nat) (r : Bool) : (s.sendFlag a b r).closedEnds = s.closedEnds := by
  unfold State.sendFlag; split <;> rfl
@[simp] theorem State.sendFlag_stos (s : State) (a b : Nat) (r : Bool) : (s.sendFlag a b r).stos = s.stos := by
  unfold State.sendFlag; split <;> rfl
@[simp] theorem State.sendFlag_tpts (s : State) (a b : Nat) (r : Bool) : (s.sendFlag a b r).tpts = s.tpts := by
  unfold State.sendFlag; split <;> rfl
@[simp] theorem State.sendFlag_trus (s : State) (a b : Nat) (r : Bool) : (s.sendFlag a b r).trus = s.trus := by
  unfold State.sendFlag; split <;> rfl
@[simp] theorem State.sendFlag_trigQ (s : State) (a b : Nat) (r : Bool) : (s.sendFlag a b r).trigQ = s.trigQ := by
  unfold State.sendFlag; split <;> rfl
@[simp] theorem State.sendFlag_chn (s : State) (a b : Nat) (r : Bool) : (s.sendFlag a b r).chn = s.chn := by
  unfold State.sendFlag; split <;> rfl
@[simp] theorem State.sendFlag_decs (s : State) (a b : Nat) (r : Bool) : (s.sendFlag a b r).decs = s.decs := by
  unfold State.sendFlag; split <;> rfl
@[simp] theorem State.sendFlag_rings (s : State) (a b : Nat) (r : Bool) : (s.sendFlag a b r).rings = s.rings := by
  unfold State.sendFlag; split <;> rfl
@[simp] theorem State.sendFlag_wacs (s : State) (a b : Nat) (r : Bool) : (s.sendFlag a b r).wacs = s.wacs := by
  unfold State.sendFlag; split <;> rfl
@[simp] theorem State.sendFlag_pcvs (s : State) (a b : Nat) (r : Bool) : (s.sendFlag a b r).pcvs = s.pcvs := by
  unfold State.sendFlag; split <;> rfl
@[simp] theorem State.sendFlag_cfg (s : State) (a b : Nat) (r : Bool) : (s.sendFlag a b r).cfg = s.cfg := by
  unfold State.sendFlag; split <;> rfl
@[simp] theorem State.sendFlag_hlk (s : State) (a b : Nat) (r : Bool) : (s.sendFlag a b r).hlk = s.hlk := by
  unfold State.sendFlag; split <;> rfl
@[simp] theorem State.sendFlag_mon (s : State) (a b : Nat) (r : Bool) : (s.sendFlag a b r).mon = s.mon := by
  unfold State.sendFlag; split <;> rfl
@[simp] theorem State.sendFlag_boot (s : State) (a b : Nat) (r : Bool) : (s.sendFlag a b r).boot = s.boot := by
  unfold State.sendFlag; split <;> rfl
@[simp] theorem State.sendFlag_tap (s : State) (a b : Nat) (r : Bool) : (s.sendFlag a b r).tap = s.tap := by
  unfold State.sendFlag; split <;> rfl
@[simp] theorem State.sendFlag_memOut (s : State) (a b : Nat) (r : Bool) : (s.sendFlag a b r).memOut = s.memOut := by
  unfold State.sendFlag; split <;> rfl

@[simp] theorem State.sendFlag_rd (s : State) (a b : Nat) (r : Bool) (c : Nat) : (s.sendFlag a b r).rd c = s.rd c := by
  simp [State.rd]

/-- A flag with a source sends one pulse to the event controller. -/
theorem State.sendFlag_lines (s : State) (a b src : Nat) (r : Bool) (h : flagSource a b = some src) :
    (s.sendFlag a b r).lines = s.lines ++ [⟨src, r⟩] := by
  simp [State.sendFlag, h, State.sendLine]

/-! ### Setting a flag -/

@[simp] theorem State.setFlag_pending (s : State) (a : Nat) (f : Fld) : (s.setFlag a f).pending = s.pending := by
  simp [State.setFlag]
@[simp] theorem State.setFlag_tick (s : State) (a : Nat) (f : Fld) : (s.setFlag a f).tick = s.tick := by
  simp [State.setFlag]
@[simp] theorem State.setFlag_rt (s : State) (a : Nat) (f : Fld) : (s.setFlag a f).rt = s.rt := by
  simp [State.setFlag]
@[simp] theorem State.setFlag_free (s : State) (a : Nat) (f : Fld) : (s.setFlag a f).free = s.free := by
  simp [State.setFlag]
@[simp] theorem State.setFlag_fab (s : State) (a : Nat) (f : Fld) : (s.setFlag a f).fab = s.fab := by
  simp [State.setFlag]
@[simp] theorem State.setFlag_queues (s : State) (a : Nat) (f : Fld) : (s.setFlag a f).queues = s.queues := by
  simp [State.setFlag]
@[simp] theorem State.setFlag_lastFrame (s : State) (a : Nat) (f : Fld) : (s.setFlag a f).lastFrame = s.lastFrame := by
  simp [State.setFlag]
@[simp] theorem State.setFlag_fchs (s : State) (a : Nat) (f : Fld) : (s.setFlag a f).fchs = s.fchs := by
  simp [State.setFlag]
@[simp] theorem State.setFlag_calTiles (s : State) (a : Nat) (f : Fld) : (s.setFlag a f).calTiles = s.calTiles := by
  simp [State.setFlag]
@[simp] theorem State.setFlag_calPorts (s : State) (a : Nat) (f : Fld) : (s.setFlag a f).calPorts = s.calPorts := by
  simp [State.setFlag]
@[simp] theorem State.setFlag_fieldTrims (s : State) (a : Nat) (f : Fld) : (s.setFlag a f).fieldTrims = s.fieldTrims := by
  simp [State.setFlag]
@[simp] theorem State.setFlag_dcfs (s : State) (a : Nat) (f : Fld) : (s.setFlag a f).dcfs = s.dcfs := by
  simp [State.setFlag]
@[simp] theorem State.setFlag_streams (s : State) (a : Nat) (f : Fld) : (s.setFlag a f).streams = s.streams := by
  simp [State.setFlag]
@[simp] theorem State.setFlag_evc (s : State) (a : Nat) (f : Fld) : (s.setFlag a f).evc = s.evc := by
  simp [State.setFlag]
@[simp] theorem State.setFlag_pwr (s : State) (a : Nat) (f : Fld) : (s.setFlag a f).pwr = s.pwr := by
  simp [State.setFlag]
@[simp] theorem State.setFlag_log (s : State) (a : Nat) (f : Fld) : (s.setFlag a f).log = s.log := by
  simp [State.setFlag]
@[simp] theorem State.setFlag_logWrapped (s : State) (a : Nat) (f : Fld) : (s.setFlag a f).logWrapped = s.logWrapped := by
  simp [State.setFlag]
@[simp] theorem State.setFlag_clk (s : State) (a : Nat) (f : Fld) : (s.setFlag a f).clk = s.clk := by
  simp [State.setFlag]
@[simp] theorem State.setFlag_mem (s : State) (a : Nat) (f : Fld) : (s.setFlag a f).mem = s.mem := by
  simp [State.setFlag]
@[simp] theorem State.setFlag_mchs (s : State) (a : Nat) (f : Fld) : (s.setFlag a f).mchs = s.mchs := by
  simp [State.setFlag]
@[simp] theorem State.setFlag_mdlls (s : State) (a : Nat) (f : Fld) : (s.setFlag a f).mdlls = s.mdlls := by
  simp [State.setFlag]
@[simp] theorem State.setFlag_nv (s : State) (a : Nat) (f : Fld) : (s.setFlag a f).nv = s.nv := by
  simp [State.setFlag]
@[simp] theorem State.setFlag_flows (s : State) (a : Nat) (f : Fld) : (s.setFlag a f).flows = s.flows := by
  simp [State.setFlag]
@[simp] theorem State.setFlag_dma (s : State) (a : Nat) (f : Fld) : (s.setFlag a f).dma = s.dma := by
  simp [State.setFlag]
@[simp] theorem State.setFlag_cmps (s : State) (a : Nat) (f : Fld) : (s.setFlag a f).cmps = s.cmps := by
  simp [State.setFlag]
@[simp] theorem State.setFlag_cmpTurn (s : State) (a : Nat) (f : Fld) : (s.setFlag a f).cmpTurn = s.cmpTurn := by
  simp [State.setFlag]
@[simp] theorem State.setFlag_blks (s : State) (a : Nat) (f : Fld) : (s.setFlag a f).blks = s.blks := by
  simp [State.setFlag]
@[simp] theorem State.setFlag_pmem (s : State) (a : Nat) (f : Fld) : (s.setFlag a f).pmem = s.pmem := by
  simp [State.setFlag]
@[simp] theorem State.setFlag_closedEnds (s : State) (a : Nat) (f : Fld) : (s.setFlag a f).closedEnds = s.closedEnds := by
  simp [State.setFlag]
@[simp] theorem State.setFlag_stos (s : State) (a : Nat) (f : Fld) : (s.setFlag a f).stos = s.stos := by
  simp [State.setFlag]
@[simp] theorem State.setFlag_tpts (s : State) (a : Nat) (f : Fld) : (s.setFlag a f).tpts = s.tpts := by
  simp [State.setFlag]
@[simp] theorem State.setFlag_trus (s : State) (a : Nat) (f : Fld) : (s.setFlag a f).trus = s.trus := by
  simp [State.setFlag]
@[simp] theorem State.setFlag_trigQ (s : State) (a : Nat) (f : Fld) : (s.setFlag a f).trigQ = s.trigQ := by
  simp [State.setFlag]
@[simp] theorem State.setFlag_chn (s : State) (a : Nat) (f : Fld) : (s.setFlag a f).chn = s.chn := by
  simp [State.setFlag]
@[simp] theorem State.setFlag_decs (s : State) (a : Nat) (f : Fld) : (s.setFlag a f).decs = s.decs := by
  simp [State.setFlag]
@[simp] theorem State.setFlag_rings (s : State) (a : Nat) (f : Fld) : (s.setFlag a f).rings = s.rings := by
  simp [State.setFlag]
@[simp] theorem State.setFlag_wacs (s : State) (a : Nat) (f : Fld) : (s.setFlag a f).wacs = s.wacs := by
  simp [State.setFlag]
@[simp] theorem State.setFlag_pcvs (s : State) (a : Nat) (f : Fld) : (s.setFlag a f).pcvs = s.pcvs := by
  simp [State.setFlag]
@[simp] theorem State.setFlag_cfg (s : State) (a : Nat) (f : Fld) : (s.setFlag a f).cfg = s.cfg := by
  simp [State.setFlag]
@[simp] theorem State.setFlag_hlk (s : State) (a : Nat) (f : Fld) : (s.setFlag a f).hlk = s.hlk := by
  simp [State.setFlag]
@[simp] theorem State.setFlag_mon (s : State) (a : Nat) (f : Fld) : (s.setFlag a f).mon = s.mon := by
  simp [State.setFlag]
@[simp] theorem State.setFlag_boot (s : State) (a : Nat) (f : Fld) : (s.setFlag a f).boot = s.boot := by
  simp [State.setFlag]
@[simp] theorem State.setFlag_tap (s : State) (a : Nat) (f : Fld) : (s.setFlag a f).tap = s.tap := by
  simp [State.setFlag]
@[simp] theorem State.setFlag_memOut (s : State) (a : Nat) (f : Fld) : (s.setFlag a f).memOut = s.memOut := by
  simp [State.setFlag]

@[simp] theorem State.rd_setFlag_self (s : State) (a : Nat) (f : Fld) : (s.setFlag a f).rd a = fldSet f (s.rd a) 1 := by
  simp [State.setFlag]

theorem State.rd_setFlag_ne (s : State) {a b : Nat} (h : b ≠ a) (f : Fld) : (s.setFlag a f).rd b = s.rd b := by
  simp [State.setFlag, State.rd_put_ne s h]

/-- A flag that hardware sets reads 1. -/
theorem State.on_setFlag (s : State) (a : Nat) (f : Fld) (h : f.lo + 1 ≤ 32) (hw : f.w = 1) : (s.setFlag a f).on a f = true := by
  simp [State.on, State.get, fldGet_fldSet f (s.rd a) 1 (by omega), hw]

/-- A disjoint flag of the same register is left alone. -/
theorem State.get_setFlag_fld (s : State) (a : Nat) (f g : Fld) (h : g.lo + g.w ≤ f.lo ∨ f.lo + f.w ≤ g.lo) :
    (s.setFlag a f).get a g = s.get a g := by
  simp [State.get, fldGet_fldSet_ne f g _ 1 h]

/-- A flag that hardware sets sends its pulse also when it read 1 before. -/
theorem State.setFlag_lines (s : State) (a : Nat) (f : Fld) (src : Nat) (h : flagSource a f.lo = some src) :
    (s.setFlag a f).lines = s.lines ++ [⟨src, true⟩] := by
  simp [State.setFlag, State.sendFlag_lines _ a f.lo src true h]

/-! ### Zeroing a list of registers -/

@[simp] theorem State.zero_pending (s : State) (l : List Nat) : (s.zero l).pending = s.pending := by
  induction l generalizing s with
  | nil => rfl
  | cons a t ih => simp [State.zero, ih]
@[simp] theorem State.zero_tick (s : State) (l : List Nat) : (s.zero l).tick = s.tick := by
  induction l generalizing s with
  | nil => rfl
  | cons a t ih => simp [State.zero, ih]
@[simp] theorem State.zero_rt (s : State) (l : List Nat) : (s.zero l).rt = s.rt := by
  induction l generalizing s with
  | nil => rfl
  | cons a t ih => simp [State.zero, ih]
@[simp] theorem State.zero_free (s : State) (l : List Nat) : (s.zero l).free = s.free := by
  induction l generalizing s with
  | nil => rfl
  | cons a t ih => simp [State.zero, ih]
@[simp] theorem State.zero_cyc (s : State) (l : List Nat) : (s.zero l).cyc = s.cyc := by
  induction l generalizing s with
  | nil => rfl
  | cons a t ih => simp [State.zero, ih]
@[simp] theorem State.zero_lines (s : State) (l : List Nat) : (s.zero l).lines = s.lines := by
  induction l generalizing s with
  | nil => rfl
  | cons a t ih => simp [State.zero, ih]
@[simp] theorem State.zero_fab (s : State) (l : List Nat) : (s.zero l).fab = s.fab := by
  induction l generalizing s with
  | nil => rfl
  | cons a t ih => simp [State.zero, ih]
@[simp] theorem State.zero_queues (s : State) (l : List Nat) : (s.zero l).queues = s.queues := by
  induction l generalizing s with
  | nil => rfl
  | cons a t ih => simp [State.zero, ih]
@[simp] theorem State.zero_lastFrame (s : State) (l : List Nat) : (s.zero l).lastFrame = s.lastFrame := by
  induction l generalizing s with
  | nil => rfl
  | cons a t ih => simp [State.zero, ih]
@[simp] theorem State.zero_fchs (s : State) (l : List Nat) : (s.zero l).fchs = s.fchs := by
  induction l generalizing s with
  | nil => rfl
  | cons a t ih => simp [State.zero, ih]
@[simp] theorem State.zero_calTiles (s : State) (l : List Nat) : (s.zero l).calTiles = s.calTiles := by
  induction l generalizing s with
  | nil => rfl
  | cons a t ih => simp [State.zero, ih]
@[simp] theorem State.zero_calPorts (s : State) (l : List Nat) : (s.zero l).calPorts = s.calPorts := by
  induction l generalizing s with
  | nil => rfl
  | cons a t ih => simp [State.zero, ih]
@[simp] theorem State.zero_fieldTrims (s : State) (l : List Nat) : (s.zero l).fieldTrims = s.fieldTrims := by
  induction l generalizing s with
  | nil => rfl
  | cons a t ih => simp [State.zero, ih]
@[simp] theorem State.zero_dcfs (s : State) (l : List Nat) : (s.zero l).dcfs = s.dcfs := by
  induction l generalizing s with
  | nil => rfl
  | cons a t ih => simp [State.zero, ih]
@[simp] theorem State.zero_streams (s : State) (l : List Nat) : (s.zero l).streams = s.streams := by
  induction l generalizing s with
  | nil => rfl
  | cons a t ih => simp [State.zero, ih]
@[simp] theorem State.zero_evc (s : State) (l : List Nat) : (s.zero l).evc = s.evc := by
  induction l generalizing s with
  | nil => rfl
  | cons a t ih => simp [State.zero, ih]
@[simp] theorem State.zero_pwr (s : State) (l : List Nat) : (s.zero l).pwr = s.pwr := by
  induction l generalizing s with
  | nil => rfl
  | cons a t ih => simp [State.zero, ih]
@[simp] theorem State.zero_log (s : State) (l : List Nat) : (s.zero l).log = s.log := by
  induction l generalizing s with
  | nil => rfl
  | cons a t ih => simp [State.zero, ih]
@[simp] theorem State.zero_logWrapped (s : State) (l : List Nat) : (s.zero l).logWrapped = s.logWrapped := by
  induction l generalizing s with
  | nil => rfl
  | cons a t ih => simp [State.zero, ih]
@[simp] theorem State.zero_clk (s : State) (l : List Nat) : (s.zero l).clk = s.clk := by
  induction l generalizing s with
  | nil => rfl
  | cons a t ih => simp [State.zero, ih]
@[simp] theorem State.zero_mem (s : State) (l : List Nat) : (s.zero l).mem = s.mem := by
  induction l generalizing s with
  | nil => rfl
  | cons a t ih => simp [State.zero, ih]
@[simp] theorem State.zero_mchs (s : State) (l : List Nat) : (s.zero l).mchs = s.mchs := by
  induction l generalizing s with
  | nil => rfl
  | cons a t ih => simp [State.zero, ih]
@[simp] theorem State.zero_mdlls (s : State) (l : List Nat) : (s.zero l).mdlls = s.mdlls := by
  induction l generalizing s with
  | nil => rfl
  | cons a t ih => simp [State.zero, ih]
@[simp] theorem State.zero_nv (s : State) (l : List Nat) : (s.zero l).nv = s.nv := by
  induction l generalizing s with
  | nil => rfl
  | cons a t ih => simp [State.zero, ih]
@[simp] theorem State.zero_flows (s : State) (l : List Nat) : (s.zero l).flows = s.flows := by
  induction l generalizing s with
  | nil => rfl
  | cons a t ih => simp [State.zero, ih]
@[simp] theorem State.zero_dma (s : State) (l : List Nat) : (s.zero l).dma = s.dma := by
  induction l generalizing s with
  | nil => rfl
  | cons a t ih => simp [State.zero, ih]
@[simp] theorem State.zero_cmps (s : State) (l : List Nat) : (s.zero l).cmps = s.cmps := by
  induction l generalizing s with
  | nil => rfl
  | cons a t ih => simp [State.zero, ih]
@[simp] theorem State.zero_cmpTurn (s : State) (l : List Nat) : (s.zero l).cmpTurn = s.cmpTurn := by
  induction l generalizing s with
  | nil => rfl
  | cons a t ih => simp [State.zero, ih]
@[simp] theorem State.zero_blks (s : State) (l : List Nat) : (s.zero l).blks = s.blks := by
  induction l generalizing s with
  | nil => rfl
  | cons a t ih => simp [State.zero, ih]
@[simp] theorem State.zero_pmem (s : State) (l : List Nat) : (s.zero l).pmem = s.pmem := by
  induction l generalizing s with
  | nil => rfl
  | cons a t ih => simp [State.zero, ih]
@[simp] theorem State.zero_closedEnds (s : State) (l : List Nat) : (s.zero l).closedEnds = s.closedEnds := by
  induction l generalizing s with
  | nil => rfl
  | cons a t ih => simp [State.zero, ih]
@[simp] theorem State.zero_stos (s : State) (l : List Nat) : (s.zero l).stos = s.stos := by
  induction l generalizing s with
  | nil => rfl
  | cons a t ih => simp [State.zero, ih]
@[simp] theorem State.zero_tpts (s : State) (l : List Nat) : (s.zero l).tpts = s.tpts := by
  induction l generalizing s with
  | nil => rfl
  | cons a t ih => simp [State.zero, ih]
@[simp] theorem State.zero_trus (s : State) (l : List Nat) : (s.zero l).trus = s.trus := by
  induction l generalizing s with
  | nil => rfl
  | cons a t ih => simp [State.zero, ih]
@[simp] theorem State.zero_trigQ (s : State) (l : List Nat) : (s.zero l).trigQ = s.trigQ := by
  induction l generalizing s with
  | nil => rfl
  | cons a t ih => simp [State.zero, ih]
@[simp] theorem State.zero_chn (s : State) (l : List Nat) : (s.zero l).chn = s.chn := by
  induction l generalizing s with
  | nil => rfl
  | cons a t ih => simp [State.zero, ih]
@[simp] theorem State.zero_decs (s : State) (l : List Nat) : (s.zero l).decs = s.decs := by
  induction l generalizing s with
  | nil => rfl
  | cons a t ih => simp [State.zero, ih]
@[simp] theorem State.zero_rings (s : State) (l : List Nat) : (s.zero l).rings = s.rings := by
  induction l generalizing s with
  | nil => rfl
  | cons a t ih => simp [State.zero, ih]
@[simp] theorem State.zero_wacs (s : State) (l : List Nat) : (s.zero l).wacs = s.wacs := by
  induction l generalizing s with
  | nil => rfl
  | cons a t ih => simp [State.zero, ih]
@[simp] theorem State.zero_pcvs (s : State) (l : List Nat) : (s.zero l).pcvs = s.pcvs := by
  induction l generalizing s with
  | nil => rfl
  | cons a t ih => simp [State.zero, ih]
@[simp] theorem State.zero_cfg (s : State) (l : List Nat) : (s.zero l).cfg = s.cfg := by
  induction l generalizing s with
  | nil => rfl
  | cons a t ih => simp [State.zero, ih]
@[simp] theorem State.zero_hlk (s : State) (l : List Nat) : (s.zero l).hlk = s.hlk := by
  induction l generalizing s with
  | nil => rfl
  | cons a t ih => simp [State.zero, ih]
@[simp] theorem State.zero_mon (s : State) (l : List Nat) : (s.zero l).mon = s.mon := by
  induction l generalizing s with
  | nil => rfl
  | cons a t ih => simp [State.zero, ih]
@[simp] theorem State.zero_boot (s : State) (l : List Nat) : (s.zero l).boot = s.boot := by
  induction l generalizing s with
  | nil => rfl
  | cons a t ih => simp [State.zero, ih]
@[simp] theorem State.zero_tap (s : State) (l : List Nat) : (s.zero l).tap = s.tap := by
  induction l generalizing s with
  | nil => rfl
  | cons a t ih => simp [State.zero, ih]
@[simp] theorem State.zero_memOut (s : State) (l : List Nat) : (s.zero l).memOut = s.memOut := by
  induction l generalizing s with
  | nil => rfl
  | cons a t ih => simp [State.zero, ih]

/-- What a register reads as after a list is zeroed. -/
theorem State.rd_zero (s : State) (l : List Nat) (b : Nat) : (s.zero l).rd b = if b ∈ l then 0#32 else s.rd b := by
  induction l generalizing s with
  | nil => rfl
  | cons a t ih =>
    rw [State.zero, ih]
    by_cases h : b ∈ t
    · simp [h]
    · by_cases ha : b = a
      · subst ha; simp [h]
      · simp [h, ha, State.rd_wr_ne s ha]

/-! ### Register pairs -/

theorem State.rd64_wr64 (s : State) (a x : Nat) (h : x < 2 ^ 64) : (s.wr64 a x).rd64 a = x := by
  have h4 : a ≠ a + 4 := by omega
  simp only [State.rd64, State.wr64, State.rn, State.rd_wn_self, State.rd_wn_ne _ h4, BitVec.toNat_ofNat]
  omega

theorem State.rd_wr64_ne (s : State) {a b : Nat} (h : b ≠ a) (h4 : b ≠ a + 4) (x : Nat) : (s.wr64 a x).rd b = s.rd b := by
  simp [State.wr64, State.rd_wn_ne _ h, State.rd_wn_ne _ h4]

@[simp] theorem State.wr64_pending (s : State) (a x : Nat) : (s.wr64 a x).pending = s.pending := rfl
@[simp] theorem State.wr64_tick (s : State) (a x : Nat) : (s.wr64 a x).tick = s.tick := rfl
@[simp] theorem State.wr64_rt (s : State) (a x : Nat) : (s.wr64 a x).rt = s.rt := rfl
@[simp] theorem State.wr64_free (s : State) (a x : Nat) : (s.wr64 a x).free = s.free := rfl
@[simp] theorem State.wr64_cyc (s : State) (a x : Nat) : (s.wr64 a x).cyc = s.cyc := rfl
@[simp] theorem State.wr64_lines (s : State) (a x : Nat) : (s.wr64 a x).lines = s.lines := rfl
@[simp] theorem State.wr64_fab (s : State) (a x : Nat) : (s.wr64 a x).fab = s.fab := rfl
@[simp] theorem State.wr64_queues (s : State) (a x : Nat) : (s.wr64 a x).queues = s.queues := rfl
@[simp] theorem State.wr64_lastFrame (s : State) (a x : Nat) : (s.wr64 a x).lastFrame = s.lastFrame := rfl
@[simp] theorem State.wr64_fchs (s : State) (a x : Nat) : (s.wr64 a x).fchs = s.fchs := rfl
@[simp] theorem State.wr64_calTiles (s : State) (a x : Nat) : (s.wr64 a x).calTiles = s.calTiles := rfl
@[simp] theorem State.wr64_calPorts (s : State) (a x : Nat) : (s.wr64 a x).calPorts = s.calPorts := rfl
@[simp] theorem State.wr64_fieldTrims (s : State) (a x : Nat) : (s.wr64 a x).fieldTrims = s.fieldTrims := rfl
@[simp] theorem State.wr64_dcfs (s : State) (a x : Nat) : (s.wr64 a x).dcfs = s.dcfs := rfl
@[simp] theorem State.wr64_streams (s : State) (a x : Nat) : (s.wr64 a x).streams = s.streams := rfl
@[simp] theorem State.wr64_evc (s : State) (a x : Nat) : (s.wr64 a x).evc = s.evc := rfl
@[simp] theorem State.wr64_pwr (s : State) (a x : Nat) : (s.wr64 a x).pwr = s.pwr := rfl
@[simp] theorem State.wr64_log (s : State) (a x : Nat) : (s.wr64 a x).log = s.log := rfl
@[simp] theorem State.wr64_logWrapped (s : State) (a x : Nat) : (s.wr64 a x).logWrapped = s.logWrapped := rfl
@[simp] theorem State.wr64_clk (s : State) (a x : Nat) : (s.wr64 a x).clk = s.clk := rfl
@[simp] theorem State.wr64_mem (s : State) (a x : Nat) : (s.wr64 a x).mem = s.mem := rfl
@[simp] theorem State.wr64_mchs (s : State) (a x : Nat) : (s.wr64 a x).mchs = s.mchs := rfl
@[simp] theorem State.wr64_mdlls (s : State) (a x : Nat) : (s.wr64 a x).mdlls = s.mdlls := rfl
@[simp] theorem State.wr64_nv (s : State) (a x : Nat) : (s.wr64 a x).nv = s.nv := rfl
@[simp] theorem State.wr64_flows (s : State) (a x : Nat) : (s.wr64 a x).flows = s.flows := rfl
@[simp] theorem State.wr64_dma (s : State) (a x : Nat) : (s.wr64 a x).dma = s.dma := rfl
@[simp] theorem State.wr64_cmps (s : State) (a x : Nat) : (s.wr64 a x).cmps = s.cmps := rfl
@[simp] theorem State.wr64_cmpTurn (s : State) (a x : Nat) : (s.wr64 a x).cmpTurn = s.cmpTurn := rfl
@[simp] theorem State.wr64_blks (s : State) (a x : Nat) : (s.wr64 a x).blks = s.blks := rfl
@[simp] theorem State.wr64_pmem (s : State) (a x : Nat) : (s.wr64 a x).pmem = s.pmem := rfl
@[simp] theorem State.wr64_closedEnds (s : State) (a x : Nat) : (s.wr64 a x).closedEnds = s.closedEnds := rfl
@[simp] theorem State.wr64_stos (s : State) (a x : Nat) : (s.wr64 a x).stos = s.stos := rfl
@[simp] theorem State.wr64_tpts (s : State) (a x : Nat) : (s.wr64 a x).tpts = s.tpts := rfl
@[simp] theorem State.wr64_trus (s : State) (a x : Nat) : (s.wr64 a x).trus = s.trus := rfl
@[simp] theorem State.wr64_trigQ (s : State) (a x : Nat) : (s.wr64 a x).trigQ = s.trigQ := rfl
@[simp] theorem State.wr64_chn (s : State) (a x : Nat) : (s.wr64 a x).chn = s.chn := rfl
@[simp] theorem State.wr64_decs (s : State) (a x : Nat) : (s.wr64 a x).decs = s.decs := rfl
@[simp] theorem State.wr64_rings (s : State) (a x : Nat) : (s.wr64 a x).rings = s.rings := rfl
@[simp] theorem State.wr64_wacs (s : State) (a x : Nat) : (s.wr64 a x).wacs = s.wacs := rfl
@[simp] theorem State.wr64_pcvs (s : State) (a x : Nat) : (s.wr64 a x).pcvs = s.pcvs := rfl
@[simp] theorem State.wr64_cfg (s : State) (a x : Nat) : (s.wr64 a x).cfg = s.cfg := rfl
@[simp] theorem State.wr64_hlk (s : State) (a x : Nat) : (s.wr64 a x).hlk = s.hlk := rfl
@[simp] theorem State.wr64_mon (s : State) (a x : Nat) : (s.wr64 a x).mon = s.mon := rfl
@[simp] theorem State.wr64_boot (s : State) (a x : Nat) : (s.wr64 a x).boot = s.boot := rfl
@[simp] theorem State.wr64_tap (s : State) (a x : Nat) : (s.wr64 a x).tap = s.tap := rfl
@[simp] theorem State.wr64_memOut (s : State) (a x : Nat) : (s.wr64 a x).memOut = s.memOut := rfl

/-! ### Clearing flags -/

@[simp] theorem sendFalls_pending (s : State) (a : Nat) (old new : Word) (b : Nat) : (sendFalls s a old new b).pending = s.pending := by
  induction b with
  | zero => rfl
  | succ n ih => unfold sendFalls; dsimp only; split <;> simp [ih]
@[simp] theorem sendFalls_tick (s : State) (a : Nat) (old new : Word) (b : Nat) : (sendFalls s a old new b).tick = s.tick := by
  induction b with
  | zero => rfl
  | succ n ih => unfold sendFalls; dsimp only; split <;> simp [ih]
@[simp] theorem sendFalls_rt (s : State) (a : Nat) (old new : Word) (b : Nat) : (sendFalls s a old new b).rt = s.rt := by
  induction b with
  | zero => rfl
  | succ n ih => unfold sendFalls; dsimp only; split <;> simp [ih]
@[simp] theorem sendFalls_free (s : State) (a : Nat) (old new : Word) (b : Nat) : (sendFalls s a old new b).free = s.free := by
  induction b with
  | zero => rfl
  | succ n ih => unfold sendFalls; dsimp only; split <;> simp [ih]
@[simp] theorem sendFalls_regs (s : State) (a : Nat) (old new : Word) (b : Nat) : (sendFalls s a old new b).regs = s.regs := by
  induction b with
  | zero => rfl
  | succ n ih => unfold sendFalls; dsimp only; split <;> simp [ih]
@[simp] theorem sendFalls_cyc (s : State) (a : Nat) (old new : Word) (b : Nat) : (sendFalls s a old new b).cyc = s.cyc := by
  induction b with
  | zero => rfl
  | succ n ih => unfold sendFalls; dsimp only; split <;> simp [ih]
@[simp] theorem sendFalls_fab (s : State) (a : Nat) (old new : Word) (b : Nat) : (sendFalls s a old new b).fab = s.fab := by
  induction b with
  | zero => rfl
  | succ n ih => unfold sendFalls; dsimp only; split <;> simp [ih]
@[simp] theorem sendFalls_queues (s : State) (a : Nat) (old new : Word) (b : Nat) : (sendFalls s a old new b).queues = s.queues := by
  induction b with
  | zero => rfl
  | succ n ih => unfold sendFalls; dsimp only; split <;> simp [ih]
@[simp] theorem sendFalls_lastFrame (s : State) (a : Nat) (old new : Word) (b : Nat) : (sendFalls s a old new b).lastFrame = s.lastFrame := by
  induction b with
  | zero => rfl
  | succ n ih => unfold sendFalls; dsimp only; split <;> simp [ih]
@[simp] theorem sendFalls_fchs (s : State) (a : Nat) (old new : Word) (b : Nat) : (sendFalls s a old new b).fchs = s.fchs := by
  induction b with
  | zero => rfl
  | succ n ih => unfold sendFalls; dsimp only; split <;> simp [ih]
@[simp] theorem sendFalls_calTiles (s : State) (a : Nat) (old new : Word) (b : Nat) : (sendFalls s a old new b).calTiles = s.calTiles := by
  induction b with
  | zero => rfl
  | succ n ih => unfold sendFalls; dsimp only; split <;> simp [ih]
@[simp] theorem sendFalls_calPorts (s : State) (a : Nat) (old new : Word) (b : Nat) : (sendFalls s a old new b).calPorts = s.calPorts := by
  induction b with
  | zero => rfl
  | succ n ih => unfold sendFalls; dsimp only; split <;> simp [ih]
@[simp] theorem sendFalls_fieldTrims (s : State) (a : Nat) (old new : Word) (b : Nat) : (sendFalls s a old new b).fieldTrims = s.fieldTrims := by
  induction b with
  | zero => rfl
  | succ n ih => unfold sendFalls; dsimp only; split <;> simp [ih]
@[simp] theorem sendFalls_dcfs (s : State) (a : Nat) (old new : Word) (b : Nat) : (sendFalls s a old new b).dcfs = s.dcfs := by
  induction b with
  | zero => rfl
  | succ n ih => unfold sendFalls; dsimp only; split <;> simp [ih]
@[simp] theorem sendFalls_streams (s : State) (a : Nat) (old new : Word) (b : Nat) : (sendFalls s a old new b).streams = s.streams := by
  induction b with
  | zero => rfl
  | succ n ih => unfold sendFalls; dsimp only; split <;> simp [ih]
@[simp] theorem sendFalls_evc (s : State) (a : Nat) (old new : Word) (b : Nat) : (sendFalls s a old new b).evc = s.evc := by
  induction b with
  | zero => rfl
  | succ n ih => unfold sendFalls; dsimp only; split <;> simp [ih]
@[simp] theorem sendFalls_pwr (s : State) (a : Nat) (old new : Word) (b : Nat) : (sendFalls s a old new b).pwr = s.pwr := by
  induction b with
  | zero => rfl
  | succ n ih => unfold sendFalls; dsimp only; split <;> simp [ih]
@[simp] theorem sendFalls_log (s : State) (a : Nat) (old new : Word) (b : Nat) : (sendFalls s a old new b).log = s.log := by
  induction b with
  | zero => rfl
  | succ n ih => unfold sendFalls; dsimp only; split <;> simp [ih]
@[simp] theorem sendFalls_logWrapped (s : State) (a : Nat) (old new : Word) (b : Nat) : (sendFalls s a old new b).logWrapped = s.logWrapped := by
  induction b with
  | zero => rfl
  | succ n ih => unfold sendFalls; dsimp only; split <;> simp [ih]
@[simp] theorem sendFalls_clk (s : State) (a : Nat) (old new : Word) (b : Nat) : (sendFalls s a old new b).clk = s.clk := by
  induction b with
  | zero => rfl
  | succ n ih => unfold sendFalls; dsimp only; split <;> simp [ih]
@[simp] theorem sendFalls_mem (s : State) (a : Nat) (old new : Word) (b : Nat) : (sendFalls s a old new b).mem = s.mem := by
  induction b with
  | zero => rfl
  | succ n ih => unfold sendFalls; dsimp only; split <;> simp [ih]
@[simp] theorem sendFalls_mchs (s : State) (a : Nat) (old new : Word) (b : Nat) : (sendFalls s a old new b).mchs = s.mchs := by
  induction b with
  | zero => rfl
  | succ n ih => unfold sendFalls; dsimp only; split <;> simp [ih]
@[simp] theorem sendFalls_mdlls (s : State) (a : Nat) (old new : Word) (b : Nat) : (sendFalls s a old new b).mdlls = s.mdlls := by
  induction b with
  | zero => rfl
  | succ n ih => unfold sendFalls; dsimp only; split <;> simp [ih]
@[simp] theorem sendFalls_nv (s : State) (a : Nat) (old new : Word) (b : Nat) : (sendFalls s a old new b).nv = s.nv := by
  induction b with
  | zero => rfl
  | succ n ih => unfold sendFalls; dsimp only; split <;> simp [ih]
@[simp] theorem sendFalls_flows (s : State) (a : Nat) (old new : Word) (b : Nat) : (sendFalls s a old new b).flows = s.flows := by
  induction b with
  | zero => rfl
  | succ n ih => unfold sendFalls; dsimp only; split <;> simp [ih]
@[simp] theorem sendFalls_dma (s : State) (a : Nat) (old new : Word) (b : Nat) : (sendFalls s a old new b).dma = s.dma := by
  induction b with
  | zero => rfl
  | succ n ih => unfold sendFalls; dsimp only; split <;> simp [ih]
@[simp] theorem sendFalls_cmps (s : State) (a : Nat) (old new : Word) (b : Nat) : (sendFalls s a old new b).cmps = s.cmps := by
  induction b with
  | zero => rfl
  | succ n ih => unfold sendFalls; dsimp only; split <;> simp [ih]
@[simp] theorem sendFalls_cmpTurn (s : State) (a : Nat) (old new : Word) (b : Nat) : (sendFalls s a old new b).cmpTurn = s.cmpTurn := by
  induction b with
  | zero => rfl
  | succ n ih => unfold sendFalls; dsimp only; split <;> simp [ih]
@[simp] theorem sendFalls_blks (s : State) (a : Nat) (old new : Word) (b : Nat) : (sendFalls s a old new b).blks = s.blks := by
  induction b with
  | zero => rfl
  | succ n ih => unfold sendFalls; dsimp only; split <;> simp [ih]
@[simp] theorem sendFalls_pmem (s : State) (a : Nat) (old new : Word) (b : Nat) : (sendFalls s a old new b).pmem = s.pmem := by
  induction b with
  | zero => rfl
  | succ n ih => unfold sendFalls; dsimp only; split <;> simp [ih]
@[simp] theorem sendFalls_closedEnds (s : State) (a : Nat) (old new : Word) (b : Nat) : (sendFalls s a old new b).closedEnds = s.closedEnds := by
  induction b with
  | zero => rfl
  | succ n ih => unfold sendFalls; dsimp only; split <;> simp [ih]
@[simp] theorem sendFalls_stos (s : State) (a : Nat) (old new : Word) (b : Nat) : (sendFalls s a old new b).stos = s.stos := by
  induction b with
  | zero => rfl
  | succ n ih => unfold sendFalls; dsimp only; split <;> simp [ih]
@[simp] theorem sendFalls_tpts (s : State) (a : Nat) (old new : Word) (b : Nat) : (sendFalls s a old new b).tpts = s.tpts := by
  induction b with
  | zero => rfl
  | succ n ih => unfold sendFalls; dsimp only; split <;> simp [ih]
@[simp] theorem sendFalls_trus (s : State) (a : Nat) (old new : Word) (b : Nat) : (sendFalls s a old new b).trus = s.trus := by
  induction b with
  | zero => rfl
  | succ n ih => unfold sendFalls; dsimp only; split <;> simp [ih]
@[simp] theorem sendFalls_trigQ (s : State) (a : Nat) (old new : Word) (b : Nat) : (sendFalls s a old new b).trigQ = s.trigQ := by
  induction b with
  | zero => rfl
  | succ n ih => unfold sendFalls; dsimp only; split <;> simp [ih]
@[simp] theorem sendFalls_chn (s : State) (a : Nat) (old new : Word) (b : Nat) : (sendFalls s a old new b).chn = s.chn := by
  induction b with
  | zero => rfl
  | succ n ih => unfold sendFalls; dsimp only; split <;> simp [ih]
@[simp] theorem sendFalls_decs (s : State) (a : Nat) (old new : Word) (b : Nat) : (sendFalls s a old new b).decs = s.decs := by
  induction b with
  | zero => rfl
  | succ n ih => unfold sendFalls; dsimp only; split <;> simp [ih]
@[simp] theorem sendFalls_rings (s : State) (a : Nat) (old new : Word) (b : Nat) : (sendFalls s a old new b).rings = s.rings := by
  induction b with
  | zero => rfl
  | succ n ih => unfold sendFalls; dsimp only; split <;> simp [ih]
@[simp] theorem sendFalls_wacs (s : State) (a : Nat) (old new : Word) (b : Nat) : (sendFalls s a old new b).wacs = s.wacs := by
  induction b with
  | zero => rfl
  | succ n ih => unfold sendFalls; dsimp only; split <;> simp [ih]
@[simp] theorem sendFalls_pcvs (s : State) (a : Nat) (old new : Word) (b : Nat) : (sendFalls s a old new b).pcvs = s.pcvs := by
  induction b with
  | zero => rfl
  | succ n ih => unfold sendFalls; dsimp only; split <;> simp [ih]
@[simp] theorem sendFalls_cfg (s : State) (a : Nat) (old new : Word) (b : Nat) : (sendFalls s a old new b).cfg = s.cfg := by
  induction b with
  | zero => rfl
  | succ n ih => unfold sendFalls; dsimp only; split <;> simp [ih]
@[simp] theorem sendFalls_hlk (s : State) (a : Nat) (old new : Word) (b : Nat) : (sendFalls s a old new b).hlk = s.hlk := by
  induction b with
  | zero => rfl
  | succ n ih => unfold sendFalls; dsimp only; split <;> simp [ih]
@[simp] theorem sendFalls_mon (s : State) (a : Nat) (old new : Word) (b : Nat) : (sendFalls s a old new b).mon = s.mon := by
  induction b with
  | zero => rfl
  | succ n ih => unfold sendFalls; dsimp only; split <;> simp [ih]
@[simp] theorem sendFalls_boot (s : State) (a : Nat) (old new : Word) (b : Nat) : (sendFalls s a old new b).boot = s.boot := by
  induction b with
  | zero => rfl
  | succ n ih => unfold sendFalls; dsimp only; split <;> simp [ih]
@[simp] theorem sendFalls_tap (s : State) (a : Nat) (old new : Word) (b : Nat) : (sendFalls s a old new b).tap = s.tap := by
  induction b with
  | zero => rfl
  | succ n ih => unfold sendFalls; dsimp only; split <;> simp [ih]
@[simp] theorem sendFalls_memOut (s : State) (a : Nat) (old new : Word) (b : Nat) : (sendFalls s a old new b).memOut = s.memOut := by
  induction b with
  | zero => rfl
  | succ n ih => unfold sendFalls; dsimp only; split <;> simp [ih]
@[simp] theorem State.clearFlags_pending (s : State) (a : Nat) (m : Word) : (s.clearFlags a m).pending = s.pending := by simp [State.clearFlags]
@[simp] theorem State.clearFlags_tick (s : State) (a : Nat) (m : Word) : (s.clearFlags a m).tick = s.tick := by simp [State.clearFlags]
@[simp] theorem State.clearFlags_rt (s : State) (a : Nat) (m : Word) : (s.clearFlags a m).rt = s.rt := by simp [State.clearFlags]
@[simp] theorem State.clearFlags_free (s : State) (a : Nat) (m : Word) : (s.clearFlags a m).free = s.free := by simp [State.clearFlags]
@[simp] theorem State.clearFlags_cyc (s : State) (a : Nat) (m : Word) : (s.clearFlags a m).cyc = s.cyc := by simp [State.clearFlags]
@[simp] theorem State.clearFlags_fab (s : State) (a : Nat) (m : Word) : (s.clearFlags a m).fab = s.fab := by simp [State.clearFlags]
@[simp] theorem State.clearFlags_queues (s : State) (a : Nat) (m : Word) : (s.clearFlags a m).queues = s.queues := by simp [State.clearFlags]
@[simp] theorem State.clearFlags_lastFrame (s : State) (a : Nat) (m : Word) : (s.clearFlags a m).lastFrame = s.lastFrame := by simp [State.clearFlags]
@[simp] theorem State.clearFlags_fchs (s : State) (a : Nat) (m : Word) : (s.clearFlags a m).fchs = s.fchs := by simp [State.clearFlags]
@[simp] theorem State.clearFlags_calTiles (s : State) (a : Nat) (m : Word) : (s.clearFlags a m).calTiles = s.calTiles := by simp [State.clearFlags]
@[simp] theorem State.clearFlags_calPorts (s : State) (a : Nat) (m : Word) : (s.clearFlags a m).calPorts = s.calPorts := by simp [State.clearFlags]
@[simp] theorem State.clearFlags_fieldTrims (s : State) (a : Nat) (m : Word) : (s.clearFlags a m).fieldTrims = s.fieldTrims := by simp [State.clearFlags]
@[simp] theorem State.clearFlags_dcfs (s : State) (a : Nat) (m : Word) : (s.clearFlags a m).dcfs = s.dcfs := by simp [State.clearFlags]
@[simp] theorem State.clearFlags_streams (s : State) (a : Nat) (m : Word) : (s.clearFlags a m).streams = s.streams := by simp [State.clearFlags]
@[simp] theorem State.clearFlags_evc (s : State) (a : Nat) (m : Word) : (s.clearFlags a m).evc = s.evc := by simp [State.clearFlags]
@[simp] theorem State.clearFlags_pwr (s : State) (a : Nat) (m : Word) : (s.clearFlags a m).pwr = s.pwr := by simp [State.clearFlags]
@[simp] theorem State.clearFlags_log (s : State) (a : Nat) (m : Word) : (s.clearFlags a m).log = s.log := by simp [State.clearFlags]
@[simp] theorem State.clearFlags_logWrapped (s : State) (a : Nat) (m : Word) : (s.clearFlags a m).logWrapped = s.logWrapped := by simp [State.clearFlags]
@[simp] theorem State.clearFlags_clk (s : State) (a : Nat) (m : Word) : (s.clearFlags a m).clk = s.clk := by simp [State.clearFlags]
@[simp] theorem State.clearFlags_mem (s : State) (a : Nat) (m : Word) : (s.clearFlags a m).mem = s.mem := by simp [State.clearFlags]
@[simp] theorem State.clearFlags_mchs (s : State) (a : Nat) (m : Word) : (s.clearFlags a m).mchs = s.mchs := by simp [State.clearFlags]
@[simp] theorem State.clearFlags_mdlls (s : State) (a : Nat) (m : Word) : (s.clearFlags a m).mdlls = s.mdlls := by simp [State.clearFlags]
@[simp] theorem State.clearFlags_nv (s : State) (a : Nat) (m : Word) : (s.clearFlags a m).nv = s.nv := by simp [State.clearFlags]
@[simp] theorem State.clearFlags_flows (s : State) (a : Nat) (m : Word) : (s.clearFlags a m).flows = s.flows := by simp [State.clearFlags]
@[simp] theorem State.clearFlags_dma (s : State) (a : Nat) (m : Word) : (s.clearFlags a m).dma = s.dma := by simp [State.clearFlags]
@[simp] theorem State.clearFlags_cmps (s : State) (a : Nat) (m : Word) : (s.clearFlags a m).cmps = s.cmps := by simp [State.clearFlags]
@[simp] theorem State.clearFlags_cmpTurn (s : State) (a : Nat) (m : Word) : (s.clearFlags a m).cmpTurn = s.cmpTurn := by simp [State.clearFlags]
@[simp] theorem State.clearFlags_blks (s : State) (a : Nat) (m : Word) : (s.clearFlags a m).blks = s.blks := by simp [State.clearFlags]
@[simp] theorem State.clearFlags_pmem (s : State) (a : Nat) (m : Word) : (s.clearFlags a m).pmem = s.pmem := by simp [State.clearFlags]
@[simp] theorem State.clearFlags_closedEnds (s : State) (a : Nat) (m : Word) : (s.clearFlags a m).closedEnds = s.closedEnds := by simp [State.clearFlags]
@[simp] theorem State.clearFlags_stos (s : State) (a : Nat) (m : Word) : (s.clearFlags a m).stos = s.stos := by simp [State.clearFlags]
@[simp] theorem State.clearFlags_tpts (s : State) (a : Nat) (m : Word) : (s.clearFlags a m).tpts = s.tpts := by simp [State.clearFlags]
@[simp] theorem State.clearFlags_trus (s : State) (a : Nat) (m : Word) : (s.clearFlags a m).trus = s.trus := by simp [State.clearFlags]
@[simp] theorem State.clearFlags_trigQ (s : State) (a : Nat) (m : Word) : (s.clearFlags a m).trigQ = s.trigQ := by simp [State.clearFlags]
@[simp] theorem State.clearFlags_chn (s : State) (a : Nat) (m : Word) : (s.clearFlags a m).chn = s.chn := by simp [State.clearFlags]
@[simp] theorem State.clearFlags_decs (s : State) (a : Nat) (m : Word) : (s.clearFlags a m).decs = s.decs := by simp [State.clearFlags]
@[simp] theorem State.clearFlags_rings (s : State) (a : Nat) (m : Word) : (s.clearFlags a m).rings = s.rings := by simp [State.clearFlags]
@[simp] theorem State.clearFlags_wacs (s : State) (a : Nat) (m : Word) : (s.clearFlags a m).wacs = s.wacs := by simp [State.clearFlags]
@[simp] theorem State.clearFlags_pcvs (s : State) (a : Nat) (m : Word) : (s.clearFlags a m).pcvs = s.pcvs := by simp [State.clearFlags]
@[simp] theorem State.clearFlags_cfg (s : State) (a : Nat) (m : Word) : (s.clearFlags a m).cfg = s.cfg := by simp [State.clearFlags]
@[simp] theorem State.clearFlags_hlk (s : State) (a : Nat) (m : Word) : (s.clearFlags a m).hlk = s.hlk := by simp [State.clearFlags]
@[simp] theorem State.clearFlags_mon (s : State) (a : Nat) (m : Word) : (s.clearFlags a m).mon = s.mon := by simp [State.clearFlags]
@[simp] theorem State.clearFlags_boot (s : State) (a : Nat) (m : Word) : (s.clearFlags a m).boot = s.boot := by simp [State.clearFlags]
@[simp] theorem State.clearFlags_tap (s : State) (a : Nat) (m : Word) : (s.clearFlags a m).tap = s.tap := by simp [State.clearFlags]
@[simp] theorem State.clearFlags_memOut (s : State) (a : Nat) (m : Word) : (s.clearFlags a m).memOut = s.memOut := by simp [State.clearFlags]
@[simp] theorem State.hostClear_pending (s : State) (a : Nat) (m : Word) : (s.hostClear a m).pending = s.pending := by simp [State.hostClear]
@[simp] theorem State.hostClear_tick (s : State) (a : Nat) (m : Word) : (s.hostClear a m).tick = s.tick := by simp [State.hostClear]
@[simp] theorem State.hostClear_rt (s : State) (a : Nat) (m : Word) : (s.hostClear a m).rt = s.rt := by simp [State.hostClear]
@[simp] theorem State.hostClear_free (s : State) (a : Nat) (m : Word) : (s.hostClear a m).free = s.free := by simp [State.hostClear]
@[simp] theorem State.hostClear_cyc (s : State) (a : Nat) (m : Word) : (s.hostClear a m).cyc = s.cyc := by simp [State.hostClear]
@[simp] theorem State.hostClear_fab (s : State) (a : Nat) (m : Word) : (s.hostClear a m).fab = s.fab := by simp [State.hostClear]
@[simp] theorem State.hostClear_queues (s : State) (a : Nat) (m : Word) : (s.hostClear a m).queues = s.queues := by simp [State.hostClear]
@[simp] theorem State.hostClear_lastFrame (s : State) (a : Nat) (m : Word) : (s.hostClear a m).lastFrame = s.lastFrame := by simp [State.hostClear]
@[simp] theorem State.hostClear_fchs (s : State) (a : Nat) (m : Word) : (s.hostClear a m).fchs = s.fchs := by simp [State.hostClear]
@[simp] theorem State.hostClear_calTiles (s : State) (a : Nat) (m : Word) : (s.hostClear a m).calTiles = s.calTiles := by simp [State.hostClear]
@[simp] theorem State.hostClear_calPorts (s : State) (a : Nat) (m : Word) : (s.hostClear a m).calPorts = s.calPorts := by simp [State.hostClear]
@[simp] theorem State.hostClear_fieldTrims (s : State) (a : Nat) (m : Word) : (s.hostClear a m).fieldTrims = s.fieldTrims := by simp [State.hostClear]
@[simp] theorem State.hostClear_dcfs (s : State) (a : Nat) (m : Word) : (s.hostClear a m).dcfs = s.dcfs := by simp [State.hostClear]
@[simp] theorem State.hostClear_streams (s : State) (a : Nat) (m : Word) : (s.hostClear a m).streams = s.streams := by simp [State.hostClear]
@[simp] theorem State.hostClear_evc (s : State) (a : Nat) (m : Word) : (s.hostClear a m).evc = s.evc := by simp [State.hostClear]
@[simp] theorem State.hostClear_pwr (s : State) (a : Nat) (m : Word) : (s.hostClear a m).pwr = s.pwr := by simp [State.hostClear]
@[simp] theorem State.hostClear_log (s : State) (a : Nat) (m : Word) : (s.hostClear a m).log = s.log := by simp [State.hostClear]
@[simp] theorem State.hostClear_logWrapped (s : State) (a : Nat) (m : Word) : (s.hostClear a m).logWrapped = s.logWrapped := by simp [State.hostClear]
@[simp] theorem State.hostClear_clk (s : State) (a : Nat) (m : Word) : (s.hostClear a m).clk = s.clk := by simp [State.hostClear]
@[simp] theorem State.hostClear_mem (s : State) (a : Nat) (m : Word) : (s.hostClear a m).mem = s.mem := by simp [State.hostClear]
@[simp] theorem State.hostClear_mchs (s : State) (a : Nat) (m : Word) : (s.hostClear a m).mchs = s.mchs := by simp [State.hostClear]
@[simp] theorem State.hostClear_mdlls (s : State) (a : Nat) (m : Word) : (s.hostClear a m).mdlls = s.mdlls := by simp [State.hostClear]
@[simp] theorem State.hostClear_nv (s : State) (a : Nat) (m : Word) : (s.hostClear a m).nv = s.nv := by simp [State.hostClear]
@[simp] theorem State.hostClear_flows (s : State) (a : Nat) (m : Word) : (s.hostClear a m).flows = s.flows := by simp [State.hostClear]
@[simp] theorem State.hostClear_dma (s : State) (a : Nat) (m : Word) : (s.hostClear a m).dma = s.dma := by simp [State.hostClear]
@[simp] theorem State.hostClear_cmps (s : State) (a : Nat) (m : Word) : (s.hostClear a m).cmps = s.cmps := by simp [State.hostClear]
@[simp] theorem State.hostClear_cmpTurn (s : State) (a : Nat) (m : Word) : (s.hostClear a m).cmpTurn = s.cmpTurn := by simp [State.hostClear]
@[simp] theorem State.hostClear_blks (s : State) (a : Nat) (m : Word) : (s.hostClear a m).blks = s.blks := by simp [State.hostClear]
@[simp] theorem State.hostClear_pmem (s : State) (a : Nat) (m : Word) : (s.hostClear a m).pmem = s.pmem := by simp [State.hostClear]
@[simp] theorem State.hostClear_closedEnds (s : State) (a : Nat) (m : Word) : (s.hostClear a m).closedEnds = s.closedEnds := by simp [State.hostClear]
@[simp] theorem State.hostClear_stos (s : State) (a : Nat) (m : Word) : (s.hostClear a m).stos = s.stos := by simp [State.hostClear]
@[simp] theorem State.hostClear_tpts (s : State) (a : Nat) (m : Word) : (s.hostClear a m).tpts = s.tpts := by simp [State.hostClear]
@[simp] theorem State.hostClear_trus (s : State) (a : Nat) (m : Word) : (s.hostClear a m).trus = s.trus := by simp [State.hostClear]
@[simp] theorem State.hostClear_trigQ (s : State) (a : Nat) (m : Word) : (s.hostClear a m).trigQ = s.trigQ := by simp [State.hostClear]
@[simp] theorem State.hostClear_chn (s : State) (a : Nat) (m : Word) : (s.hostClear a m).chn = s.chn := by simp [State.hostClear]
@[simp] theorem State.hostClear_decs (s : State) (a : Nat) (m : Word) : (s.hostClear a m).decs = s.decs := by simp [State.hostClear]
@[simp] theorem State.hostClear_rings (s : State) (a : Nat) (m : Word) : (s.hostClear a m).rings = s.rings := by simp [State.hostClear]
@[simp] theorem State.hostClear_wacs (s : State) (a : Nat) (m : Word) : (s.hostClear a m).wacs = s.wacs := by simp [State.hostClear]
@[simp] theorem State.hostClear_pcvs (s : State) (a : Nat) (m : Word) : (s.hostClear a m).pcvs = s.pcvs := by simp [State.hostClear]
@[simp] theorem State.hostClear_cfg (s : State) (a : Nat) (m : Word) : (s.hostClear a m).cfg = s.cfg := by simp [State.hostClear]
@[simp] theorem State.hostClear_hlk (s : State) (a : Nat) (m : Word) : (s.hostClear a m).hlk = s.hlk := by simp [State.hostClear]
@[simp] theorem State.hostClear_mon (s : State) (a : Nat) (m : Word) : (s.hostClear a m).mon = s.mon := by simp [State.hostClear]
@[simp] theorem State.hostClear_boot (s : State) (a : Nat) (m : Word) : (s.hostClear a m).boot = s.boot := by simp [State.hostClear]
@[simp] theorem State.hostClear_tap (s : State) (a : Nat) (m : Word) : (s.hostClear a m).tap = s.tap := by simp [State.hostClear]
@[simp] theorem State.hostClear_memOut (s : State) (a : Nat) (m : Word) : (s.hostClear a m).memOut = s.memOut := by simp [State.hostClear]

@[simp] theorem sendFalls_rd (s : State) (a : Nat) (old new : Word) (b c : Nat) : (sendFalls s a old new b).rd c = s.rd c := by
  simp [State.rd]

/-- The cleared bits read 0, the others are left alone. -/
@[simp] theorem State.rd_clearFlags_self (s : State) (a : Nat) (m : Word) : (s.clearFlags a m).rd a = s.rd a &&& ~~~ m := by
  simp [State.clearFlags]

theorem State.rd_clearFlags_ne (s : State) {a b : Nat} (h : b ≠ a) (m : Word) : (s.clearFlags a m).rd b = s.rd b := by
  simp [State.clearFlags, State.rd_wr_ne s h]

/-- The host's clear leaves a flag that hardware sets in the same cycle (00_scope.md R22). -/
@[simp] theorem State.rd_hostClear_self (s : State) (a : Nat) (m : Word) :
    (s.hostClear a m).rd a = s.rd a &&& ~~~ (m &&& ~~~ s.setNow a) := State.rd_clearFlags_self s a _

theorem State.rd_hostClear_ne (s : State) {a b : Nat} (h : b ≠ a) (m : Word) : (s.hostClear a m).rd b = s.rd b :=
  State.rd_clearFlags_ne s h _

/-! ### Clearing counts (00_scope.md R23) -/

/-- A clear of counts reaches the registers listed. -/
theorem State.rd_clearCounts_ne (s : State) (l : List Nat) (b : Nat) (h : b ∉ l) : (s.clearCounts l).rd b = s.rd b := by
  induction l generalizing s with
  | nil => rfl
  | cons a t ih =>
    simp only [List.mem_cons, not_or] at h
    rw [State.clearCounts, ih _ h.2, State.rd_wn_ne _ h.1]

/-- A cleared count reads what the present cycle has counted. -/
theorem State.rd_clearCounts (s : State) (l : List Nat) (b : Nat) (h : b ∈ l) :
    (s.clearCounts l).rd b = BitVec.ofNat 32 (min (s.countNow b) (2 ^ 32 - 1)) := by
  induction l generalizing s with
  | nil => simp at h
  | cons a t ih =>
    by_cases ht : b ∈ t
    · rw [State.clearCounts, ih _ ht, State.countNow_wn]
    · have hb : b = a := by simpa [ht] using h
      subst hb
      rw [State.clearCounts, State.rd_clearCounts_ne _ _ _ ht, State.rd_wn_self]

/-- A cleared count reads 0 where the present cycle has counted nothing. -/
theorem State.rd_clearCounts_zero (s : State) (l : List Nat) (b : Nat) (h : b ∈ l) (h0 : s.countNow b = 0) :
    (s.clearCounts l).rd b = 0#32 := by
  rw [State.rd_clearCounts s l b h, h0]; rfl

@[simp] theorem State.clearCounts_pending (s : State) (l : List Nat) : (s.clearCounts l).pending = s.pending := by
  induction l generalizing s with
  | nil => rfl
  | cons a t ih => simp [State.clearCounts, ih]
@[simp] theorem State.clearCounts_tick (s : State) (l : List Nat) : (s.clearCounts l).tick = s.tick := by
  induction l generalizing s with
  | nil => rfl
  | cons a t ih => simp [State.clearCounts, ih]
@[simp] theorem State.clearCounts_rt (s : State) (l : List Nat) : (s.clearCounts l).rt = s.rt := by
  induction l generalizing s with
  | nil => rfl
  | cons a t ih => simp [State.clearCounts, ih]
@[simp] theorem State.clearCounts_free (s : State) (l : List Nat) : (s.clearCounts l).free = s.free := by
  induction l generalizing s with
  | nil => rfl
  | cons a t ih => simp [State.clearCounts, ih]
@[simp] theorem State.clearCounts_cyc (s : State) (l : List Nat) : (s.clearCounts l).cyc = s.cyc := by
  induction l generalizing s with
  | nil => rfl
  | cons a t ih => simp [State.clearCounts, ih]
@[simp] theorem State.clearCounts_lines (s : State) (l : List Nat) : (s.clearCounts l).lines = s.lines := by
  induction l generalizing s with
  | nil => rfl
  | cons a t ih => simp [State.clearCounts, ih]
@[simp] theorem State.clearCounts_fab (s : State) (l : List Nat) : (s.clearCounts l).fab = s.fab := by
  induction l generalizing s with
  | nil => rfl
  | cons a t ih => simp [State.clearCounts, ih]
@[simp] theorem State.clearCounts_queues (s : State) (l : List Nat) : (s.clearCounts l).queues = s.queues := by
  induction l generalizing s with
  | nil => rfl
  | cons a t ih => simp [State.clearCounts, ih]
@[simp] theorem State.clearCounts_lastFrame (s : State) (l : List Nat) : (s.clearCounts l).lastFrame = s.lastFrame := by
  induction l generalizing s with
  | nil => rfl
  | cons a t ih => simp [State.clearCounts, ih]
@[simp] theorem State.clearCounts_fchs (s : State) (l : List Nat) : (s.clearCounts l).fchs = s.fchs := by
  induction l generalizing s with
  | nil => rfl
  | cons a t ih => simp [State.clearCounts, ih]
@[simp] theorem State.clearCounts_calTiles (s : State) (l : List Nat) : (s.clearCounts l).calTiles = s.calTiles := by
  induction l generalizing s with
  | nil => rfl
  | cons a t ih => simp [State.clearCounts, ih]
@[simp] theorem State.clearCounts_calPorts (s : State) (l : List Nat) : (s.clearCounts l).calPorts = s.calPorts := by
  induction l generalizing s with
  | nil => rfl
  | cons a t ih => simp [State.clearCounts, ih]
@[simp] theorem State.clearCounts_fieldTrims (s : State) (l : List Nat) : (s.clearCounts l).fieldTrims = s.fieldTrims := by
  induction l generalizing s with
  | nil => rfl
  | cons a t ih => simp [State.clearCounts, ih]
@[simp] theorem State.clearCounts_dcfs (s : State) (l : List Nat) : (s.clearCounts l).dcfs = s.dcfs := by
  induction l generalizing s with
  | nil => rfl
  | cons a t ih => simp [State.clearCounts, ih]
@[simp] theorem State.clearCounts_streams (s : State) (l : List Nat) : (s.clearCounts l).streams = s.streams := by
  induction l generalizing s with
  | nil => rfl
  | cons a t ih => simp [State.clearCounts, ih]
@[simp] theorem State.clearCounts_evc (s : State) (l : List Nat) : (s.clearCounts l).evc = s.evc := by
  induction l generalizing s with
  | nil => rfl
  | cons a t ih => simp [State.clearCounts, ih]
@[simp] theorem State.clearCounts_pwr (s : State) (l : List Nat) : (s.clearCounts l).pwr = s.pwr := by
  induction l generalizing s with
  | nil => rfl
  | cons a t ih => simp [State.clearCounts, ih]
@[simp] theorem State.clearCounts_log (s : State) (l : List Nat) : (s.clearCounts l).log = s.log := by
  induction l generalizing s with
  | nil => rfl
  | cons a t ih => simp [State.clearCounts, ih]
@[simp] theorem State.clearCounts_logWrapped (s : State) (l : List Nat) : (s.clearCounts l).logWrapped = s.logWrapped := by
  induction l generalizing s with
  | nil => rfl
  | cons a t ih => simp [State.clearCounts, ih]
@[simp] theorem State.clearCounts_clk (s : State) (l : List Nat) : (s.clearCounts l).clk = s.clk := by
  induction l generalizing s with
  | nil => rfl
  | cons a t ih => simp [State.clearCounts, ih]
@[simp] theorem State.clearCounts_mem (s : State) (l : List Nat) : (s.clearCounts l).mem = s.mem := by
  induction l generalizing s with
  | nil => rfl
  | cons a t ih => simp [State.clearCounts, ih]
@[simp] theorem State.clearCounts_mchs (s : State) (l : List Nat) : (s.clearCounts l).mchs = s.mchs := by
  induction l generalizing s with
  | nil => rfl
  | cons a t ih => simp [State.clearCounts, ih]
@[simp] theorem State.clearCounts_mdlls (s : State) (l : List Nat) : (s.clearCounts l).mdlls = s.mdlls := by
  induction l generalizing s with
  | nil => rfl
  | cons a t ih => simp [State.clearCounts, ih]
@[simp] theorem State.clearCounts_nv (s : State) (l : List Nat) : (s.clearCounts l).nv = s.nv := by
  induction l generalizing s with
  | nil => rfl
  | cons a t ih => simp [State.clearCounts, ih]
@[simp] theorem State.clearCounts_flows (s : State) (l : List Nat) : (s.clearCounts l).flows = s.flows := by
  induction l generalizing s with
  | nil => rfl
  | cons a t ih => simp [State.clearCounts, ih]
@[simp] theorem State.clearCounts_dma (s : State) (l : List Nat) : (s.clearCounts l).dma = s.dma := by
  induction l generalizing s with
  | nil => rfl
  | cons a t ih => simp [State.clearCounts, ih]
@[simp] theorem State.clearCounts_cmps (s : State) (l : List Nat) : (s.clearCounts l).cmps = s.cmps := by
  induction l generalizing s with
  | nil => rfl
  | cons a t ih => simp [State.clearCounts, ih]
@[simp] theorem State.clearCounts_cmpTurn (s : State) (l : List Nat) : (s.clearCounts l).cmpTurn = s.cmpTurn := by
  induction l generalizing s with
  | nil => rfl
  | cons a t ih => simp [State.clearCounts, ih]
@[simp] theorem State.clearCounts_blks (s : State) (l : List Nat) : (s.clearCounts l).blks = s.blks := by
  induction l generalizing s with
  | nil => rfl
  | cons a t ih => simp [State.clearCounts, ih]
@[simp] theorem State.clearCounts_pmem (s : State) (l : List Nat) : (s.clearCounts l).pmem = s.pmem := by
  induction l generalizing s with
  | nil => rfl
  | cons a t ih => simp [State.clearCounts, ih]
@[simp] theorem State.clearCounts_closedEnds (s : State) (l : List Nat) : (s.clearCounts l).closedEnds = s.closedEnds := by
  induction l generalizing s with
  | nil => rfl
  | cons a t ih => simp [State.clearCounts, ih]
@[simp] theorem State.clearCounts_stos (s : State) (l : List Nat) : (s.clearCounts l).stos = s.stos := by
  induction l generalizing s with
  | nil => rfl
  | cons a t ih => simp [State.clearCounts, ih]
@[simp] theorem State.clearCounts_tpts (s : State) (l : List Nat) : (s.clearCounts l).tpts = s.tpts := by
  induction l generalizing s with
  | nil => rfl
  | cons a t ih => simp [State.clearCounts, ih]
@[simp] theorem State.clearCounts_trus (s : State) (l : List Nat) : (s.clearCounts l).trus = s.trus := by
  induction l generalizing s with
  | nil => rfl
  | cons a t ih => simp [State.clearCounts, ih]
@[simp] theorem State.clearCounts_trigQ (s : State) (l : List Nat) : (s.clearCounts l).trigQ = s.trigQ := by
  induction l generalizing s with
  | nil => rfl
  | cons a t ih => simp [State.clearCounts, ih]
@[simp] theorem State.clearCounts_chn (s : State) (l : List Nat) : (s.clearCounts l).chn = s.chn := by
  induction l generalizing s with
  | nil => rfl
  | cons a t ih => simp [State.clearCounts, ih]
@[simp] theorem State.clearCounts_decs (s : State) (l : List Nat) : (s.clearCounts l).decs = s.decs := by
  induction l generalizing s with
  | nil => rfl
  | cons a t ih => simp [State.clearCounts, ih]
@[simp] theorem State.clearCounts_rings (s : State) (l : List Nat) : (s.clearCounts l).rings = s.rings := by
  induction l generalizing s with
  | nil => rfl
  | cons a t ih => simp [State.clearCounts, ih]
@[simp] theorem State.clearCounts_wacs (s : State) (l : List Nat) : (s.clearCounts l).wacs = s.wacs := by
  induction l generalizing s with
  | nil => rfl
  | cons a t ih => simp [State.clearCounts, ih]
@[simp] theorem State.clearCounts_pcvs (s : State) (l : List Nat) : (s.clearCounts l).pcvs = s.pcvs := by
  induction l generalizing s with
  | nil => rfl
  | cons a t ih => simp [State.clearCounts, ih]
@[simp] theorem State.clearCounts_cfg (s : State) (l : List Nat) : (s.clearCounts l).cfg = s.cfg := by
  induction l generalizing s with
  | nil => rfl
  | cons a t ih => simp [State.clearCounts, ih]
@[simp] theorem State.clearCounts_hlk (s : State) (l : List Nat) : (s.clearCounts l).hlk = s.hlk := by
  induction l generalizing s with
  | nil => rfl
  | cons a t ih => simp [State.clearCounts, ih]
@[simp] theorem State.clearCounts_mon (s : State) (l : List Nat) : (s.clearCounts l).mon = s.mon := by
  induction l generalizing s with
  | nil => rfl
  | cons a t ih => simp [State.clearCounts, ih]
@[simp] theorem State.clearCounts_boot (s : State) (l : List Nat) : (s.clearCounts l).boot = s.boot := by
  induction l generalizing s with
  | nil => rfl
  | cons a t ih => simp [State.clearCounts, ih]
@[simp] theorem State.clearCounts_tap (s : State) (l : List Nat) : (s.clearCounts l).tap = s.tap := by
  induction l generalizing s with
  | nil => rfl
  | cons a t ih => simp [State.clearCounts, ih]
@[simp] theorem State.clearCounts_memOut (s : State) (l : List Nat) : (s.clearCounts l).memOut = s.memOut := by
  induction l generalizing s with
  | nil => rfl
  | cons a t ih => simp [State.clearCounts, ih]

/-! ### An accepted register write -/

@[simp] theorem State.applyFields_pending (s : State) (a : Nat) (v : Word) : (s.applyFields a v).pending = s.pending := by
  unfold State.applyFields; split <;> simp
@[simp] theorem State.applyFields_tick (s : State) (a : Nat) (v : Word) : (s.applyFields a v).tick = s.tick := by
  unfold State.applyFields; split <;> simp
@[simp] theorem State.applyFields_rt (s : State) (a : Nat) (v : Word) : (s.applyFields a v).rt = s.rt := by
  unfold State.applyFields; split <;> simp
@[simp] theorem State.applyFields_free (s : State) (a : Nat) (v : Word) : (s.applyFields a v).free = s.free := by
  unfold State.applyFields; split <;> simp
@[simp] theorem State.applyFields_cyc (s : State) (a : Nat) (v : Word) : (s.applyFields a v).cyc = s.cyc := by
  unfold State.applyFields; split <;> simp
@[simp] theorem State.applyFields_fab (s : State) (a : Nat) (v : Word) : (s.applyFields a v).fab = s.fab := by
  unfold State.applyFields; split <;> simp
@[simp] theorem State.applyFields_queues (s : State) (a : Nat) (v : Word) : (s.applyFields a v).queues = s.queues := by
  unfold State.applyFields; split <;> simp
@[simp] theorem State.applyFields_lastFrame (s : State) (a : Nat) (v : Word) : (s.applyFields a v).lastFrame = s.lastFrame := by
  unfold State.applyFields; split <;> simp
@[simp] theorem State.applyFields_fchs (s : State) (a : Nat) (v : Word) : (s.applyFields a v).fchs = s.fchs := by
  unfold State.applyFields; split <;> simp
@[simp] theorem State.applyFields_calTiles (s : State) (a : Nat) (v : Word) : (s.applyFields a v).calTiles = s.calTiles := by
  unfold State.applyFields; split <;> simp
@[simp] theorem State.applyFields_calPorts (s : State) (a : Nat) (v : Word) : (s.applyFields a v).calPorts = s.calPorts := by
  unfold State.applyFields; split <;> simp
@[simp] theorem State.applyFields_fieldTrims (s : State) (a : Nat) (v : Word) : (s.applyFields a v).fieldTrims = s.fieldTrims := by
  unfold State.applyFields; split <;> simp
@[simp] theorem State.applyFields_dcfs (s : State) (a : Nat) (v : Word) : (s.applyFields a v).dcfs = s.dcfs := by
  unfold State.applyFields; split <;> simp
@[simp] theorem State.applyFields_streams (s : State) (a : Nat) (v : Word) : (s.applyFields a v).streams = s.streams := by
  unfold State.applyFields; split <;> simp
@[simp] theorem State.applyFields_evc (s : State) (a : Nat) (v : Word) : (s.applyFields a v).evc = s.evc := by
  unfold State.applyFields; split <;> simp
@[simp] theorem State.applyFields_pwr (s : State) (a : Nat) (v : Word) : (s.applyFields a v).pwr = s.pwr := by
  unfold State.applyFields; split <;> simp
@[simp] theorem State.applyFields_log (s : State) (a : Nat) (v : Word) : (s.applyFields a v).log = s.log := by
  unfold State.applyFields; split <;> simp
@[simp] theorem State.applyFields_logWrapped (s : State) (a : Nat) (v : Word) : (s.applyFields a v).logWrapped = s.logWrapped := by
  unfold State.applyFields; split <;> simp
@[simp] theorem State.applyFields_clk (s : State) (a : Nat) (v : Word) : (s.applyFields a v).clk = s.clk := by
  unfold State.applyFields; split <;> simp
@[simp] theorem State.applyFields_mem (s : State) (a : Nat) (v : Word) : (s.applyFields a v).mem = s.mem := by
  unfold State.applyFields; split <;> simp
@[simp] theorem State.applyFields_mchs (s : State) (a : Nat) (v : Word) : (s.applyFields a v).mchs = s.mchs := by
  unfold State.applyFields; split <;> simp
@[simp] theorem State.applyFields_mdlls (s : State) (a : Nat) (v : Word) : (s.applyFields a v).mdlls = s.mdlls := by
  unfold State.applyFields; split <;> simp
@[simp] theorem State.applyFields_nv (s : State) (a : Nat) (v : Word) : (s.applyFields a v).nv = s.nv := by
  unfold State.applyFields; split <;> simp
@[simp] theorem State.applyFields_flows (s : State) (a : Nat) (v : Word) : (s.applyFields a v).flows = s.flows := by
  unfold State.applyFields; split <;> simp
@[simp] theorem State.applyFields_dma (s : State) (a : Nat) (v : Word) : (s.applyFields a v).dma = s.dma := by
  unfold State.applyFields; split <;> simp
@[simp] theorem State.applyFields_cmps (s : State) (a : Nat) (v : Word) : (s.applyFields a v).cmps = s.cmps := by
  unfold State.applyFields; split <;> simp
@[simp] theorem State.applyFields_cmpTurn (s : State) (a : Nat) (v : Word) : (s.applyFields a v).cmpTurn = s.cmpTurn := by
  unfold State.applyFields; split <;> simp
@[simp] theorem State.applyFields_blks (s : State) (a : Nat) (v : Word) : (s.applyFields a v).blks = s.blks := by
  unfold State.applyFields; split <;> simp
@[simp] theorem State.applyFields_pmem (s : State) (a : Nat) (v : Word) : (s.applyFields a v).pmem = s.pmem := by
  unfold State.applyFields; split <;> simp
@[simp] theorem State.applyFields_closedEnds (s : State) (a : Nat) (v : Word) : (s.applyFields a v).closedEnds = s.closedEnds := by
  unfold State.applyFields; split <;> simp
@[simp] theorem State.applyFields_stos (s : State) (a : Nat) (v : Word) : (s.applyFields a v).stos = s.stos := by
  unfold State.applyFields; split <;> simp
@[simp] theorem State.applyFields_tpts (s : State) (a : Nat) (v : Word) : (s.applyFields a v).tpts = s.tpts := by
  unfold State.applyFields; split <;> simp
@[simp] theorem State.applyFields_trus (s : State) (a : Nat) (v : Word) : (s.applyFields a v).trus = s.trus := by
  unfold State.applyFields; split <;> simp
@[simp] theorem State.applyFields_trigQ (s : State) (a : Nat) (v : Word) : (s.applyFields a v).trigQ = s.trigQ := by
  unfold State.applyFields; split <;> simp
@[simp] theorem State.applyFields_chn (s : State) (a : Nat) (v : Word) : (s.applyFields a v).chn = s.chn := by
  unfold State.applyFields; split <;> simp
@[simp] theorem State.applyFields_decs (s : State) (a : Nat) (v : Word) : (s.applyFields a v).decs = s.decs := by
  unfold State.applyFields; split <;> simp
@[simp] theorem State.applyFields_rings (s : State) (a : Nat) (v : Word) : (s.applyFields a v).rings = s.rings := by
  unfold State.applyFields; split <;> simp
@[simp] theorem State.applyFields_wacs (s : State) (a : Nat) (v : Word) : (s.applyFields a v).wacs = s.wacs := by
  unfold State.applyFields; split <;> simp
@[simp] theorem State.applyFields_pcvs (s : State) (a : Nat) (v : Word) : (s.applyFields a v).pcvs = s.pcvs := by
  unfold State.applyFields; split <;> simp
@[simp] theorem State.applyFields_cfg (s : State) (a : Nat) (v : Word) : (s.applyFields a v).cfg = s.cfg := by
  unfold State.applyFields; split <;> simp
@[simp] theorem State.applyFields_hlk (s : State) (a : Nat) (v : Word) : (s.applyFields a v).hlk = s.hlk := by
  unfold State.applyFields; split <;> simp
@[simp] theorem State.applyFields_mon (s : State) (a : Nat) (v : Word) : (s.applyFields a v).mon = s.mon := by
  unfold State.applyFields; split <;> simp
@[simp] theorem State.applyFields_boot (s : State) (a : Nat) (v : Word) : (s.applyFields a v).boot = s.boot := by
  unfold State.applyFields; split <;> simp
@[simp] theorem State.applyFields_tap (s : State) (a : Nat) (v : Word) : (s.applyFields a v).tap = s.tap := by
  unfold State.applyFields; split <;> simp
@[simp] theorem State.applyFields_memOut (s : State) (a : Nat) (v : Word) : (s.applyFields a v).memOut = s.memOut := by
  unfold State.applyFields; split <;> simp

/-- The written register takes the rw and w1s bits and loses the w1c bits. -/
theorem State.rd_applyFields_self (s : State) (a : Nat) (v : Word) (r : RegRow) (h : rowOf a = some r) :
    (s.applyFields a v).rd a = mergeWord r (s.rd a) v &&& ~~~ (v &&& BitVec.ofNat 32 r.w1c &&& ~~~ s.setNow a) := by
  simp [State.applyFields, h]

/-- A register without w1c bits takes the rw and w1s bits, whatever the cycle has set. -/
theorem State.rd_applyFields_rw (s : State) (a : Nat) (v : Word) (r : RegRow) (h : rowOf a = some r) (h0 : r.w1c = 0) :
    (s.applyFields a v).rd a = mergeWord r (s.rd a) v := by
  rw [State.rd_applyFields_self s a v r h, h0]
  simp [-BitVec.reduceAllOnes]

/-- A write reaches one register. -/
theorem State.rd_applyFields_ne (s : State) {a b : Nat} (h : b ≠ a) (v : Word) : (s.applyFields a v).rd b = s.rd b := by
  unfold State.applyFields
  split
  · rfl
  · rw [State.rd_hostClear_ne _ h, State.rd_wr_ne _ h]

/-! ### A write carried out or reported -/

@[simp] theorem State.writeIf_ok (s : State) (a : Nat) (f : State → State) : s.writeIf a .ok f = (.ok, f s) := rfl

theorem State.writeIf_refused (s : State) (a : Nat) (w : WStat) (h : w ≠ .ok) (f : State → State) :
    s.writeIf a w f = (w, s.report a w) := by
  cases w <;> first | exact absurd rfl h | rfl

/-- A report touches HLK_ERR, HLK_GATED_ADDR and HLK_REFUSED_ADDR only. -/
theorem State.rd_report (s : State) (a : Nat) (w : WStat) (b : Nat) (h1 : b ≠ Reg.HLK_ERR) (h2 : b ≠ Reg.HLK_GATED_ADDR)
    (h3 : b ≠ Reg.HLK_REFUSED_ADDR) : (s.report a w).rd b = s.rd b := by
  cases w <;> simp [State.report, State.rd_wn_ne _ h2, State.rd_wn_ne _ h3, State.rd_setFlag_ne _ h1]

@[simp] theorem State.report_pending (s : State) (a : Nat) (w : WStat) : (s.report a w).pending = s.pending := by cases w <;> simp [State.report]
@[simp] theorem State.report_tick (s : State) (a : Nat) (w : WStat) : (s.report a w).tick = s.tick := by cases w <;> simp [State.report]
@[simp] theorem State.report_rt (s : State) (a : Nat) (w : WStat) : (s.report a w).rt = s.rt := by cases w <;> simp [State.report]
@[simp] theorem State.report_free (s : State) (a : Nat) (w : WStat) : (s.report a w).free = s.free := by cases w <;> simp [State.report]
@[simp] theorem State.report_fab (s : State) (a : Nat) (w : WStat) : (s.report a w).fab = s.fab := by cases w <;> simp [State.report]
@[simp] theorem State.report_queues (s : State) (a : Nat) (w : WStat) : (s.report a w).queues = s.queues := by cases w <;> simp [State.report]
@[simp] theorem State.report_lastFrame (s : State) (a : Nat) (w : WStat) : (s.report a w).lastFrame = s.lastFrame := by cases w <;> simp [State.report]
@[simp] theorem State.report_fchs (s : State) (a : Nat) (w : WStat) : (s.report a w).fchs = s.fchs := by cases w <;> simp [State.report]
@[simp] theorem State.report_calTiles (s : State) (a : Nat) (w : WStat) : (s.report a w).calTiles = s.calTiles := by cases w <;> simp [State.report]
@[simp] theorem State.report_calPorts (s : State) (a : Nat) (w : WStat) : (s.report a w).calPorts = s.calPorts := by cases w <;> simp [State.report]
@[simp] theorem State.report_fieldTrims (s : State) (a : Nat) (w : WStat) : (s.report a w).fieldTrims = s.fieldTrims := by cases w <;> simp [State.report]
@[simp] theorem State.report_dcfs (s : State) (a : Nat) (w : WStat) : (s.report a w).dcfs = s.dcfs := by cases w <;> simp [State.report]
@[simp] theorem State.report_streams (s : State) (a : Nat) (w : WStat) : (s.report a w).streams = s.streams := by cases w <;> simp [State.report]
@[simp] theorem State.report_evc (s : State) (a : Nat) (w : WStat) : (s.report a w).evc = s.evc := by cases w <;> simp [State.report]
@[simp] theorem State.report_pwr (s : State) (a : Nat) (w : WStat) : (s.report a w).pwr = s.pwr := by cases w <;> simp [State.report]
@[simp] theorem State.report_log (s : State) (a : Nat) (w : WStat) : (s.report a w).log = s.log := by cases w <;> simp [State.report]
@[simp] theorem State.report_logWrapped (s : State) (a : Nat) (w : WStat) : (s.report a w).logWrapped = s.logWrapped := by cases w <;> simp [State.report]
@[simp] theorem State.report_clk (s : State) (a : Nat) (w : WStat) : (s.report a w).clk = s.clk := by cases w <;> simp [State.report]
@[simp] theorem State.report_mem (s : State) (a : Nat) (w : WStat) : (s.report a w).mem = s.mem := by cases w <;> simp [State.report]
@[simp] theorem State.report_mchs (s : State) (a : Nat) (w : WStat) : (s.report a w).mchs = s.mchs := by cases w <;> simp [State.report]
@[simp] theorem State.report_mdlls (s : State) (a : Nat) (w : WStat) : (s.report a w).mdlls = s.mdlls := by cases w <;> simp [State.report]
@[simp] theorem State.report_nv (s : State) (a : Nat) (w : WStat) : (s.report a w).nv = s.nv := by cases w <;> simp [State.report]
@[simp] theorem State.report_flows (s : State) (a : Nat) (w : WStat) : (s.report a w).flows = s.flows := by cases w <;> simp [State.report]
@[simp] theorem State.report_dma (s : State) (a : Nat) (w : WStat) : (s.report a w).dma = s.dma := by cases w <;> simp [State.report]
@[simp] theorem State.report_cmps (s : State) (a : Nat) (w : WStat) : (s.report a w).cmps = s.cmps := by cases w <;> simp [State.report]
@[simp] theorem State.report_cmpTurn (s : State) (a : Nat) (w : WStat) : (s.report a w).cmpTurn = s.cmpTurn := by cases w <;> simp [State.report]
@[simp] theorem State.report_blks (s : State) (a : Nat) (w : WStat) : (s.report a w).blks = s.blks := by cases w <;> simp [State.report]
@[simp] theorem State.report_pmem (s : State) (a : Nat) (w : WStat) : (s.report a w).pmem = s.pmem := by cases w <;> simp [State.report]
@[simp] theorem State.report_closedEnds (s : State) (a : Nat) (w : WStat) : (s.report a w).closedEnds = s.closedEnds := by cases w <;> simp [State.report]
@[simp] theorem State.report_stos (s : State) (a : Nat) (w : WStat) : (s.report a w).stos = s.stos := by cases w <;> simp [State.report]
@[simp] theorem State.report_tpts (s : State) (a : Nat) (w : WStat) : (s.report a w).tpts = s.tpts := by cases w <;> simp [State.report]
@[simp] theorem State.report_trus (s : State) (a : Nat) (w : WStat) : (s.report a w).trus = s.trus := by cases w <;> simp [State.report]
@[simp] theorem State.report_trigQ (s : State) (a : Nat) (w : WStat) : (s.report a w).trigQ = s.trigQ := by cases w <;> simp [State.report]
@[simp] theorem State.report_chn (s : State) (a : Nat) (w : WStat) : (s.report a w).chn = s.chn := by cases w <;> simp [State.report]
@[simp] theorem State.report_decs (s : State) (a : Nat) (w : WStat) : (s.report a w).decs = s.decs := by cases w <;> simp [State.report]
@[simp] theorem State.report_rings (s : State) (a : Nat) (w : WStat) : (s.report a w).rings = s.rings := by cases w <;> simp [State.report]
@[simp] theorem State.report_wacs (s : State) (a : Nat) (w : WStat) : (s.report a w).wacs = s.wacs := by cases w <;> simp [State.report]
@[simp] theorem State.report_pcvs (s : State) (a : Nat) (w : WStat) : (s.report a w).pcvs = s.pcvs := by cases w <;> simp [State.report]
@[simp] theorem State.report_cfg (s : State) (a : Nat) (w : WStat) : (s.report a w).cfg = s.cfg := by cases w <;> simp [State.report]
@[simp] theorem State.report_hlk (s : State) (a : Nat) (w : WStat) : (s.report a w).hlk = s.hlk := by cases w <;> simp [State.report]
@[simp] theorem State.report_mon (s : State) (a : Nat) (w : WStat) : (s.report a w).mon = s.mon := by cases w <;> simp [State.report]
@[simp] theorem State.report_boot (s : State) (a : Nat) (w : WStat) : (s.report a w).boot = s.boot := by cases w <;> simp [State.report]
@[simp] theorem State.report_tap (s : State) (a : Nat) (w : WStat) : (s.report a w).tap = s.tap := by cases w <;> simp [State.report]
@[simp] theorem State.report_memOut (s : State) (a : Nat) (w : WStat) : (s.report a w).memOut = s.memOut := by cases w <;> simp [State.report]

/-! ### Device and group states -/

/-- A device state below 8 reads as it was set. -/
theorem State.dev_setDev (s : State) (x : Nat) (h : x < 8) : (s.setDev x).dev = x := by
  unfold State.dev State.setDev
  rw [State.get_put_self _ _ _ _ (by decide)]
  exact Nat.mod_eq_of_lt (by simpa using h)

/-- The register of a group's state is not that of the device state. -/
theorem gstateReg_ne (g : Nat) : Reg.DEV_STATE ≠ gstateReg g := by unfold gstateReg; split <;> decide

/-- A group's move leaves the device state alone. -/
@[simp] theorem State.dev_setGst (s : State) (g x : Nat) : (s.setGst g x).dev = s.dev := by
  unfold State.setGst State.dev
  split
  · exact State.get_put_ne _ (gstateReg_ne g) _ _ _
  · rfl

/-- The state that a group holds reads as it was set. -/
theorem State.gstHeld_setGst_self (s : State) (g x : Nat) (hg : g < 16) (hx : x < 16) : (s.setGst g x).gstHeld g = x := by
  unfold State.gstHeld State.setGst
  simp only [hg, if_true]
  rw [State.get_put_self _ _ _ _ (by simp only [gstateFld]; omega)]
  exact Nat.mod_eq_of_lt (by simpa [gstateFld] using hx)

/-- The state that another group holds is left alone. -/
theorem State.gstHeld_setGst_ne (s : State) (g k x : Nat) (hk : k < 16) (h : k ≠ g) : (s.setGst g x).gstHeld k = s.gstHeld k := by
  unfold State.gstHeld State.setGst
  by_cases hg : g < 16 <;> simp only [hg, if_true, if_false]
  by_cases hr : gstateReg k = gstateReg g
  · rw [hr]
    refine State.get_put_fld _ _ _ _ _ ?_
    simp only [gstateFld]
    have : k % 8 ≠ g % 8 := by
      intro he
      apply h
      unfold gstateReg at hr
      split at hr <;> split at hr <;> first | omega | (exact absurd hr (by decide))
    omega
  · exact State.get_put_ne _ hr _ _ _

/-- With the device CONFIGURED a group's state reads as it was set (01_architecture.md R35). -/
theorem State.gst_setGst_self (s : State) (g x : Nat) (hd : s.dev = devConfigured) (hg : g < 16) (hx : x < 16) :
    (s.setGst g x).gst g = x := by
  simp [State.gst, hg, hd, State.gstHeld_setGst_self s g x hg hx]

/-- Another group's state is left alone. -/
theorem State.gst_setGst_ne (s : State) (g k x : Nat) (h : k ≠ g) : (s.setGst g x).gst k = s.gst k := by
  unfold State.gst
  by_cases hk : k < 16
  · rw [State.gstHeld_setGst_ne s g k x hk h, State.dev_setGst]
  · simp [hk]

end Sys2Proof.Machine
end

