-- ==== Sys2Proof/Laws/Mem.lean ====
section
/-! SUPPORT. The laws of acquisition memory and program memory: a byte reads as it was stored, every other byte is left alone,
and every operation keeps the canonical form. -/
set_option Elab.async false
namespace Sys2Proof.Machine

/-- What an address reads as depends on the cells, the fill of its channel and the number of channels. -/
theorem find_eraseKey_ne {α : Type} {k a : Nat} (h : a ≠ k) (l : List (Nat × α)) :
    (eraseKey k l).find? (fun c => c.1 == a) = l.find? (fun c => c.1 == a) := by
  induction l with
  | nil => rfl
  | cons p t ih =>
    obtain ⟨j, v⟩ := p
    by_cases hj : j = k
    · subst hj
      have : (j == a) = false := by simpa using Ne.symm h
      simp [eraseKey, ih, this]
    · by_cases ha : j = a
      · subst ha; simp [eraseKey, hj]
      · have : (j == a) = false := by simpa using ha
        simp [eraseKey, hj, ih, this]

theorem find_eraseKey_self {α : Type} (k : Nat) (l : List (Nat × α)) : (eraseKey k l).find? (fun c => c.1 == k) = none := by
  induction l with
  | nil => rfl
  | cons p t ih =>
    obtain ⟨j, v⟩ := p
    by_cases hj : j = k
    · simpa [eraseKey, hj] using ih
    · have : (j == k) = false := by simpa using hj
      simp only [eraseKey, hj, if_false, List.find?_cons, this, ih]

theorem find_insertKey_ne {α : Type} {k a : Nat} (h : a ≠ k) (v : α) (l : List (Nat × α)) :
    (insertKey k v l).find? (fun c => c.1 == a) = l.find? (fun c => c.1 == a) := by
  have hk : (k == a) = false := by simpa using Ne.symm h
  induction l with
  | nil => simp [insertKey, hk]
  | cons p t ih =>
    obtain ⟨j, u⟩ := p
    by_cases hlt : k < j
    · simp [insertKey, hlt, hk]
    · by_cases ha : j = a
      · subst ha; simp [insertKey, hlt]
      · have : (j == a) = false := by simpa using ha
        simp [insertKey, hlt, ih, this]

theorem find_insertKey_self {α : Type} (k : Nat) (v : α) (l : List (Nat × α)) :
    (insertKey k v (eraseKey k l)).find? (fun c => c.1 == k) = some (k, v) := by
  induction l with
  | nil => simp [eraseKey, insertKey]
  | cons p t ih =>
    obtain ⟨j, u⟩ := p
    by_cases hj : j = k
    · simpa [eraseKey, hj] using ih
    · have hb : (j == k) = false := by simpa using hj
      by_cases hlt : k < j
      · simp [eraseKey, hj, insertKey, hlt]
      · simp [eraseKey, hj, insertKey, hlt, hb, ih]

@[simp] theorem State.memPut_rd (s : State) (a : Nat) (b : Byte) (r : Nat) : (s.memPut a b).rd r = s.rd r := rfl
@[simp] theorem State.memPut_regs (s : State) (a : Nat) (b : Byte) : (s.memPut a b).regs = s.regs := rfl
@[simp] theorem State.memPut_pending (s : State) (a : Nat) (b : Byte) : (s.memPut a b).pending = s.pending := rfl
@[simp] theorem State.memPut_pmem (s : State) (a : Nat) (b : Byte) : (s.memPut a b).pmem = s.pmem := rfl
@[simp] theorem State.memPut_memDefault (s : State) (a : Nat) (b : Byte) (c : Nat) : (s.memPut a b).memDefault c = s.memDefault c := rfl
@[simp] theorem State.memPut_chanOf (s : State) (a : Nat) (b : Byte) (c : Nat) : (s.memPut a b).chanOf c = s.chanOf c := rfl
@[simp] theorem State.memPut_offOf (s : State) (a : Nat) (b : Byte) (c : Nat) : (s.memPut a b).offOf c = s.offOf c := rfl

/-- A stored byte reads back. -/
@[simp] theorem State.memByte_memPut_self (s : State) (a : Nat) (b : Byte) : (s.memPut a b).memByte a = b := by
  unfold State.memByte State.memPut cellsPut
  by_cases h : s.memDefault a = some b
  · have hd : State.memDefault { s with mem := { s.mem with cells := eraseKey a s.mem.cells } } a = some b := h
    simp only [h, if_true, find_eraseKey_self, hd]
  · simp only [h, if_false, find_insertKey_self]

/-- Every other byte reads as before. -/
theorem State.memByte_memPut_ne (s : State) {a c : Nat} (h : c ≠ a) (b : Byte) : (s.memPut a b).memByte c = s.memByte c := by
  have hf : (cellsPut (s.memDefault a) a b s.mem.cells).find? (fun x => x.1 == c) = s.mem.cells.find? (fun x => x.1 == c) := by
    unfold cellsPut
    split
    · exact find_eraseKey_ne h _
    · rw [find_insertKey_ne h, find_eraseKey_ne h]
  unfold State.memByte
  show (match (cellsPut (s.memDefault a) a b s.mem.cells).find? (fun x => x.1 == c) with
    | some c => c.2
    | none => _) = _
  rw [hf]
  rfl

theorem cellsPut_rising (d : Option Byte) (a : Nat) (b : Byte) {l : List Host.Cell} (h : keysRising l = true) :
    keysRising (cellsPut d a b l) = true := by
  unfold cellsPut
  split
  · exact keysRising_eraseKey h
  · exact keysRising_insertKey (keysRising_eraseKey h) fun p hp => (mem_eraseKey hp).2

/-- A store keeps memory canonical. -/
theorem State.memPut_wf {s : State} (h : Memory.wf s = true) (a : Nat) (b : Byte) : Memory.wf (s.memPut a b) = true := by
  unfold Memory.wf at *
  simp only [Bool.and_eq_true, List.all_eq_true, decide_eq_true_eq] at *
  refine ⟨cellsPut_rising _ _ _ h.1, fun c hc => ?_⟩
  rw [State.memPut_memDefault]
  have hc' : c ∈ cellsPut (s.memDefault a) a b s.mem.cells := hc
  unfold cellsPut at hc'
  split at hc'
  · exact h.2 c (mem_eraseKey hc').1
  · rename_i hd
    rcases mem_insertKey hc' with rfl | hc'
    · exact hd
    · exact h.2 c (mem_eraseKey hc').1

/-- Storing a run of bytes keeps memory canonical. -/
theorem State.memPuts_wf {s : State} (h : Memory.wf s = true) (a : Nat) (l : List Byte) : Memory.wf (s.memPuts a l) = true := by
  induction l generalizing s a with
  | nil => exact h
  | cons b t ih => exact ih (State.memPut_wf h a b) (a + 1)

/-- A run of bytes stored touches registers not at all. -/
@[simp] theorem State.memPuts_rd (s : State) (a : Nat) (l : List Byte) (r : Nat) : (s.memPuts a l).rd r = s.rd r := by
  induction l generalizing s a with
  | nil => rfl
  | cons b t ih => exact ih (s.memPut a b) (a + 1)

/-- A byte outside a stored run reads as before. -/
theorem State.memByte_memPuts_ne (s : State) (a : Nat) (l : List Byte) (c : Nat) (h : c < a ∨ a + l.length ≤ c) :
    (s.memPuts a l).memByte c = s.memByte c := by
  induction l generalizing s a with
  | nil => rfl
  | cons b t ih =>
    simp only [List.length_cons] at h
    rw [State.memPuts, ih (s.memPut a b) (a + 1) (by omega), State.memByte_memPut_ne s (by omega)]

/-- A byte of a stored run reads as it was stored. -/
theorem State.memByte_memPuts_at (s : State) (a : Nat) (l : List Byte) (i : Nat) (h : i < l.length) :
    (s.memPuts a l).memByte (a + i) = l[i] := by
  induction l generalizing s a i with
  | nil => exact absurd h (Nat.not_lt_zero _)
  | cons b t ih =>
    cases i with
    | zero =>
      rw [State.memPuts, State.memByte_memPuts_ne _ _ _ _ (Or.inl (by omega))]
      exact State.memByte_memPut_self s a b
    | succ k =>
      have := ih (s.memPut a b) (a + 1) k (by simpa using h)
      rw [State.memPuts, show a + (k + 1) = a + 1 + k by omega, this]
      rfl

/-! ### Program memory -/

/-- A stored byte of program memory reads back. -/
@[simp] theorem State.pmemByte_pmemPut_self (s : State) (a : Nat) (b : Byte) : (s.pmemPut a b).pmemByte a = b :=
  lookupD_updateD_self _ _ _ _

/-- Every other byte of program memory reads as before. -/
theorem State.pmemByte_pmemPut_ne (s : State) {a c : Nat} (h : c ≠ a) (b : Byte) : (s.pmemPut a b).pmemByte c = s.pmemByte c :=
  lookupD_updateD_ne _ _ h _

/-- A store keeps program memory canonical. -/
theorem State.pmemPut_wf {s : State} (h : sparseWf (fun _ => 0#8) s.pmem = true) (a : Nat) (b : Byte) :
    sparseWf (fun _ => 0#8) (s.pmemPut a b).pmem = true := sparseWf_updateD h a b

end Sys2Proof.Machine
end

