-- ==== Sys2Proof/Laws/Touch.lean ====
section
/-! SUPPORT. Which registers a shared operation may write: `Touch P s t` says that every register outside `P` reads in `t` as it
did in `s`. -/
set_option Elab.async false
namespace Sys2Proof.Machine

/-- Every register that is not in `P` reads as before. -/
def Touch (P : Nat → Prop) (s t : State) : Prop := ∀ a, ¬ P a → t.rd a = s.rd a

theorem Touch.refl (P : Nat → Prop) (s : State) : Touch P s s := fun _ _ => rfl

theorem Touch.trans {P : Nat → Prop} {s t u : State} (h : Touch P s t) (g : Touch P t u) : Touch P s u :=
  fun a ha => (g a ha).trans (h a ha)

theorem Touch.mono {P Q : Nat → Prop} {s t : State} (h : Touch P s t) (hpq : ∀ a, P a → Q a) : Touch Q s t :=
  fun a ha => h a fun hp => ha (hpq a hp)

/-- States with the same registers. -/
theorem Touch.of_regs {P : Nat → Prop} {s t : State} (h : t.regs = s.regs) : Touch P s t := fun a _ => by
  unfold State.rd; rw [h]

theorem Touch.ite {P : Nat → Prop} {s t u : State} {c : Prop} [Decidable c] (h : Touch P s t) (g : Touch P s u) :
    Touch P s (if c then t else u) := by split <;> assumption

theorem Touch.wr {P : Nat → Prop} {s t : State} (h : Touch P s t) (a : Nat) (ha : P a) (v : Word) : Touch P s (t.wr a v) :=
  h.trans fun b hb => State.rd_wr_ne t (by rintro rfl; exact hb ha) v

theorem Touch.wn {P : Nat → Prop} {s t : State} (h : Touch P s t) (a : Nat) (ha : P a) (x : Nat) : Touch P s (t.wn a x) :=
  h.wr a ha _

theorem Touch.put {P : Nat → Prop} {s t : State} (h : Touch P s t) (a : Nat) (ha : P a) (f : Fld) (x : Nat) :
    Touch P s (t.put a f x) := h.wr a ha _

theorem Touch.bump {P : Nat → Prop} {s t : State} (h : Touch P s t) (a : Nat) (ha : P a) (n : Nat) : Touch P s (t.bump a n) :=
  h.wr a ha _

theorem Touch.wr64 {P : Nat → Prop} {s t : State} (h : Touch P s t) (a : Nat) (ha : P a) (hb : P (a + 4)) (x : Nat) :
    Touch P s (t.wr64 a x) := (h.wn a ha _).wn _ hb _

theorem Touch.setFlag {P : Nat → Prop} {s t : State} (h : Touch P s t) (a : Nat) (ha : P a) (f : Fld) : Touch P s (t.setFlag a f) :=
  h.trans fun b hb => State.rd_setFlag_ne t (by rintro rfl; exact hb ha) f

theorem Touch.setFlagIf {P : Nat → Prop} {s t : State} (h : Touch P s t) (c : Bool) (a : Nat) (ha : P a) (f : Fld) :
    Touch P s (t.setFlagIf c a f) := by
  unfold State.setFlagIf; split
  · exact h.setFlag a ha f
  · exact h

theorem Touch.clearFlags {P : Nat → Prop} {s t : State} (h : Touch P s t) (a : Nat) (ha : P a) (m : Word) :
    Touch P s (t.clearFlags a m) := h.trans fun b hb => State.rd_clearFlags_ne t (by rintro rfl; exact hb ha) m

theorem Touch.applyFields {P : Nat → Prop} {s t : State} (h : Touch P s t) (a : Nat) (ha : P a) (v : Word) :
    Touch P s (t.applyFields a v) := h.trans fun b hb => State.rd_applyFields_ne t (by rintro rfl; exact hb ha) v

/-- A state with the same registers as one reached. -/
theorem Touch.congr {P : Nat → Prop} {s t u : State} (h : Touch P s t) (e : u.regs = t.regs) : Touch P s u :=
  h.trans (Touch.of_regs e)

/-- A fold of operations over a list, each element of which satisfies `Q`. -/
theorem Touch.foldl {α : Type} {P : Nat → Prop} (Q : α → Prop) (f : State → α → State) (hf : ∀ s x, Q x → Touch P s (f s x))
    (l : List α) (hl : ∀ x ∈ l, Q x) (s : State) : Touch P s (l.foldl f s) := by
  induction l generalizing s with
  | nil => exact Touch.refl P s
  | cons x t ih =>
    exact (hf s x (hl x List.mem_cons_self)).trans (ih (fun y hy => hl y (List.mem_cons_of_mem _ hy)) (f s x))

theorem Touch.rd {P : Nat → Prop} {s t : State} (h : Touch P s t) {a : Nat} (ha : ¬ P a) : t.rd a = s.rd a := h a ha

theorem Touch.get {P : Nat → Prop} {s t : State} (h : Touch P s t) {a : Nat} (ha : ¬ P a) (f : Fld) : t.get a f = s.get a f := by
  unfold State.get; rw [h a ha]

/-! ### The error log -/

/-- MON_LOG_HEAD and MON_FLAGS. -/
def logRegs (a : Nat) : Prop := a = Reg.MON_LOG_HEAD ∨ a = Reg.MON_FLAGS

/-- What appending to the log does to the registers: MON_LOG_HEAD counts, and LOG_WRAP may set. -/
theorem State.addLog_regs (s : State) (c x i d : Nat) : ∃ b : Bool, (s.addLog c x i d).regs =
      ((s.wn Reg.MON_LOG_HEAD (s.rn Reg.MON_LOG_HEAD + 1)).setFlagIf b Reg.MON_FLAGS F.MON_FLAGS_LOG_WRAP).regs := by
  unfold State.addLog
  dsimp only
  split
  · refine ⟨false, ?_⟩
    simp [State.setFlagIf]
  · rename_i h
    refine ⟨!(s.wn Reg.MON_LOG_HEAD (s.rn Reg.MON_LOG_HEAD + 1)).logWrapped, ?_⟩
    unfold State.setFlagIf
    split <;> simp [State.setFlag, State.put, State.wr, State.rd, *]

theorem State.addLog_touch (s : State) (c x i d : Nat) : Touch logRegs s (s.addLog c x i d) := by
  obtain ⟨b, h⟩ := State.addLog_regs s c x i d
  exact (((Touch.refl _ s).wn _ (Or.inl rfl) _).setFlagIf b _ (Or.inr rfl) _).congr h

/-! ### The planner's registers -/

/-- The FAB block and the registers of the error log. -/
def fabRegs (a : Nat) : Prop := 0x10000 ≤ a ∧ a < 0x20000 ∨ logRegs a

theorem formMargins_touch (s : State) : Touch fabRegs s (formMargins s) := by
  unfold formMargins forRange
  split
  · exact Touch.refl _ s
  · refine Touch.foldl (fun r => r < 8) _ (fun s r hr => ?_) _ (fun x hx => List.mem_range.mp hx) s
    unfold formMargin
    dsimp only
    split <;> exact (Touch.refl _ s).wn _ (Or.inl ⟨by simp only [Reg.FAB_RMARGIN]; omega, by simp only [Reg.FAB_RMARGIN]; omega⟩) _

theorem refreshFabStatus_touch (s : State) : Touch fabRegs s (refreshFabStatus s) := by
  have h : fabRegs Reg.FAB_STATUS := Or.inl (by decide)
  exact (((Touch.refl _ s).put _ h _ _).put _ h _ _).put _ h _ _

theorem judgeFabFlags_touch (s : State) : Touch fabRegs s (judgeFabFlags s) := by
  have h : fabRegs Reg.FAB_FLAGS := Or.inl (by decide)
  unfold judgeFabFlags
  dsimp only
  refine Touch.congr ?_ rfl
  split
  · exact Touch.trans ((((Touch.refl fabRegs s).setFlagIf _ _ h _).setFlagIf _ _ h _).setFlag _ h _)
      ((State.addLog_touch _ _ _ _ _).mono fun a ha => Or.inr ha)
  · exact ((Touch.refl _ s).setFlagIf _ _ h _).setFlagIf _ _ h _

/-- Margins, status and flags formed again write the FAB block (and the log) only. -/
theorem State.fabRefresh_touch (s : State) : Touch fabRegs s s.fabRefresh :=
  ((formMargins_touch s).trans (refreshFabStatus_touch _)).trans (judgeFabFlags_touch _)

/-- Plans formed again write the FAB block (and the log) only. -/
theorem State.refreshPlans_touch (s : State) : Touch fabRegs s s.refreshPlans := by
  unfold State.refreshPlans forRange
  dsimp only
  split
  · exact Touch.refl _ s
  · refine Touch.trans ?_ (State.fabRefresh_touch _)
    refine Touch.foldl (fun r => r < 8) _ (fun u r hr => ?_) _ (fun x hx => List.mem_range.mp hx) s
    have h : fabRegs (Reg.FAB_RPLAN r) := Or.inl ⟨by simp only [Reg.FAB_RPLAN]; omega, by simp only [Reg.FAB_RPLAN]; omega⟩
    exact ((Touch.refl _ u).put _ h _ _).put _ h _ _

/-! ### Latencies of filter chains and trigger units -/

/-- The DCF and TRU blocks. -/
def latencyRegs (a : Nat) : Prop := 0x300000 ≤ a ∧ a < 0x500000

theorem refreshChain_touch (n : Nat) (hn : n < 32) (s : State) : Touch latencyRegs s (refreshChain n s) :=
  ((Touch.refl _ s).wn _ ⟨by simp only [Reg.DCF_GDELAY]; omega, by simp only [Reg.DCF_GDELAY]; omega⟩ _).wn _
    ⟨by simp only [Reg.DCF_LATENCY]; omega, by simp only [Reg.DCF_LATENCY]; omega⟩ _

theorem refreshLatency_touch (l : List Nat) (hl : ∀ u ∈ l, u < 32) (s : State) : Touch latencyRegs s (refreshLatency l s) :=
  Touch.foldl (fun u => u < 32) _ (fun t u hu => (Touch.refl _ t).wn _
    ⟨by simp only [Reg.TRU_LATENCY]; omega, by simp only [Reg.TRU_LATENCY]; omega⟩ _) l hl s

theorem State.chainUsers_lt (s : State) (n u : Nat) (h : u ∈ s.chainUsers n) : u < 32 := by
  simp only [State.chainUsers, State.latencyUsers, List.mem_flatMap, List.mem_filter, List.mem_range, List.mem_cons] at h
  obtain ⟨a, ⟨ha, -⟩, h⟩ := h
  rcases h with rfl | h
  · exact ha
  · exact h.1

end Sys2Proof.Machine
end

