-- ==== Sys2Proof/Tests/Slice0.lean ====
section
/-! SUPPORT. Tests: an ill-formed command for each check of WellFormed, and for each statement a state that meets the hypotheses of
its clauses together, with the effect seen there. Expected values come from the rules that the statements name. -/
set_option Elab.async false
namespace Sys2Proof.Tests
open Sys2Proof.Machine

/-- The command completes in a state with the property. -/
def runs (c : Instr) (s : State) (p : State → Bool) : Bool :=
  match exec c s with
  | .next t => p t
  | _ => false

/-- The command completes and leaves the state as it is. -/
def same (c : Instr) (s : State) : Bool := runs c s (fun t => decide (t = s))

/-- The state after power-on reset, and the device states that it can be put in. -/
abbrev z : State := State.reset
def inDev (d : Nat) : State := z.setDev d

/-- Every register outside the list reads as before. -/
def keeps (s t : State) (l : List Nat) : Bool :=
  t.regs.filter (fun p => !l.contains p.1) == s.regs.filter (fun p => !l.contains p.1)

/-- A message of interface 0, and a message cell. -/
def msg (n : Nat) (flags tag : Nat) : Msg :=
  { iface := 0, v6 := false, flags := BitVec.ofNat 16 flags, sess := 0#32, seq := 0#32, data := List.replicate n 0#8, tag := List.replicate tag 0#8 }
def cell (n : Nat) : Cell := ⟨0#8, 0#8, List.replicate n 0#8⟩

/-! ### WellFormed refuses -/

theorem test_wf_window_length : wellFormed (.measurementWindowEnd (List.replicate 255 1) 0) = false := by decide +kernel
theorem test_wf_window_range : wellFormed (.measurementWindowEnd (65536 :: List.replicate 255 1) 0) = false := by decide +kernel
theorem test_wf_window_ok : wellFormed (.measurementWindowEnd (List.replicate 256 65535) 0) = true := by decide +kernel

/-- Conversions of one port; a frame is 64 of them. -/
def conv (p n : Nat) : Nat × List Sample := (p, List.replicate n ⟨0#12, 0⟩)
theorem test_wf_conv_twice : wellFormed (.frameBoundary [conv 3 64, conv 3 64]) = false := by decide +kernel
theorem test_wf_conv_port : wellFormed (.timebaseFreeze [conv 16 64]) = false := by decide +kernel
theorem test_wf_conv_length : wellFormed (.frameBoundary [conv 3 63]) = false := by decide +kernel
theorem test_wf_conv_ok : wellFormed (.frameBoundary [conv 0 64, conv 15 64]) = true := by decide +kernel

theorem test_wf_access_addr : wellFormed (.memoryAccess ⟨2 ^ 41, 1, none, 0, none, 0, false⟩) = false := by decide +kernel
theorem test_wf_access_len : wellFormed (.memoryAccess ⟨0, 2 ^ 41, none, 0, none, 0, false⟩) = false := by decide +kernel

theorem test_wf_msg_length (n : Nat) (h : 65535 < n) : wellFormed (.openMsg (msg n 0 0)) = false := by
  simp [wellFormed, wfMsg, msg, h]
theorem test_wf_command_length (n : Nat) (h : 65534 < n) : wellFormed (.arm (msg n 0 0)) = false := by
  simp [wellFormed, wfMsg, msg, h]
theorem test_wf_msg_tag : wellFormed (.regRead (msg 4 1 15)) = false := by decide +kernel
theorem test_wf_msg_no_tag : wellFormed (.systemReset (msg 14 0 16)) = false := by decide +kernel
theorem test_wf_msg_ok : wellFormed (.keepalive (msg 0 1 16)) = true := by decide +kernel

theorem test_wf_echo (l : List Byte) (h : 9198 < l.length) : wellFormed (.echoRequest 0 false l) = false := by
  simp [wellFormed, h]
theorem test_wf_ptp (l : List Byte) (h : 9198 < l.length) : wellFormed (.ptpEventMessage ⟨0, true, 0, l, 0, none, 0⟩) = false := by
  simp [wellFormed, h]
theorem test_wf_frame (l : List Byte) (h : 9198 < l.length) : wellFormed (.unknownMessage 0 false l) = false := by
  simp [wellFormed, h]

theorem test_wf_trigger_cell : wellFormed (.triggerCell 0 (List.replicate 12 0)) = false := by decide +kernel
theorem test_wf_cell : wellFormed (.enumClaim (cell 9) false) = false ∧ wellFormed (.ptpmap (cell 11)) = false := by decide +kernel
theorem test_wf_cell_ok : wellFormed (.config (cell 10)) = true := by decide +kernel

theorem test_wf_bad_record : wellFormed (.bootStageEnd 0 { settings := [6] } 0) = false ∧ wellFormed (.bootStageEnd 0 { settings := [2 ^ 32] } 0) = false := by decide +kernel
theorem test_wf_temperature : wellFormed (.temperatureUpdate (List.replicate 7 0)) = false := by decide +kernel

/-! ### Witnesses: fabric, fast inputs -/

/-- The planner is due at the end of window 0, with the fabric's domain up. -/
def planState : State :=
  { ((inDev devConfigured).setDom domFab 2).wn Reg.FAB_WINDOW 1 with tick := 2 ^ 20, fab := { lastEnd := some (2 ^ 20) } }
def withMargins (a b : Nat) : State :=
  (((planState.put (Reg.FAB_RPLAN 0) F.FAB_RPLAN_PLAN 1).put (Reg.FAB_RMARGIN 0) F.FAB_RMARGIN_MARGIN 100).put
    Reg.FAB_THRESH_A F.FAB_THRESH_A_TARGET a).put Reg.FAB_THRESH_B F.FAB_THRESH_B_DOWN b

/-- Fast input port 0 in a state of R88, in CONFIGURED, its tile up and the clock locked. -/
def portState (x : Nat) : State :=
  ((((inDev devConfigured).setDom 0 2).put Reg.CKS_STATUS F.CKS_STATUS_LOCKED 1).put (Reg.FCH_STATUS 0) F.FCH_STATUS_STATE x).put
    (Reg.FCH_CTL 0) F.FCH_CTL_ENABLE (if x = 0 then 0 else 1)
/-- The hypotheses of a planner action (R60). -/
abbrev Due (s : State) : Prop :=
  s.domOn domFab = true ∧ s.dev ≠ devStandby ∧ s.on Reg.FAB_CTL F.FAB_CTL_PLAN_EN = true ∧ s.fab.lastEnd = some s.tick ∧
  s.fab.acted = false ∧ s.fab.staleWins = 0 ∧ 0 < s.rn Reg.FAB_WINDOW ∧
  (s.rn Reg.FAB_WINDOW - 1) % s.get Reg.FAB_PLAN_CTL F.FAB_PLAN_CTL_PERIOD = 0 ∧
  s.on Reg.FAB_STATUS F.FAB_STATUS_SETTLING = false ∧
  s.get Reg.FAB_VLIMIT F.FAB_VLIMIT_VMIN ≤ s.get Reg.FAB_VDDC F.FAB_VDDC_TARGET ∧
  s.get Reg.FAB_VDDC F.FAB_VDDC_TARGET ≤ s.get Reg.FAB_VLIMIT F.FAB_VLIMIT_VMAX

theorem witness_MarginWindowsAndLimits :
    (let s := { z with tick := 2 ^ 20 };
    s.tick % 2 ^ 20 = 0 ∧ s.fab.lastEnd ≠ some s.tick ∧ runs (.measurementWindowEnd [] 0) s (fun t => t.rn Reg.FAB_WINDOW == 1)) ∧
    (let s := { (((inDev devConfigured).setDom domFab 2).put Reg.FAB_STATUS F.FAB_STATUS_SETTLING 1).wn (Reg.FAB_RCAP 0) 5 with
      tick := 2 ^ 21, fab := { settleFrom := 2 ^ 20 } };
    s.tick % 2 ^ 20 = 0 ∧ s.on Reg.FAB_STATUS F.FAB_STATUS_SETTLING = true ∧ s.domOn domFab = true ∧ s.fab.settleFrom ≠ s.tick) ∧
    (let s := { z with tick := 2 ^ 20 - 1 }; s.tick % 2 ^ 20 ≠ 0 ∧ same (.measurementWindowEnd [] 0) s) ∧
    (z.fab.lastEnd = some z.tick ∧ same (.measurementWindowEnd [] 0) z) ∧
    (let s := z.put Reg.FAB_STATUS F.FAB_STATUS_SETTLING 1;
    s.fab.inFlight = false ∧ s.fab.retryDue = false ∧ 0 ≤ tickDiff s.tick s.fab.settleAt ∧ s.fab.limitMove = false ∧
      runs .settlingEnd s (fun t => !t.on Reg.FAB_STATUS F.FAB_STATUS_SETTLING)) ∧
    (z.on Reg.FAB_STATUS F.FAB_STATUS_SETTLING = false ∧ same .settlingEnd z ∧
      same .settlingEnd { z.put Reg.FAB_STATUS F.FAB_STATUS_SETTLING 1 with fab := { settleAt := 1 } }) ∧
    (let s := { (z.put Reg.FAB_CTL F.FAB_CTL_PLAN_EN 0).put Reg.FAB_STATUS F.FAB_STATUS_SETTLING 1 with
      fab := { limitMove := true } };
    let u := s.put Reg.FAB_VLIMIT F.FAB_VLIMIT_VMAX 790;
    u.fab.inFlight = false ∧ u.fab.retryDue = false ∧ 0 ≤ tickDiff u.tick u.fab.settleAt ∧
      runs .settlingEnd u (fun t => t.get Reg.FAB_VDDC F.FAB_VDDC_TARGET == 790)) ∧
    (let v : Word := BitVec.ofNat 32 (790 * 65536 + 650);
    let s := z.put Reg.FAB_CTL F.FAB_CTL_PLAN_EN 0;
    fldGet F.FAB_VLIMIT_VMIN v = 650 ∧ fldGet F.FAB_VLIMIT_VMAX v = 790 ∧ s.on Reg.FAB_CTL F.FAB_CTL_PLAN_EN = false ∧
      runs (.fabVlimitWrite v) s (fun t => t.get Reg.FAB_VDDC F.FAB_VDDC_TARGET == 790 && t.get Reg.FAB_VLIMIT F.FAB_VLIMIT_VMAX == 790)) ∧
    (fldGet F.FAB_VLIMIT_VMIN 649#32 = 649 ∧ runs (.fabVlimitWrite 649#32) z (fun t => t.rn Reg.HLK_REFUSED_ADDR == Reg.FAB_VLIMIT &&
      keeps z t [Reg.HLK_ERR, Reg.HLK_REFUSED_ADDR])) := by
  refine ⟨?_, ?_, ?_, ?_, ?_, ?_, ?_, ?_, ?_⟩ <;> decide +kernel

theorem witness_PlannerAndRail :
    (Due planState ∧ planState.get Reg.FAB_VDDC F.FAB_VDDC_TARGET = 800) ∧
    (let s := planState.put Reg.FAB_CTL F.FAB_CTL_FORCE_VMAX 1;
    Due s ∧ runs .plannerAction s (fun t => t.get Reg.FAB_VDDC F.FAB_VDDC_TARGET == 850 && t.fab.inFlight && t.fab.avsSent == 850)) ∧
    (let s := planState.put Reg.FAB_CTL F.FAB_CTL_HOLD 1;
    Due s ∧ runs .plannerAction s (fun t => t.get Reg.FAB_VDDC F.FAB_VDDC_TARGET == 800 && !t.fab.inFlight)) ∧
    (let s := withMargins 127 255;
    Due s ∧ (worstMargin s s.planned).1 < s.get Reg.FAB_THRESH_A F.FAB_THRESH_A_TARGET ∧ s.fab.condLow = false) ∧
    (let s := { withMargins 0 0 with fab := { lastEnd := some (2 ^ 20), downRun := 20 } };
    Due s ∧ s.get Reg.FAB_PLAN_CTL F.FAB_PLAN_CTL_DOWN_PERIODS ≤ s.fab.downRun + 1 ∧
      s.get Reg.FAB_THRESH_B F.FAB_THRESH_B_DOWN ≤ (worstMargin s s.planned).1) ∧
    (let s := withMargins 0 0;
    Due s ∧ s.fab.downRun + 1 < s.get Reg.FAB_PLAN_CTL F.FAB_PLAN_CTL_DOWN_PERIODS) ∧
    (let s := withMargins 0 255;
    Due s ∧ (worstMargin s s.planned).1 < s.get Reg.FAB_THRESH_B F.FAB_THRESH_B_DOWN) ∧
    (let s := planState.put Reg.FAB_CTL F.FAB_CTL_PLAN_EN 0; s.on Reg.FAB_CTL F.FAB_CTL_PLAN_EN = false ∧ same .plannerAction s) ∧
    (let s := planState.put Reg.FAB_STATUS F.FAB_STATUS_SETTLING 1;
    s.on Reg.FAB_STATUS F.FAB_STATUS_SETTLING = true ∧ same .plannerAction s) ∧
    (let s := { z with fab := { inFlight := true, tries := 2 } };
    runs (.avsWriteAck true) s (fun t => !t.fab.inFlight && t.fab.lastAck == 800 && t.get Reg.FAB_VDDC F.FAB_VDDC_MAX_SEEN == 800) ∧
      runs (.avsWriteAck false) s (fun t => t.fab.retryDue && t.fab.retryAt == 2 ^ 20 && keeps s t [Reg.FAB_AVS_ERRCNT])) ∧
    (let s := { z with fab := { inFlight := true, tries := 3, lastAck := 810 } };
    runs (.avsWriteAck false) s (fun t => t.on Reg.FAB_FLAGS F.FAB_FLAGS_AVS_FAULT && t.get Reg.FAB_VDDC F.FAB_VDDC_TARGET == 810 &&
      t.get Reg.FAB_AVS_ERRCNT F.FAB_AVS_ERRCNT_COUNT == 1 && !t.fab.inFlight)) ∧
    (z.fab.inFlight = false ∧ same (.avsWriteAck true) z) ∧
    (let s := { z with fab := { retryDue := true } };
    0 ≤ tickDiff s.tick s.fab.retryAt ∧ runs .avsRetry s (fun t => t.fab.inFlight && t.fab.tries == 1 && t.fab.avsSent == 800 &&
      t.on Reg.FAB_STATUS F.FAB_STATUS_SETTLING && keeps s t [Reg.FAB_STATUS])) ∧
    (z.fab.retryDue = false ∧ same .avsRetry z) := by
  refine ⟨?_, ?_, ?_, ?_, ?_, ?_, ?_, ?_, ?_, ?_, ?_, ?_, ?_, ?_⟩ <;> decide +kernel

theorem witness_PortLifecycle :
    (let s := portState 0;
    PortWriteLegal 0 (withEnable 0 true) s ∧ s.fchState 0 = 0 ∧ s.dev = devConfigured ∧ s.domOn 0 = true ∧ s.pwr.entering = none ∧
      runs (.portEnable 0 0) s (fun t => t.fchState 0 == 1 && t.on (Reg.FCH_CTL 0) F.FCH_CTL_ENABLE)) ∧
    (let v := fldSet F.FCH_CTL_MODE 0#32 3;
    let s := portState 0;
    ¬ PortWriteLegal 0 (withEnable v true) s ∧
      runs (.portEnable 0 v) s (fun t => keeps s t [Reg.HLK_ERR, Reg.HLK_GATED_ADDR, Reg.HLK_REFUSED_ADDR] && t.rd Reg.HLK_ERR != 0) ∧
      runs (.portDisable 0 v) s (fun t => keeps s t [Reg.HLK_ERR, Reg.HLK_GATED_ADDR, Reg.HLK_REFUSED_ADDR] && t.rd Reg.HLK_ERR != 0)) ∧
    (PortWriteLegal 0 (withEnable 0 false) (portState 1) ∧ (portState 1).standbyBlocked (Reg.FCH_CTL 0) = false ∧
      runs (.portDisable 0 0) (portState 1) (fun t => t.fchState 0 == 0)) ∧
    (PortWriteLegal 0 (withEnable 0 false) (portState 2) ∧ ((portState 2).fch 0).stopping = false ∧
      runs (.portDisable 0 0) (portState 2) (fun t => t.fchState 0 == 2 && (t.fch 0).stopAt == 1024 && (t.fch 0).stopping)) ∧
    (let s := { portState 1 with tick := 2048, lastFrame := 2048 };
    s.on Reg.CKS_STATUS F.CKS_STATUS_FROZEN = false ∧ s.fchState 0 = 1 ∧ isFrame s.tick = true) ∧
    ((portState 2).fchState 0 ≠ 1 ∧ same (.portReady 0) (portState 2)) ∧
    (isFrame 2047 = false ∧ same (.portReady 0) { portState 1 with tick := 2047 } ∧
      same (.portReady 0) ((portState 1).put Reg.CKS_STATUS F.CKS_STATUS_FROZEN 1)) ∧
    (let s := { (portState 2).setFch 0 { stopping := true, stopAt := 1024, nextFrame := 1024 } with tick := 1024 };
    tickBefore s.tick (s.fch 0).stopAt = false ∧ tickBefore (s.fch 0).nextFrame (s.fch 0).stopAt = false ∧
      s.on (Reg.FCH_CTL 0) F.FCH_CTL_ENABLE = true ∧ s.dev = devConfigured ∧ s.domOn 0 = true ∧ s.pwr.entering = none ∧
      runs (.portStop 0) s (fun t => t.fchState 0 == 1 && t.rd64 (Reg.FCH_STOP_TS_LO 0) == 1024)) ∧
    (let s := { ((portState 2).put (Reg.FCH_CTL 0) F.FCH_CTL_ENABLE 0).setFch 0 { stopping := true, stopAt := 1024, nextFrame := 1024 } with
      tick := 1024 };
    s.on (Reg.FCH_CTL 0) F.FCH_CTL_ENABLE = false ∧
      runs (.portStop 0) s (fun t => t.fchState 0 == 0 && t.rd64 (Reg.FCH_STOP_TS_LO 0) == 1024)) ∧
    (((portState 2).fch 0).stopping = false ∧ same (.portStop 0) (portState 2)) := by
  refine ⟨?_, ?_, ?_, ?_, ?_, ?_, ?_, ?_, ?_, ?_⟩ <;> decide +kernel

theorem witness_SamplesAndCounts :
    (let s := { portState 2 with tick := 1024 };
    tickBefore s.tick 1024 = false ∧ (s.fch 0).stopping = false ∧ ((s.fch 0).nextFrame + 1024) % 2 ^ 64 = 1024 ∧
    runs (.frameBoundary [(0, List.replicate 64 ⟨5#12, 0⟩)]) s (fun t => t.lastFrame == 1024 && t.tick == 1024 && t.fchState 0 == 2 &&
      (t.fch 0).nextFrame == 1024)) ∧
    (let s := { portState 2 with tick := 1023 }; tickBefore s.tick (s.lastFrame + 1024) = true ∧ same (.frameBoundary []) s) ∧
    (z.get (Reg.FCH_CTL 0) F.FCH_CTL_MODE = 0 ∧ sampleCode 0 0 ⟨2047#12, 0⟩ z = (131008, false) ∧
      sampleCode 0 0 ⟨2047#12, 1⟩ z = (131071, true) ∧ sampleCode 0 0 ⟨2048#12, 2⟩ z = (-131072, true)) ∧
    (let s := z.put (Reg.FCH_CTL 0) F.FCH_CTL_MODE 1;
    s.get (Reg.FCH_CTL 0) F.FCH_CTL_MODE = 1 ∧ sampleCode 0 16 ⟨0#12, 0⟩ s = (64 * (-2047), false)) ∧
    (let s := z.put (Reg.FCH_CTL 0) F.FCH_CTL_MODE 2;
    s.get (Reg.FCH_CTL 0) F.FCH_CTL_MODE = 2 ∧ sampleCode 0 16 ⟨0#12, 0⟩ s = (0, false)) ∧
    ((portState 2).portUp 0 = true ∧ runs (.ovrHard 0) (portState 2) (fun t => t.on (Reg.FCH_FLAGS 0) F.FCH_FLAGS_OVR_HARD)) ∧
    ((portState 0).portUp 0 = false ∧ same (.ovrHard 0) (portState 0)) ∧
    (z.standbyBlocked (Reg.FCH_CNTCLR 0) = false ∧
      runs (.fchClrLost 0) (z.wn (Reg.FCH_LOSTCNT 0) 7) (fun t => t.rn (Reg.FCH_LOSTCNT 0) == 0)) ∧
    (runs (.fchClrOvr 0) (z.wn (Reg.FCH_OVRCNT 0) 7) (fun t => t.rn (Reg.FCH_OVRCNT 0) == 0)) ∧
    ((z.bump (Reg.FCH_OVRCNT 0) 3).countNow (Reg.FCH_OVRCNT 0) = 3 ∧
      runs (.fchClrOvr 0) (z.bump (Reg.FCH_OVRCNT 0) 3) (fun t => t.rn (Reg.FCH_OVRCNT 0) == 3)) := by
  refine ⟨?_, ?_, ?_, ?_, ?_, ?_, ?_, ?_, ?_, ?_⟩ <;> decide +kernel

/-! ### Witnesses: calibration, filter chains -/

/-- Tile 0 with a calibration step of port 0 running. -/
def stepping (phase : Nat) (aborted : Bool) : State :=
  let s := portState 2
  let g := !aborted && (phase == 2 || phase == 3 || phase == 4)
  let r : CalStep := { port := 0, slice := 0, guarded := g, spare := 0, start := 0, phase := phase, aborted := aborted }
  { s with tick := 4194304, calTiles := [(0, { run := some r })] }

/-- Filter chain 0 in a state of R138. -/
def chainState (x : Nat) : State := (planState.put (Reg.DCF_STATUS 0) F.DCF_STATUS_STATE x).put (Reg.DCF_CTL 0) F.DCF_CTL_ENABLE 1

/-- A word named `n` ticks, and the queue of chain 0 with it. -/
def word (n : Nat) : QItem := .word { name := (n * 256 : Nat), w := 0#24 }
def withWord (s : State) : State := s.setQueue (qDcf 0) [word 1024]
def quad0 : Quad := ⟨0, 0, 0, 0⟩

theorem witness_CalibrationSteps :
    (let s := (portState 2).put (Reg.FCAL_CTL 0) F.FCAL_CTL_DEFER 1;
    s.schedules 0 = true ∧ s.tick % s.calInterval 0 = 0 ∧ (s.calPort 0).sched = false ∧ (s.calPort 0).lastDue ≠ some s.tick ∧
      runs (.stepDue 0) s (fun t => (t.calPort 0).sched && (t.calPort 0).lastDue == some 0 && keeps s t [Reg.FCAL_STATUS 0])) ∧
    ((portState 0).schedules 0 = false ∧ same (.stepDue 0) (portState 0)) ∧
    (let s := (portState 2).setCalPort 0 { sched := true, heldSince := some 0 };
    isFrame s.tick = true ∧ (s.calPort 0).released = false ∧ s.defers 0 = false ∧ s.notNormal 0 = false ∧
      runs (.stepRelease 0) s (fun t => (t.calPort 0).released && (t.calPort 0).heldSince == none && keeps s t [])) ∧
    (let s := ((portState 2).put (Reg.FCAL_CTL 0) F.FCAL_CTL_DEFER 2).setCalPort 0 { sched := true, heldSince := some 0 };
    s.defers 0 = false ∨ same (.stepRelease 0) s) ∧
    (let s := { (portState 2).setCalPort 0 { sched := true, heldSince := some 0 } with tick := 60 * 163840000000 };
    ((s.get (Reg.FCAL_DEFER_MAX 0) F.FCAL_DEFER_MAX_S * 163840000000 : Nat) : Int) ≤ tickDiff s.tick 0 ∧ s.notNormal 0 = false ∧
      runs (.deferExpired 0) s (fun t => (t.calPort 0).released && t.on (calFlags 0) F.FCAL_P_FLAGS_DEFER_EXPIRED && keeps s t [calFlags 0])) ∧
    ((z.calPort 0).heldSince = none ∧ same (.deferExpired 0) z) ∧
    (let s := (portState 2).setCalPort 0 { sched := true, released := true };
    (s.calTile 0).run = none ∧ s.nextPort 0 = some 0 ∧
      runs (.stepStart 0) s (fun t => t.on (Reg.FCAL_STATUS 0) F.FCAL_STATUS_ACTIVE && (t.fch 0).hold &&
        t.get (Reg.FCAL_STATUS 0) F.FCAL_STATUS_PHASE == 1)) ∧
    (let s := ((portState 2).put (Reg.FCAL_CTL 0) F.FCAL_CTL_GUARD 0).setCalPort 0 { sched := true, released := true };
    s.get (Reg.FCAL_CTL 0) F.FCAL_CTL_GUARD = 0 ∧ s.pickSpare 0 = some 0 ∧ s.nextPort 0 = some 0 ∧
      runs (.stepStart 0) s (fun t => t.get (Reg.FCAL_STATUS 0) F.FCAL_STATUS_PHASE == 2)) ∧
    (1536 * 1024 ≤ tickDiff (stepping 1 false).tick 0 ∧ 0 < (stepping 1 false).nSlices 0 ∧ ((stepping 1 false).calTile 0).run.isSome = true) ∧
    (tickDiff { stepping 1 false with tick := 1536 * 1024 - 1 }.tick 0 < 1536 * 1024 ∧
      same (.stepEnd 0 quad0 quad0) { stepping 1 false with tick := 1536 * 1024 - 1 }) ∧
    (agree quad0 quad0 = true ∧ agree quad0 ⟨30000, 0, 0, 0⟩ = false ∧ 1536 * 1024 ≤ tickDiff (stepping 2 false).tick 0) ∧
    (let s := stepping 2 false; let x := subQ (readTrims s (Reg.FCAL_SP_TRIMA 0 0)) (meanSteps quad0 quad0); clampQ x = x) ∧
    ((stepping 3 false).tick = 4194304 ∧ 3072 * 1024 ≤ tickDiff (stepping 3 false).tick 0) ∧
    (let s := stepping 4 false;
    0 ≤ tickDiff s.tick 0 ∧ (s.calTile 0).run.map CalStep.guarded = some true ∧ (s.calTile 0).run.map CalStep.aborted = some false) := by
  refine ⟨?_, ?_, ?_, ?_, ?_, ?_, ?_, ?_, ?_, ?_, ?_, ?_, ?_, ?_⟩ <;> decide +kernel

theorem witness_CalibrationCommands :
    ((portState 2).fchState 0 = 2 ∧ (portState 2).notNormal 0 = false ∧ ((portState 2).calPort 0).cmd = 0 ∧
      (portState 2).standbyBlocked (Reg.FCAL_CMD 0) = false ∧
      runs (.fcalStep 0) (portState 2) (fun t => (t.calPort 0).cmd == 1 && keeps (portState 2) t [Reg.FCAL_STATUS 0]) ∧
      runs (.fcalFull 0) (portState 2) (fun t => (t.calPort 0).cmd == 2)) ∧
    ((portState 0).fchState 0 ≠ 2 ∧ runs (.fcalStep 0) (portState 0) (fun t => t.on Reg.HLK_ERR F.HLK_ERR_STATE) ∧
      runs (.fcalFull 0) (portState 0) (fun t => t.on Reg.HLK_ERR F.HLK_ERR_STATE)) ∧
    (runs (.fcalAbort 0) (stepping 1 false) (fun t =>
      t.on (calFlags 0) F.FCAL_P_FLAGS_STEP_ABANDONED && (t.calTile 0).run.map CalStep.endAt == some ((4096 + 64) * 1024))) ∧
    ((portState 2).calBusy 0 = false ∧ same (.fcalAbort 0) (portState 2)) ∧
    (((stepping 4 true).calTile 0).run.map CalStep.aborted = some true ∧ 0 ≤ tickDiff (stepping 4 true).tick 0) := by
  refine ⟨?_, ?_, ?_, ?_, ?_⟩ <;> decide +kernel

theorem witness_FilterChainRuns :
    (ChainWriteLegal 0 (withEnable 0 true) planState ∧ planState.standbyBlocked (Reg.DCF_CTL 0) = false ∧
      runs (.chainEnable 0 0) planState (fun t => t.dcfState 0 == 1)) ∧
    (ChainWriteLegal 0 (withEnable 0 false) (chainState 3) ∧ runs (.chainDisable 0 0) (chainState 3) (fun t => t.dcfState 0 == 0)) ∧
    (let s := withWord (chainState 1);
    s.ackHeld (s.get (Reg.DCF_CTL 0) F.DCF_CTL_SRC) (s.queue (qDcf 0)) = false ∧ s.settleCount 0 < 2 ^ 32 ∧ (s.queue (qDcf 0)).length = 1) ∧
    (let s := chainState 3;
    s.dcfState 0 = 3 ∧ s.standbyBlocked (Reg.DCF_CMD 0) = false ∧ (s.dcf 0).lastIn = none ∧
      runs (.dcfSync 0) s (fun t => (t.dcf 0).sync && keeps s t []) ∧
      runs (.dcfSyncAt 0) s (fun t => t.on (Reg.DCF_STATUS 0) F.DCF_STATUS_SYNC_PENDING && (t.dcf 0).syncAt == some 0)) ∧
    (let s := (chainState 3).setDcf 0 { lastIn := some 5 };
    runs (.dcfSyncAt 0) s (fun t => (t.dcf 0).late && (t.dcf 0).syncAt == none && !t.on (Reg.DCF_STATUS 0) F.DCF_STATUS_SYNC_PENDING)) ∧
    (let s := ((chainState 3).setDcf 0 { lastIn := some 5 }).wr64 (Reg.DCF_SYNC_TS_LO 0) 6;
    runs (.dcfSyncAt 0) s (fun t => (t.dcf 0).syncAt == some 6 && t.on (Reg.DCF_STATUS 0) F.DCF_STATUS_SYNC_PENDING)) ∧
    ((chainState 1).dcfState 0 = 1 ∧ same (.dcfSync 0) (chainState 1) ∧ same (.dcfSyncAt 0) (chainState 1)) ∧
    (let s := (withWord (chainState 3)).setDcf 0 { syncAt := some 1024 };
    s.ackHeld (s.get (Reg.DCF_CTL 0) F.DCF_CTL_SRC) (s.queue (qDcf 0)) = false ∧ 0 ≤ sext 64 (unsx 64 ((1024 * 256 : Int) / 256 - (1024 : Nat)))) ∧
    (let s := (withWord (chainState 3)).setDcf 0 { late := true }; (s.dcf 0).late = true ∧ s.dcfState 0 = 3) ∧
    (let s := (withWord (chainState 3)).setDcf 0 { syncAt := some 1025 };
    sext 64 (unsx 64 ((1024 * 256 : Int) / 256 - (1025 : Nat))) < 0 ∧ runs (.syncAtReached 0) s (fun t => (t.dcf 0).syncAt == some 1025)) := by
  refine ⟨?_, ?_, ?_, ?_, ?_, ?_, ?_, ?_, ?_, ?_⟩ <;> decide +kernel

theorem witness_FilterChainWords :
    ((chainState 1).queue (qDcf 0) = [] ∧ runs (.chainWord 0) (chainState 1) (fun t => t.dcfState 0 == 1)) ∧
    (let s := (chainState 2).setQueue (qDcf 0) [.endStream];
    s.dcfState 0 = 2 ∧ runs (.chainWord 0) s (fun t => t.dcfState 0 == 1)) ∧
    ((chainState 2).rn (Reg.DCF_SETTLE_LEFT 0) = 0 ∧ runs (.settlingComplete 0) (chainState 2) (fun t => t.dcfState 0 == 3 &&
      t.on (Reg.DCF_FLAGS 0) F.DCF_FLAGS_SETTLED)) ∧
    ((chainState 3).dcfState 0 ≠ 2 ∧ same (.settlingComplete 0) (chainState 3)) ∧
    (let s := (chainState 3).setDcf 0 { blkDone := some (0, true), d := 64 };
    runs (.dcbBlockEnd 0) s (fun t => (t.dcf 0).d == 60 && t.get (Reg.DCF_DCB_EST 0) F.DCF_DCB_EST_EST == 60 && keeps s t [Reg.DCF_DCB_EST 0])) ∧
    (let s := (chainState 3).setDcf 0 { blkDone := some (0, false), d := 64 };
    runs (.dcbBlockEnd 0) s (fun t => (t.dcf 0).d == 64 && (t.dcf 0).blkDone == none && keeps s t [])) := by
  refine ⟨?_, ?_, ?_, ?_, ?_, ?_⟩ <;> decide +kernel

/-! ### Witnesses: triggers, polders, accumulators, precision inputs, stimulus, timing ports -/

/-- The timebase runs in CONFIGURED; the fabric is up. -/
def live : State :=
  ((planState.put Reg.CKS_STATUS F.CKS_STATUS_LOCKED 1).setDom domStim 2).setDom domPrec 2

/-- Trigger unit 0 enabled, of a type of R141, at tick 4096. -/
def unitState (type : Nat) : State :=
  { (live.put (Reg.TRU_CTL 0) F.TRU_CTL_ENABLE 1).put (Reg.TRU_CTL 0) F.TRU_CTL_TYPE type with tick := 4096 }
def withItems (s : State) (l : List QItem) : State := s.setQueue (qTru 0) l
def tagged (tag : Nat) : QItem := .word { name := 0, w := BitVec.ofNat 24 tag }

/-- Group 0 in a state of R36, with a ring at slot 0 that is opened, or not, and four slots. -/
def aRing : PolRing := { slot := 0, base := 0, acq := 1, openTs := 0, strs := [] }
def groupState (x : Nat) (r : PolRing) : State :=
  (((live.setGst 0 x).setRings 0 [r]).put (Reg.POL_G_NPOLD 0) F.POL_G_NPOLD_N 3)
def aTrig : Trig := ⟨0, 0, false, false, false, false, 0⟩

/-- Converter 0 in a state of R208, with an entry run. -/
def aRun (n : Nat) (urg : Bool) : PcvRun := { entry := 0, word := 0#32, start := 0, count := some n, cause := 0, urg := urg, done := n }
def pcvState' (x : Nat) (r : Option PcvRun) : State :=
  ((({ live with tick := 2 ^ 40 }.put (Reg.PCV_CTL 0) F.PCV_CTL_ENABLE 1).put (Reg.PCV_STATUS 0) F.PCV_STATUS_STATE x).setPcv 0 { run := r })

/-- Stimulus output 0 in a state of R238, and timing port 0 in a mode. -/
def stoState' (x : Nat) : State := (live.put (Reg.STO_CTL 0) F.STO_CTL_ENABLE 1).put (Reg.STO_STATUS 0) F.STO_STATUS_STATE x
def tptState' (mode x : Nat) : State :=
  { (live.put (Reg.TPT_CTL 0) F.TPT_CTL_MODE mode).put (Reg.TPT_STATUS 0) F.TPT_STATUS_STATE x with tick := 256 }

theorem witness_TriggerUnits :
    (let s := withItems (unitState 0) [word 1];
    s.truOn 0 = true ∧ isStreamType (s.truType 0) = true ∧ s.ackHeld (s.get (Reg.TRU_CTL 0) F.TRU_CTL_SRC) (s.queue (qTru 0)) = false ∧
      runs (.truWord 0) s (fun t => (t.tru 0).seen && t.queue (qTru 0) == [] && (t.tru 0).prev == some (256, 0, false))) ∧
    ([tagGAP, tagSETTLE, tagFLT].all (fun g => (List.range 64).any (fun k => match tagged k with
      | .word q => hasTag (wTags q.w) g
      | _ => false)) = true) ∧
    (z.queue (qTru 0) = [] ∧ same (.truWord 0) z) ∧
    ((unitState 0).timebaseRuns = true ∧ (unitState 0).standbyBlocked (Reg.TRU_CMD 0) = false ∧ runs (.force 0) (unitState 0) (fun t =>
      t.rn (Reg.TRU_TRIGCNT 0) == 1 && t.rd64 (Reg.TRU_LAST_TS_LO 0) == 4096 && t.rn (Reg.TRU_LAST_INFO 0) == 1024)) ∧
    (let s := ((unitState 0).put (Reg.TRU_CTL 0) F.TRU_CTL_GROUP_EN 1).wn (Reg.TRU_STATUS 0) 0x30;
    s.groupOf (Reg.TRU_STATUS 0) < 16 ∧ runs (.force 0) s (fun t => t.trigs (s.groupOf (Reg.TRU_STATUS 0)) ==
      [({ ts := (s.now256 : Nat), unit := 0, forced := true } : Trig)])) ∧
    (let s := (unitState 0).put Reg.CKS_STATUS F.CKS_STATUS_LOCKED 0;
    s.truOn 0 = true ∧ s.timebaseRuns = false ∧ runs (.force 0) s (fun t => t.rn (Reg.TRU_NACCCNT 0) == 1 &&
      t.on (Reg.TRU_FLAGS 0) F.TRU_FLAGS_NOT_ACCEPTED && keeps s t [Reg.TRU_NACCCNT 0, Reg.TRU_FLAGS 0])) ∧
    (live.truOn 0 = false ∧ same (.force 0) live) ∧
    (let s := (unitState 0).setTru 0 { holdTo := some 4096 };
    (s.tru 0).holdN = 0 ∧ tsBefore (s.now256 : Nat) 4096 = false ∧ runs (.holdoffEnd 0) s (fun t =>
      t.get (Reg.TRU_STATUS 0) F.TRU_STATUS_STATE == 1 && keeps s t [Reg.TRU_STATUS 0])) ∧
    (let s := (unitState 5).setTru 0 { holdN := 3 };
    runs (.clearHold 0) s (fun t => (t.tru 0).holdN == 0 && t.get (Reg.TRU_STATUS 0) F.TRU_STATUS_STATE == 2 && keeps s t [Reg.TRU_STATUS 0])) ∧
    ((live.tru 0).holdTo = none ∧ same (.holdoffEnd 0) live) ∧
    (runs (.truCntclr 0) (live.wn (Reg.TRU_DEADCNT 0) 3) (fun t => t.rn (Reg.TRU_DEADCNT 0) == 0)) := by
  refine ⟨?_, ?_, ?_, ?_, ?_, ?_, ?_, ?_, ?_, ?_, ?_⟩ <;> decide +kernel

theorem witness_CoincidenceAndChainTriggers :
    (let s := (unitState 5).setTru 0 { evts := [⟨0, 3, 3, 0⟩], ends := [(3, 0)], seenM := [(3, true)] };
    tsBefore (tsWrap ((s.now256 : Int) - (((s.rn (Reg.TRU_LATENCY 0) - 256) * 256 : Nat) : Int))) 0 = false ∧ s.truType 0 = 5 ∧
      tsBefore 0 (lookupD (fun _ => (0 : Int)) (s.tru 0).ends 3) = false ∧
      runs (.coincidenceExpiry 0) s (fun t => !lookupD (fun _ => false) (t.tru 0).seenM 3)) ∧
    (same (.coincidenceExpiry 0) live ∧ same (.coincidenceExpiry 0) (unitState 0)) ∧
    (let s := { unitState 8 with chn := { (unitState 8).chn with await := [⟨0, 4096, 77⟩] } };
    (s.tru 0).lastPass = none ∧ (s.tru 0).holdTo = none ∧ s.truType 0 = 8 ∧ s.timebaseRuns = true ∧
      runs .chainTriggerRelease s (fun t => t.rn (Reg.TRU_TRIGCNT 0) == 1 && t.rd64 (Reg.TRU_LAST_TS_LO 0) == 4096)) ∧
    (let s := { unitState 8 with chn := { (unitState 8).chn with await := [⟨5, 4096, 77⟩] } };
    runs .chainTriggerRelease s (fun t => t.chn.await.isEmpty && t.rn (Reg.TRU_TRIGCNT 0) == 0)) ∧
    (let s := { unitState 8 with chn := { (unitState 8).chn with await := [⟨0, 4097, 77⟩] } };
    tickBefore s.tick 4097 = true ∧ same .chainTriggerRelease s) := by
  refine ⟨?_, ?_, ?_, ?_, ?_⟩ <;> decide +kernel

theorem witness_GroupsTakeTriggers :
    (let s := groupState gArming aRing;
    s.gst 0 = gArming ∧ s.armReady 0 = true ∧ runs (.armingComplete 0) s (fun t => t.gst 0 == gArmed)) ∧
    (z.armReady 0 = false ∧ z.gst 0 ≠ gArming ∧ same (.armingComplete 0) z) ∧
    (let s := (groupState gArmed aRing).setTrigs 0 [aTrig];
    let x := s.wn (Reg.POL_G_POST_T_LO 0) 5;
    x.gst 0 = gArmed ∧ x.openRing 0 = none ∧ (x.ringsOf 0).find? (fun r => !r.opened) = some aRing ∧
      aRing.openTs ≠ aTrig.ts + ((x.postT 0 * 256 : Nat) : Int) ∧
      tsBefore (x.now256 : Nat) (aTrig.ts + ((x.alignLatency 0 * 256 : Nat) : Int)) = false ∧
      runs (.triggerTaken 0) x (fun t => t.gst 0 == gFilling && (t.ringsOf 0).any (fun p => p.opened && p.prim == aTrig && p.slot == 0))) ∧
    (let s := (groupState gFilling { aRing with opened := true, b := 256 }).setTrigs 0 [aTrig];
    s.openRing 0 = some { aRing with opened := true, b := 256 } ∧ tsBefore aTrig.ts 256 = true ∧
      runs (.triggerTaken 0) s (fun t => (t.ringsOf 0).map PolRing.secs == [[aTrig]])) ∧
    (let s := live.setTrigs 0 [aTrig]; s.gst 0 ≠ gArmed ∧ s.gst 0 ≠ gFilling ∧
      runs (.triggerTaken 0) s (fun t => t.rn (Reg.TRU_NACCCNT 0) == 1 && t.trigs 0 == [])) ∧
    (let l : Int := live.now256; let s := live.setTrigs 0 [{ aTrig with ts := l + 1 }]; same (.triggerTaken 0) s) := by
  refine ⟨?_, ?_, ?_, ?_, ?_, ?_⟩ <;> decide +kernel

theorem witness_PolderCloses :
    (let r := { aRing with opened := true, b := 0 };
    let s := groupState gFilling r;
    s.openRing 0 = some r ∧ s.closeDue 0 r = true ∧ (s.slotAfter 0 0).isSome = true ∧ s.handoverDue 0 = false ∧
      runs (.polderClose 0) s (fun t => t.gst 0 == gArmed)) ∧
    (let s := groupState gFilling { aRing with opened := true, b := 0, slot := 3 };
    s.slotAfter 0 3 = none ∧ runs (.polderClose 0) s (fun t => t.gst 0 == gHalting)) ∧
    (z.gst 0 ≠ gFilling ∧ z.openRing 0 = none ∧ same (.polderClose 0) z) ∧
    (let r := { aRing with opened := true, b := 0 };
    let s := (groupState gFilling r).put (Reg.CFG_G_SHADOW 0) F.CFG_G_SHADOW_PENDING 1;
    let s := { s with cfg := { s.cfg with handAt := some s.rt } };
    s.handoverDue 0 = true ∧ s.handBusy 0 = true ∧ same (.polderClose 0) s) := by
  refine ⟨?_, ?_, ?_, ?_⟩ <;> decide +kernel

theorem witness_PolderSeals :
    (let s := groupState gHalting { aRing with close := some (2, 0), written := true, opened := true, sealing := true };
    s.mem.spill = [] ∧ ((s.ringsOf 0).find? (fun r => r.close.isSome)).isSome = true ∧ (∀ r ∈ s.ringsOf 0, r.dikeOwed = false) ∧
      runs (.polderSeal 0) s (fun t => t.gst 0 == gHalted && t.on (Reg.POL_G_FLAGS 0) F.POL_G_FLAGS_SEALED && t.ringsOf 0 == [])) ∧
    (let s := (groupState gHalting { aRing with close := some (2, 0), written := true, opened := true }).setPhase 0 phReady;
    s.sluiceHeld = false ∧ s.nChan ≤ 8 ∧ (∀ m < 8, (s.mch m).throttled = [])) ∧
    (let s := (List.range 8).foldl (fun s m => s.setPhase m phReady) live; ∀ m < 8, s.phase m = phReady) := by
  refine ⟨?_, ?_, ?_⟩ <;> decide +kernel

theorem witness_PolderWords :
    (let s := { live with streams := [⟨0, 0, 0, 0, 0, 0, 0, 0, 0⟩], queues := [(qStream 0, [.endStream])] };
    s.queue (qStream 0) = [.endStream] ∧ s.ackHeld 0 [.endStream] = false ∧
      runs (.polderWord 0 true) s (fun t => t.queue (qStream 0) == [] && (t.dec 0).cnt == 0)) ∧
    (let s := { live with streams := [⟨0, 0, 0, 0, 0, 0, 0, 0, 0⟩] }; s.queue (qStream 0) = [] ∧ same (.polderWord 0 true) s) ∧
    (let r := { aRing with strs := [⟨0, ⟨0, 0, 0, 0, 0, 0, 0, 0, 0⟩, 1, 0, false, 0, [], [], []⟩] };
    let s := { groupState gArmed r with streams := [⟨0, 0, 0, 0, 0, 0, 0, 0, 0⟩], queues := [(qStream 0, [word 1])] };
    let t := s.put Reg.POL_STATUS F.POL_STATUS_SLUICE_CLOSED 1;
    t.sluiceClosed = true ∧ r.takes 256 = true ∧
      runs (.polderWord 0 false) t (fun u => u.rn Reg.POL_SLUICE_LOST == 1 && u.rn (Reg.POL_G_LOSTCNT 0) == 1 && (u.dec 0).gapOwed &&
        keeps t u [Reg.POL_SLUICE_LOST, Reg.POL_G_LOSTCNT 0, Reg.POL_G_FLAGS 0, Reg.MON_AV_DOWN_LO 0, Reg.MON_AV_DOWN_LO 0 + 4])) ∧
    (let s := (live.put (Reg.POL_G_NPOLD 0) F.POL_G_NPOLD_N 3);
    s.dikeState 0 0 ≠ 2 ∧ same (.slotRelease 0 0) s ∧ s.nPold 0 ≤ 4 ∧ same (.slotRelease 0 4) s ∧
      s.standbyBlocked (Reg.POL_G_RELEASE 0) = false) ∧
    ((∀ m < 8, live.phase m ≠ phFault) ∧ live.nChan ≤ 8) ∧
    (let s := z.put Reg.POL_STATUS F.POL_STATUS_SLUICE_CLOSED 1;
    s.sluiceClosed = true ∧ (drainSpill s).spillKib ≤ s.get Reg.POL_SPILL_RESUME F.POL_SPILL_RESUME_KIB ∧
      runs .sluiceReopen s (fun t => !t.sluiceClosed)) ∧
    (z.sluiceClosed = false ∧ same .sluiceReopen z) ∧
    (runs .polCntclr (z.wn Reg.POL_SLUICE_LOST 3) (fun t => t.rn Reg.POL_SLUICE_LOST == 0)) := by
  refine ⟨?_, ?_, ?_, ?_, ?_, ?_, ?_, ?_⟩ <;> decide +kernel

theorem witness_WaveformAccumulators :
    (let s := ((live.setWac 0 { cap := some ⟨0, 0, []⟩ }).put (Reg.WAC_STATUS 0) F.WAC_STATUS_STATE 2).put (Reg.WAC_LEN 0) F.WAC_LEN_VALUE 1;
    let u := s.setQueue (qWac 0) [word 1];
    u.wacState 0 = 2 ∧ u.wacDram 0 = false ∧ u.wacLen 0 = 1 ∧ (u.wac 0).hurt = false ∧ (u.wac 0).merge = none ∧
      runs (.wacCaptureEnd 0) u (fun t => t.wacState 0 == 1 && (t.wac 0).merge.isSome && t.on (Reg.WAC_STATUS 0) F.WAC_STATUS_MERGING) ∧
      runs (.wacCaptureEnd 0) s (fun t => t.wacState 0 == 2)) ∧
    (let s := ((live.setWac 0 { cap := some ⟨0, 0, []⟩ }).put (Reg.WAC_STATUS 0) F.WAC_STATUS_STATE 2).put (Reg.WAC_LEN 0) F.WAC_LEN_VALUE 1;
    let u := s.setQueue (qWac 0) [.word { name := 256, w := BitVec.ofNat 24 63 }];
    runs (.wacCaptureEnd 0) u (fun t => t.wacState 0 == 1 && (t.wac 0).merge.isNone && t.rn (Reg.WAC_REJCNT 0) == 1 &&
      t.on (Reg.WAC_FLAGS 0) F.WAC_FLAGS_REJECTED)) ∧
    (let s := live.setWac 0 { merge := some ⟨5, 0, [{ w := 7#24, name := 0 }]⟩ };
    s.wacDram 0 = false ∧ s.wacEnv 0 = false ∧ s.rn (Reg.WAC_COUNT 0) = 0 ∧ (s.wac 0).hurt = false ∧
      runs (.wacMergeEnd 0) s (fun t => t.rn (Reg.WAC_COUNT 0) == 1 && (t.wac 0).sums.length == 1 && (t.wac 0).first == 5)) ∧
    (let s := (live.wn (Reg.WAC_COUNT 0) 1).setWac 0 { sums := [3], merge := some ⟨5, 0, [{ w := BitVec.ofNat 24 (7 * 64), name := 0 }]⟩ };
    runs (.wacMergeEnd 0) s (fun t => t.rn (Reg.WAC_COUNT 0) == 2 && (t.wac 0).sums == [3 + wData (BitVec.ofNat 24 (7 * 64))])) ∧
    ((z.wac 0).merge = none ∧ same (.wacMergeEnd 0) z) ∧
    (let s := live.put (Reg.WAC_CTL 0) F.WAC_CTL_ENABLE 1;
    s.wacOn 0 = true ∧ s.wacResultBad 0 = true ∧ s.standbyBlocked (Reg.WAC_CMD 0) = false ∧
      runs (.wacFlush 0) s (fun t => t.on Reg.HLK_ERR F.HLK_ERR_REFUSED)) ∧
    (live.wacOn 0 = false ∧ same (.wacFlush 0) live) ∧
    (runs (.wacClear 0) ((live.put (Reg.WAC_CTL 0) F.WAC_CTL_ENABLE 1).wn (Reg.WAC_REJCNT 0) 4) (fun t =>
      t.rn (Reg.WAC_REJCNT 0) == 0 && t.wacState 0 == 1)) := by
  refine ⟨?_, ?_, ?_, ?_, ?_, ?_, ?_, ?_⟩ <;> decide +kernel

theorem witness_ConverterStarts :
    (((pcvState' 1 none).pcv 0).ending = none ∧ (pcvState' 1 none).standbyBlocked (Reg.PCV_CMD 0) = false ∧
    (pcvState' 1 none).startSrc 0 ≠ 3 ∧ runs (.pcvStart 0) (pcvState' 1 none) (fun t =>
      (t.pcv 0).starts == [(pcvState' 1 none).edgeFrom 0 ((pcvState' 1 none).tick + (pcvState' 1 none).rn (Reg.PCV_DELAY 0))])) ∧
    (let s := (pcvState' 1 none).put (Reg.PCV_CTL 0) F.PCV_CTL_START_SRC 1;
    s.startSrc 0 = 1 ∧ s.timebaseRuns = true ∧ runs (.pcvTimerDue 0) s (fun t => (t.pcv 0).starts.length == 1)) ∧
    (let s := { (pcvState' 1 none).put (Reg.PCV_CTL 0) F.PCV_CTL_START_SRC 1 with tick := 0 }; same (.pcvTimerDue 0) s) ∧
    (let s := (pcvState' 1 none).setPcv 0 { starts := [0] };
    earliest (s.pcv 0).starts = some 0 ∧ s.startsAllowed 0 = true ∧ s.pcvState 0 = 1 ∧
      runs (.startTakesEffect 0) s (fun t => t.pcvState 0 == 2 && (t.pcv 0).starts == [] && keeps s t [Reg.PCV_STATUS 0])) ∧
    (let s := (pcvState' 2 none).setPcv 0 { starts := [0], run := some { aRun 9 false with done := 0 } };
    s.runEnd 0 { aRun 9 false with done := 0 } = none ∧ s.pcvQueued 0 = false ∧ runs (.startTakesEffect 0) s (fun t => t.pcvQueued 0)) ∧
    (let s := ((pcvState' 2 none).put (Reg.PCV_STATUS 0) F.PCV_STATUS_QUEUED 1).setPcv 0 { starts := [0], run := some { aRun 9 false with done := 0 } };
    s.pcvQueued 0 = true ∧ runs (.startTakesEffect 0) s (fun t => t.rn (Reg.PCV_TRIG_OVERRUN 0) == 1 &&
      keeps s t [Reg.PCV_TRIG_OVERRUN 0, Reg.PCV_FLAGS 0])) ∧
    (let s := (pcvState' 1 none).setPcv 0 { starts := [2 ^ 41] }; tickBefore s.tick (2 ^ 41) = true ∧ same (.startTakesEffect 0) s) ∧
    ((pcvState' 1 none).urgBusy 0 = false ∧ runs (.pcvUrgent 0) (pcvState' 1 none) (fun t => (t.pcv 0).urgent.isSome &&
      t.on (Reg.PCV_STATUS 0) F.PCV_STATUS_URG_PENDING)) ∧
    (let s := ((pcvState' 1 none).put (Reg.PCV_STATUS 0) F.PCV_STATUS_URG_PENDING 1).setPcv 0 { urgent := some 0 };
    s.urgBusy 0 = true ∧ runs (.pcvUrgent 0) s (fun t => t.on Reg.HLK_ERR F.HLK_ERR_STATE) ∧
      runs (.urgentTakesEffect 0) s (fun t => t.pcvState 0 == 3 && (t.pcv 0).urgent == none && keeps s t [Reg.PCV_STATUS 0])) ∧
    (let s := (pcvState' 1 none).setPcv 0 { urgent := some (2 ^ 41) }; same (.urgentTakesEffect 0) s) := by
  refine ⟨?_, ?_, ?_, ?_, ?_, ?_, ?_, ?_, ?_, ?_⟩ <;> decide +kernel

theorem witness_ConverterRuns :
    (let s := (pcvState' 2 (some (aRun 1 false)));
    let u := s.setPcv 0 { run := some (aRun 1 false), ending := some (0, 1) };
    (u.pcv 0).again = false ∧ tickBefore u.tick 0 = false ∧ runs (.clearQueue 0) u (fun t => t.pcvState 0 == 1 && (t.pcv 0).run == none &&
      (t.pcv 0).ending == none)) ∧
    (((pcvState' 2 (some (aRun 1 false))).runEnd 0 (aRun 1 false)).isSome = true ∧ (pcvState' 2 none).nextEntry 0 0 = none ∧
      runs (.entryRunEnd 0) (pcvState' 2 (some (aRun 1 false))) (fun t => t.pcvState 0 == 1 && (t.pcv 0).run == none)) ∧
    (let s := (pcvState' 2 (some (aRun 1 false))).put (Reg.PCV_STATUS 0) F.PCV_STATUS_QUEUED 1;
    runs (.entryRunEnd 0) s (fun t => t.pcvState 0 == 2 && !t.pcvQueued 0 && (t.pcv 0).run.map PcvRun.cause == some 2)) ∧
    (((pcvState' 3 (some (aRun 1 true))).runEnd 0 (aRun 1 true)).isSome = true ∧
      runs (.urgentEntryEnd 0) (pcvState' 3 (some (aRun 1 true))) (fun t => t.pcvState 0 == 1)) ∧
    (let s := (pcvState' 3 none).setPcv 0 { run := some (aRun 1 true), resume := some (2, none, 4) };
    runs (.urgentEntryEnd 0) s (fun t => t.pcvState 0 == 2 && (t.pcv 0).run.map PcvRun.entry == some 2)) ∧
    (let s := { pcvState' 2 (some (aRun 1 false)) with tick := 0 }; same (.entryRunEnd 0) s ∧ same (.urgentEntryEnd 0) s) ∧
    (let s := pcvState' 2 (some (aRun 1 false));
    s.pcvState 0 ≠ 0 ∧ runs (.pcvAbort 0) s (fun t => (t.pcv 0).ending == some (s.edgeFrom 0 (s.tick + 1), 1) && (t.pcv 0).run.isSome)) ∧
    (runs (.clearQueue 0) (pcvState' 2 none) (fun t => !t.pcvQueued 0) ∧ runs (.pcvCntclr 0) z (fun t => t.rn (Reg.PCV_LOSTCNT 0) == 0)) ∧
    (let s := (pcvState' 0 none).put (Reg.PCV_STATUS 0) F.PCV_STATUS_POWERING 1;
    s.domOn domPrec = true ∧ runs (.pcvReady 0) s (fun t => t.pcvState 0 == 1) ∧ same (.pcvReady 0) (pcvState' 1 none)) ∧
    (let v := fldSet F.PCV_CTL_RING_MODE 0#32 1;
    PcvWriteLegal 0 (withEnable v true) live ∧ live.pcvOn 0 = false ∧ live.domOn domPrec = true ∧ live.dev = devConfigured ∧
      runs (.pcvEnable 0 v) live (fun t => t.pcvOn 0 && t.on (Reg.PCV_STATUS 0) F.PCV_STATUS_POWERING)) ∧
    (let s := pcvState' 2 none;
    ¬ PcvWriteLegal 0 (withEnable 2 true) s ∧ runs (.pcvEnable 0 2) s (fun t => t.pcvState 0 == 2 &&
      keeps s t [Reg.HLK_ERR, Reg.HLK_GATED_ADDR, Reg.HLK_REFUSED_ADDR, Reg.PCV_FLAGS 0])) ∧
    (PcvWriteLegal 0 (withEnable 0 false) (pcvState' 1 none) ∧ (pcvState' 1 none).standbyBlocked (Reg.PCV_CTL 0) = false ∧
      runs (.pcvDisable 0 0) (pcvState' 1 none) (fun t => t.pcvState 0 == 1 && !t.pcvOn 0 && (t.pcv 0).ending.isSome)) ∧
    (let s := (pcvState' 1 none).setPcv 0 { stopped := true };
    4 ≤ s.unitRoom 0 ∧ runs (.ringResume 0) s (fun t => (t.pcv 0).resync) ∧ same (.ringResume 0) (pcvState' 1 none)) := by
  refine ⟨?_, ?_, ?_, ?_, ?_, ?_, ?_, ?_, ?_, ?_, ?_, ?_, ?_⟩ <;> decide +kernel

theorem witness_ResultsAndDrift :
    (let r := { aRun 2 false with done := 1 };
    let s := (pcvState' 2 (some r)).put (Reg.PCV_CTL 0) F.PCV_CTL_RING_MODE 1;
    s.runEnd 0 r = none ∧ s.timebaseRuns = true ∧ tickBefore s.tick (s.resultAt 0 r r.done) = false ∧ (s.pcv 0).ending = none ∧
      runs (.resultComplete 0 (2 ^ 30) ⟨false, []⟩) s (fun t => (t.pcv 0).run.map PcvRun.done == some 2 && (t.pcv 0).stream.length == 1)) ∧
    (let r := { aRun 2 false with done := 1 };
    let s := (pcvState' 2 (some r)).put (Reg.PCV_CTL 0) F.PCV_CTL_RING_MODE 1;
    runs (.resultComplete 0 (2 ^ 50) ⟨false, []⟩) s (fun t => t.rn (Reg.PCV_OVRCNT 0) == 1 && t.on (Reg.PCV_FLAGS 0) F.PCV_FLAGS_OVR_POS) ∧
      runs (.resultComplete 0 (-(2 ^ 50)) ⟨false, []⟩) s (fun t => t.on (Reg.PCV_FLAGS 0) F.PCV_FLAGS_OVR_NEG)) ∧
    (let r := { aRun 2 false with done := 1 };
    let s := ((pcvState' 2 none).put (Reg.PCV_CTL 0) F.PCV_CTL_RING_MODE 1).setPcv 0 { run := some r, stream := List.replicate 256 [] };
    runs (.resultComplete 0 5 ⟨false, []⟩) s (fun t => (t.pcv 0).stopped && t.rn (Reg.PCV_LOSTCNT 0) == 1 &&
      t.on (Reg.PCV_FLAGS 0) F.PCV_FLAGS_RING_LOST)) ∧
    (let r := { aRun 2 false with done := 0 };
    let s := { pcvState' 2 (some r) with tick := 0 };
    tickBefore s.tick (s.resultAt 0 r r.done) = true ∧ same (.resultComplete 0 5 ⟨false, []⟩) s) ∧
    (runs (.refDriftUpdate 600) (z.wn (Reg.PCV_REF_SPEC 0) 500) (fun t => t.on (Reg.PCV_FLAGS 0) F.PCV_FLAGS_REF_OUT &&
      t.rn (Reg.PCV_REF_DRIFT 0) == 2 ^ 16 * unsx 16 (-100) + 600)) := by
  refine ⟨?_, ?_, ?_, ?_, ?_⟩ <;> decide +kernel

theorem witness_StimulusPlays :
    ((stoState' 2).stoState 0 = 2 ∧ (stoState' 2).standbyBlocked (Reg.STO_CMD 0) = false ∧
      runs (.stoStart 0) (stoState' 2) (fun t => t.stoState 0 == 3 && t.rn (Reg.STO_TRIGCNT 0) == 1 &&
        (t.sto 0).next == [⟨placeOf ((stoState' 2).now256 : Nat), 0xFE⟩])) ∧
    (let s := ((stoState' 3).put (Reg.STO_CTL 0) F.STO_CTL_RETRIG 1).put (Reg.STO_CTL 0) F.STO_CTL_SRC 1;
    s.rearms 0 = true ∧ runs (.stoStart 0) s (fun t => t.stoState 0 == 3 && t.on (Reg.STO_FLAGS 0) F.STO_FLAGS_RESTARTED)) ∧
    (let s := { (stoState' 2).wr64 (Reg.STO_AT_TS_LO 0) 6718 with tick := 0 };
    6718 ≤ tickDiff (s.rd64 (Reg.STO_AT_TS_LO 0)) s.tick ∧ runs (.startAt 0) s (fun t => (t.sto 0).next == [⟨6718, 0xFD⟩])) ∧
    (let s := { (stoState' 2).wr64 (Reg.STO_AT_TS_LO 0) 6717 with tick := 0 };
    runs (.startAt 0) s (fun t => t.on (Reg.STO_FLAGS 0) F.STO_FLAGS_LATE)) ∧
    (runs (.stoStart 0) (stoState' 1) (fun t => t.rn (Reg.STO_DROPCNT 0) == 1 && t.on (Reg.STO_FLAGS 0) F.STO_FLAGS_NOT_READY) ∧
      runs (.stoStart 0) (stoState' 3) (fun t => t.on (Reg.STO_FLAGS 0) F.STO_FLAGS_RETRIG_DROP)) ∧
    (let s := (stoState' 3).setSto 0 { next := [⟨0, 1⟩] };
    firstPlay (s.sto 0).next = some ⟨0, 1⟩ ∧ runs (.playStart 0) s (fun t => (t.sto 0).cur == some ⟨0, 1⟩)) ∧
    (let s := (stoState' 3).setSto 0 { next := [⟨2 ^ 21, 1⟩] }; same (.playStart 0) s ∧ same (.playEnd 0) s) ∧
    (let s := { (stoState' 3).setSto 0 { cur := some ⟨0, 1⟩, stopped := some 64 } with tick := 2 ^ 20 };
    (s.playEndAt 0 ⟨0, 1⟩).isSome = true ∧ (s.sto 0).next = []) ∧
    (runs (.stoStop 0) (stoState' 3) (fun t => (t.sto 0).stopAt.isSome) ∧ same (.stoStop 0) (stoState' 0) ∧
      same (.stoStop 0) ((stoState' 3).setSto 0 { stopAt := some 5 })) ∧
    (let s := (stoState' 3).setSto 0 { stopAt := some 0, cur := some ⟨0, 1⟩ };
    runs (.stopTakesEffect 0) s (fun t => (t.sto 0).stopped == some 0 && (t.sto 0).stopAt == none) ∧
      same (.stopTakesEffect 0) ((stoState' 3).setSto 0 { stopAt := some (2 ^ 21) })) ∧
    (z.dueMissing 0 = none ∧ same (.underrun 0) z) ∧
    (let s := { (stoState' 3).setSto 0 { cur := some ⟨0, 1⟩ } with tick := 2 ^ 20 };
    (s.dueMissing 0).isSome = true ∧ runs (.underrun 0) s (fun t => t.rn (Reg.STO_UNDERCNT 0) == 1 && t.on (Reg.STO_FLAGS 0) F.STO_FLAGS_UNDERRUN)) := by
  refine ⟨?_, ?_, ?_, ?_, ?_, ?_, ?_, ?_, ?_, ?_, ?_, ?_⟩ <;> decide +kernel

theorem witness_OutputLifecycle :
    (StoWriteLegal 0 (0#32 ||| 1#32) live ∧ live.on (Reg.STO_CTL 0) F.STO_CTL_ENABLE = false ∧ live.dev = devConfigured ∧
      runs (.stoEnable 0 0) live (fun t => t.stoState 0 == 1 && keeps live t [Reg.STO_CTL 0, Reg.STO_STATUS 0])) ∧
    (let s := inDev devFault;
    StoWriteLegal 0 (0#32 ||| 1#32) s ∧ runs (.stoEnable 0 0) s (fun t => t.stoState 0 == 0 && keeps s t [Reg.STO_CTL 0])) ∧
    (StoWriteLegal 0 (0#32 &&& ~~~ 1#32) (stoState' 3) ∧ runs (.stoDisable 0 0) (stoState' 3) (fun t => t.stoState 0 == 0 &&
      (t.sto 0).cur == none && keeps (stoState' 3) t [Reg.STO_CTL 0, Reg.STO_STATUS 0])) ∧
    (let s := (stoState' 1).put (Reg.STO_CTL 0) F.STO_CTL_SRC 1;
    s.stoGen 0 = true ∧ s.domOn domStim = true ∧ s.timebaseRuns = true ∧ runs (.primeComplete 0) s (fun t => t.stoState 0 == 2)) ∧
    ((stoState' 2).stoState 0 ≠ 1 ∧ same (.primeComplete 0) (stoState' 2)) ∧
    (let s := (stoState' 1).wn (Reg.STO_LENGTH 0) 64;
    s.stoGen 0 = false ∧ (s.sto 0).got < s.primeNeed 0 ∧ same (.primeComplete 0) s) ∧
    (runs (.stoCntclr 0) (z.wn (Reg.STO_SATCNT 0) 3) (fun t => t.rn (Reg.STO_SATCNT 0) == 0)) := by
  refine ⟨?_, ?_, ?_, ?_, ?_, ?_, ?_⟩ <;> decide +kernel

theorem witness_TimingPorts :
    (runs (.fire 0) (tptState' 2 1) (fun t => t.tptState 0 == 2 && (t.tpt 0).trains.length == 1 && keeps (tptState' 2 1) t [Reg.TPT_STATUS 0])) ∧
    (let s := (tptState' 2 1).setTpt 0 { stopAt := some 256 };
    tickBefore (placeOf (s.now256 : Nat)) 256 = false ∧ runs (.fire 0) s (fun t => t.tptState 0 == 2)) ∧
    (let s := (tptState' 2 1).wr64 (Reg.TPT_AT_TS_LO 0) (256 + 6718);
    6718 ≤ tickDiff (s.rd64 (Reg.TPT_AT_TS_LO 0)) s.tick ∧ runs (.fireAt 0) s (fun t => (t.tpt 0).trains.map Train.e0 == [256 + 6718])) ∧
    (runs (.fireAt 0) (tptState' 2 1) (fun t => t.on (Reg.TPT_FLAGS 0) F.TPT_FLAGS_LATE)) ∧
    (runs (.fire 0) (tptState' 2 2) (fun t => t.rn (Reg.TPT_DROPCNT 0) == 1)) ∧
    ((tptState' 1 1).tptMode 0 ≠ 2 ∧ same (.fire 0) (tptState' 1 1) ∧ same (.fireAt 0) (tptState' 1 1)) ∧
    (let s := (tptState' 2 2).setTpt 0 { trains := [{ e0 := 2 ^ 20, width := 64, period := 128, count := 1 }] };
    runs (.tptStop 0) s (fun t => (t.tpt 0).trains.isEmpty && t.tptState 0 == 1)) ∧
    (let x : Train := { e0 := 256, width := 64, period := 128, count := 1 };
    let s := (tptState' 2 2).setTpt 0 { trains := [x] };
    x.nextEdge = some 256 ∧ x.held = false ∧ s.on (Reg.TPT_CTL 0) F.TPT_CTL_FRAME = false ∧ tickBefore s.tick 256 = false ∧
      runs (.trainEdge 0) s (fun t => t.rn (Reg.TPT_EDGECNT 0) == 1 && (t.tpt 0).trains == [{ x with active := true }])) ∧
    (let x : Train := { e0 := 100, width := 64, period := 128, count := 1, active := true };
    let s := (tptState' 2 2).setTpt 0 { trains := [x] };
    x.nextEdge = some 164 ∧ runs (.trainEdge 0) s (fun t => t.rn (Reg.TPT_EDGECNT 0) == 1 && (t.tpt 0).trains == [] && t.tptState 0 == 1)) ∧
    (let x : Train := { e0 := 257, width := 64, period := 128, count := 1 };
    same (.trainEdge 0) ((tptState' 2 2).setTpt 0 { trains := [x] })) ∧
    ((tptState' 1 1).tptMode 0 = 1 ∧ (tptState' 1 1).timebaseRuns = true ∧ (tptState' 1 1).dev ≠ devStandby ∧
      runs (.tpEdge 0 0 true) (tptState' 1 1) (fun t => (t.tpt 0).fifo == [⟨256, true, 0⟩] && t.rn (Reg.TPT_EDGECNT 0) == 1 &&
        t.on (Reg.TPT_FLAGS 0) F.TPT_FLAGS_EDGE)) ∧
    (let s := (tptState' 1 1).setTpt 0 { lastBall := some 193 };
    tickDiff (s.tick - 0) 193 < 64 ∧ runs (.tpEdge 0 0 true) s (fun t => t.on (Reg.TPT_FLAGS 0) F.TPT_FLAGS_GLITCH &&
      (t.tpt 0).lastBall == some 256 && t.rn (Reg.TPT_EDGECNT 0) == 0)) ∧
    ((tptState' 2 1).tptMode 0 ≠ 1 ∧ same (.tpEdge 0 0 true) (tptState' 2 1)) ∧
    (runs (.tpEdge 0 0 true) (tptState' 0 0) (fun t => t.get (Reg.TPT_STATUS 0) F.TPT_STATUS_LEVEL == 1 && keeps (tptState' 0 0) t [Reg.TPT_STATUS 0])) ∧
    (let s := (tptState' 1 1).setTpt 0 { fifo := [⟨1, true, 0⟩, ⟨2, true, 0⟩] };
    runs (.fifoInfoRead 0) s (fun t => t.rd64 (Reg.TPT_FIFO_TS_LO 0) == 2) ∧ runs (.tptCntclr 0) z (fun t => t.rn (Reg.TPT_LOSTCNT 0) == 0)) := by
  refine ⟨?_, ?_, ?_, ?_, ?_, ?_, ?_, ?_, ?_, ?_, ?_, ?_, ?_, ?_, ?_⟩ <;> decide +kernel

/-! ### Witnesses: shadow hand-over, clocks, acquisition memory -/

/-- Group 0 with a hand-over pending. -/
def shadowed : State := (live.setGst 0 gStopped).put (Reg.CFG_G_SHADOW 0) F.CFG_G_SHADOW_PENDING 1

/-- Memory loop and channel 0 in given states; channel 0 serves 1 GiB. -/
def loopState (x p : Nat) : State := (live.setMdllState 0 x).setPhase 0 p
def memState (p : Nat) : State :=
  ((((live.setPhase 0 p).put (Reg.MCH_STATUS 0) F.MCH_STATUS_CAP_GIB 1).put (Reg.MCH_STATUS 0) F.MCH_STATUS_DIMMS 1).put
    (Reg.MCH_CFG 0) F.MCH_CFG_NCHAN 1).put (Reg.MCH_CFG 0) F.MCH_CFG_CAP_GIB 1
def getAt (a n : Nat) (row : Option Word) : Access := ⟨a, n, none, 3#16, row, 0, false⟩
def putAt (a : Nat) (d : List Byte) (queued : Bool) : Access := ⟨a, 0, some d, 3#16, none, 0, queued⟩

theorem witness_SampleClockLoss :
    (live.on Reg.CKS_STATUS F.CKS_STATUS_LOCKED = true ∧ (0#24).toNat ≤ 16 * live.refPeriod ∧ live.dev ≠ devStandby ∧
      runs (.spllLoss 0 true) live (fun t => t.rn Reg.CKS_LOSSCNT == 1 && t.on Reg.CKS_FLAGS F.CKS_FLAGS_REF_LOST &&
        t.on Reg.CKS_FLAGS F.CKS_FLAGS_SPLL_LOSS && t.rd64 Reg.CKS_LOSS_TS_LO == live.tick)) ∧
    (let s := (live.setDev devStandby); runs (.spllLoss 0 true) s (fun t => t.on Reg.CKS_STATUS F.CKS_STATUS_RELOCKING &&
      t.rd Reg.CKS_FLAGS == s.rd Reg.CKS_FLAGS && t.rn Reg.CKS_LOSSCNT == 0)) ∧
    (z.on Reg.CKS_STATUS F.CKS_STATUS_LOCKED = false ∧ same (.spllLoss 0 false) z ∧ 16 * live.refPeriod < (0xFFFFFF#24).toNat ∧ same (.spllLoss 0xFFFFFF false) live) := by
  refine ⟨?_, ?_, ?_⟩ <;> decide +kernel

theorem witness_SampleClockStates :
    (let s := { live with tick := frameTicks, lastFrame := frameTicks, clk := { live.clk with lossD := some 1 } };
    s.lastFrame = nextBoundary 1 ∧ tickBefore s.tick (nextBoundary 1) = false ∧ runs (.timebaseFreeze []) s (fun t =>
      t.on Reg.CKS_STATUS F.CKS_STATUS_FROZEN && t.rd64 Reg.CKS_FREEZE_TS_LO == frameTicks && t.on (Reg.CKS_OUT 8) F.CKS_OUT_GATED)) ∧
    (let s := { live with tick := frameTicks - 1, clk := { live.clk with lossD := some 1 } };
    tickBefore s.tick (nextBoundary 1) = true ∧ same (.timebaseFreeze []) s ∧ same (.timebaseFreeze []) live) ∧
    (let s := { live with tick := 3 * frameTicks, lastFrame := 0, clk := { live.clk with lossD := some (2 * frameTicks - 1) } };
    tickBefore s.lastFrame (nextBoundary (2 * frameTicks - 1)) = true ∧ same (.timebaseFreeze []) s ∧
      runs (.timebaseFreeze []) { s with lastFrame := frameTicks } (fun t => t.on Reg.CKS_STATUS F.CKS_STATUS_FROZEN)) ∧
    (let s := { z.put Reg.DEV_BOOT_STAT F.DEV_BOOT_STAT_STAGE 3 with rt := 4096 * z.refPeriod };
    s.clk.released = false ∧ s.refOff = false ∧ s.refMissing = false ∧
      s.clk.runRt + 4096 * s.refPeriod ≤ s.rt ∧ runs .spllLock s (fun t => t.on Reg.CKS_STATUS F.CKS_STATUS_LOCKED) ∧ same .spllLock live ∧
      same .spllLock { s with rt := s.rt - 1 }) ∧
    (let s := { live with rt := 256 * live.refPeriod, tick := 5, clk := { live.clk with released := false } };
    s.clk.lockRt + 256 * s.refPeriod ≤ s.rt ∧ s.clk.released = false ∧
      runs .spllRelease s (fun t => t.tick == 0 && t.clk.released && !t.on (Reg.CKS_OUT 8) F.CKS_OUT_GATED)) ∧
    (let s := { ((live.setDev devStandby).put Reg.CKS_STATUS F.CKS_STATUS_GATED 1) with
      rt := 256 * live.refPeriod, tick := 5, clk := { live.clk with released := true } };
    s.lossGated = true ∧ runs .spllRelease s (fun t => t.tick == 5 && t.rn Reg.CKS_EPOCH == 1 && !t.on Reg.CKS_STATUS F.CKS_STATUS_RELOCKING) ∧
      runs .spllRelease (s.setDev devConfigured) (fun t => t.rn Reg.CKS_EPOCH == 1)) ∧
    (live.rt < live.clk.lockRt + 256 * live.refPeriod ∧ same .spllRelease live) ∧
    (let s := { z.put Reg.CKS_STATUS F.CKS_STATUS_RELOCKING 1 with rt := 10000 * tickUs };
    s.clk.timedOut = false ∧ runs .relockTimeout s (fun t => t.on Reg.CKS_FLAGS F.CKS_FLAGS_RELOCK_TIMEOUT && keeps s t [Reg.CKS_FLAGS]) ∧
      same .relockTimeout { s with rt := 10000 * tickUs - 1 } ∧ same .relockTimeout (s.setDev devStandby)) ∧
    (runs .hlHoldover z (fun t => t.on Reg.CKS_STATUS F.CKS_STATUS_HL_HOLDOVER && t.on Reg.CKS_FLAGS F.CKS_FLAGS_HL_HOLDOVER) ∧ same .hlRelock z ∧
      runs .hlRelock (z.put Reg.CKS_STATUS F.CKS_STATUS_HL_HOLDOVER 1) (fun t => !t.on Reg.CKS_STATUS F.CKS_STATUS_HL_HOLDOVER &&
        t.on Reg.CKS_STATUS F.CKS_STATUS_REF_OK == (z.clk.hlRef == z.get Reg.CKS_REF_CTL F.CKS_REF_CTL_REFSEL)) ∧
      same .hlHoldover (z.put Reg.CKS_STATUS F.CKS_STATUS_HL_HOLDOVER 1)) := by
  refine ⟨?_, ?_, ?_, ?_, ?_, ?_, ?_, ?_, ?_⟩ <;> decide +kernel

theorem witness_CommandedRelocks :
    (live.anyRunning = false ∧ (commandedRelock (live.setDev devStandby)).on Reg.CKS_STATUS F.CKS_STATUS_RELOCKING = true ∧
      runs .relock (live.setDev devStandby) (fun t => !t.on Reg.CKS_STATUS F.CKS_STATUS_LOCKED)) ∧
    (let s := ((live.setDev devStandby).put Reg.CKS_REF_CTL F.CKS_REF_CTL_SRC 1).put Reg.CKS_REF_CTL F.CKS_REF_CTL_FALLBACK 1;
    s.on Reg.CKS_STATUS F.CKS_STATUS_CHREF_OK = false ∧ (commandedRelock s).get Reg.CKS_STATUS F.CKS_STATUS_ACTIVE_SRC = 0) ∧
    (let s := live.setGst 0 gArmed; s.anyRunning = true ∧ runs .relock s (fun t => t.on Reg.HLK_ERR F.HLK_ERR_GATED) ∧
      refMoves 0x4#32 s = true ∧ runs (.refCtlWrite 0x4) s (fun t => t.rn Reg.HLK_GATED_ADDR == Reg.CKS_REF_CTL)) ∧
    (let v := live.rd Reg.CKS_REF_CTL ^^^ (fldSet F.CKS_REF_CTL_FALLBACK 0#32 1);
    refMoves v live = false ∧ runs (.refCtlWrite v) live (fun t =>
      t.on Reg.CKS_REF_CTL F.CKS_REF_CTL_FALLBACK != live.on Reg.CKS_REF_CTL F.CKS_REF_CTL_FALLBACK && t.clk.chainMoved)) ∧
    (refMoves 4#32 (live.setDev devStandby) = true ∧
      runs (.refCtlWrite 4) (live.setDev devStandby) (fun t => t.get Reg.CKS_REF_CTL F.CKS_REF_CTL_SRC == 1)) ∧
    (let s := { ((live.put Reg.CKS_REF_CTL F.CKS_REF_CTL_SRC 1).put Reg.CKS_STATUS F.CKS_STATUS_CHREF_OK 1) with
      clk := { live.clk with released := true, chainMoved := false } };
    runs .chainReferenceMove s (fun t => t == commandedRelock s) ∧
      same .chainReferenceMove { s with clk := { s.clk with chainMoved := true } } ∧ same .chainReferenceMove (s.setGst 0 gArmed)) := by
  refine ⟨?_, ?_, ?_, ?_, ?_, ?_⟩ <;> decide +kernel

theorem witness_MemoryLoops :
    ((loopState 3 phReady).mdllState 0 = 3 ∧ runs (.mdllLoss 0) (loopState 3 phReady) (fun t =>
      t.mdllState 0 == 4 && t.phase 0 == phSr && t.rn (Reg.MCH_SR_CNT 0) == 1) ∧ same (.mdllLoss 0) (loopState 1 phReady)) ∧
    (let s := { loopState 4 phSr with rt := 2 * tickUs };
    s.relockRef 0 = some true ∨ s.relockRef 0 = some false) ∧
    (let s := { loopState 4 phSr with rt := 2 * tickUs };
    runs (.mdllHoldoverEnd 0) s (fun t => t.mdllState 0 == 1) ∧ same (.mdllHoldoverEnd 0) (loopState 4 phSr)) ∧
    (let s := { loopState 1 phOff with rt := 1024 * 4096, clk := { live.clk with released := true } }; s.mrefGood = true ∧ runs (.mdllLock 0) s (fun t => t.mdllState 0 == 2) ∧
      same (.mdllLock 0) (loopState 2 phOff)) ∧
    (let s := { loopState 2 phSr with rt := 1048576 }.setMch 0 { srCause := 4, wasReady := true };
    runs (.mdllRelease 0) s (fun t => t.mdllState 0 == 3 && t.phase 0 == phRetrain) ∧
      same (.mdllRelease 0) { loopState 2 phSr with rt := 1048575 } ∧
      runs (.mdllRelease 0) (s.setMch 0 { srCause := 4 }) (fun t => t.mdllState 0 == 3 && t.phase 0 == 1)) ∧
    (let s := { (loopState 1 phSr).setMch 0 { srCause := 4 } with rt := 150 * tickUs + 1 };
    s.mdllLate 0 = true ∧ runs (.mdllFail 0) s (fun t => t.on Reg.CKS_FLAGS F.CKS_FLAGS_MDLL_FAIL && t.phase 0 == phFault)) ∧
    (live.mdllLate 0 = false ∧ same (.mdllFail 0) live) ∧
    (legalMult (fldGet F.CKS_MDLL_CTL_MULT 0#32) = false ∧ runs (.mdllCtlWrite 0 0) live (fun t => t.on Reg.HLK_ERR F.HLK_ERR_REFUSED)) ∧
    (let v := live.rd (Reg.CKS_MDLL_CTL 0); MdllWriteLegal 0 v live ∧ runs (.mdllCtlWrite 0 v) live (fun t => t.mdllState 0 == 0)) ∧
    (let s := ((loopState 3 phReady).put (Reg.CKS_MDLL_STAT 0) F.CKS_MDLL_STAT_ON_HKO 1);
    s.mrefBusy = false ∧ runs .mrefReturn s (fun t => t.mdllState 0 == 4 && t.clk.mrefQ == List.range 8)) ∧
    (let s := (loopState 4 phReady).put (Reg.CKS_MDLL_STAT 0) F.CKS_MDLL_STAT_ON_HKO 1;
    let s := { s.setMdll 0 { toMref := true } with clk := { (s.setMdll 0 { toMref := true }).clk with mrefQ := List.range 8 } };
    s.mrefBusy = true ∧ s.anyOnHko = true ∧ runs .mrefReturn s (fun t => t.clk.mrefQ.head? == some 0 && keeps s t [])) ∧
    (z.on Reg.CKS_STATUS F.CKS_STATUS_LOCKED = false ∧ same .mrefReturn z ∧ live.anyOnHko = false ∧ same .mrefReturn live) := by
  refine ⟨?_, ?_, ?_, ?_, ?_, ?_, ?_, ?_, ?_, ?_, ?_, ?_⟩ <;> decide +kernel

theorem witness_MemoryChannels :
    ((loopState 0 phOff).initRefused 0 = false ∧ (loopState 0 phOff).standbyBlocked (Reg.MCH_CMD 0) = false ∧
      runs (.mchInit 0) (loopState 0 phOff) (fun t => t.phase 0 == 1 && keeps (loopState 0 phOff) t [Reg.MCH_STATUS 0])) ∧
    ((loopState 0 1).initRefused 0 = true ∧ runs (.mchInit 0) (loopState 0 1) (fun t => t.on Reg.HLK_ERR F.HLK_ERR_STATE)) ∧
    (((memState 1).mch 0).spdDone = false ∧ (memState 1).phase 0 = 1 ∧
      runs (.trainingPhaseEnd 0 true ⟨0, 0, 0, 0, true⟩ 0 0) (memState 1) (fun t => t.phase 0 == phOff)) ∧
    (let s := (memState 1).setPhase 1 1;
    (∃ k < 8, s.phase k = 1 ∧ (s.mch k).spdDone = false) ∧ checkPop s = s) ∧
    (let s := (memState 1).setMch 0 { spdDone := true };
    (∀ k < 8, s.phase k = 1 → (s.mch k).spdDone = true) ∧ s.phase 0 = 1) ∧
    ((memState phReady).anyRunning = false ∧ runs (.srEnter 0) (memState phReady) (fun t => (t.mch 0).srEntry == 2) ∧
      same (.srEnter 0) (memState phOff) ∧ same (.srExit 0) (memState phReady)) ∧
    (let s := (memState phSr).setMch 0 { srCause := 2 }; runs (.srExit 0) s (fun t => t.phase 0 == phReady && keeps s t [Reg.MCH_STATUS 0])) ∧
    (let s := (memState phReady).setGst 0 gArmed;
    s.anyRunning = true ∧ runs (.srEnter 0) s (fun t => t.on Reg.HLK_ERR F.HLK_ERR_STATE) ∧
      runs (.srExit 0) s (fun t => t.on Reg.HLK_ERR F.HLK_ERR_STATE)) ∧
    (let s := { (memState phReady).put (Reg.MCH_CTL 0) F.MCH_CTL_IDLE_SR 1 with rt := 2 ^ 50 };
    s.srIdleDue 0 = true ∧ runs (.srIdleExpiry 0) s (fun t => (t.mch 0).srEntry == 1) ∧ same (.srIdleExpiry 0) (memState phOff)) ∧
    (runs (.trainingPhaseEnd 0 true ⟨0, 0, 0, 0, true⟩ 0 0) (memState 5) (fun t => t.phase 0 == 6) ∧
      runs (.trainingPhaseEnd 0 true ⟨0, 0, 0, 0, true⟩ 60 61) (memState 6) (fun t => t.rn (Reg.MCH_EYE 0) == 256 * 61 + 60) ∧
      0 < (memState 6).get (Reg.MCH_EYE_MIN 0) F.MCH_EYE_MIN_MIN ∧
      runs (.trainingPhaseEnd 0 true ⟨0, 0, 0, 0, true⟩ 0 61) (memState 6) (fun t => t.phase 0 == phFault && t.on (Reg.MCH_FLAGS 0) F.MCH_FLAGS_TRAIN_FAIL)) ∧
    (runs (.trainingPhaseEnd 0 true ⟨0, 0, 0, 0, true⟩ 0 0) (memState 7) (fun t => t.phase 0 == phReady && (t.mch 0).wasReady) ∧
      runs (.trainingPhaseEnd 0 false ⟨0, 0, 0, 0, true⟩ 0 0) (memState 2) (fun t => t.phase 0 == phFault) ∧
      same (.trainingPhaseEnd 0 true ⟨0, 0, 0, 0, true⟩ 0 0) (memState phReady)) ∧
    ((memState phRetrain).clk.mrefQ = [] ∧
    runs (.reducedRetrainEnd 0 255 255) (memState phRetrain) (fun t => t.phase 0 == phReady) ∧
      0 < (memState phRetrain).get (Reg.MCH_EYE_MIN 0) F.MCH_EYE_MIN_MIN ∧
      runs (.reducedRetrainEnd 0 0 0) (memState phRetrain) (fun t => t.phase 0 == phFault) ∧ same (.reducedRetrainEnd 0 0 0) (memState phReady)) ∧
    ((memState phReady).mon.capar = none ∧
    runs (.caParityAlert 0 false) (memState phReady) (fun t => t.get (Reg.MCH_CAPAR_CNT 0) F.MCH_CAPAR_CNT_RECOVERED == 1) ∧
      runs (.caParityAlert 0 true) (memState phReady) (fun t => (t.mch 0).replays == 1) ∧
      runs (.caParityAlert 0 true) ((memState phReady).setMch 0 { replays := 2 }) (fun t => t.phase 0 == phFault) ∧
      same (.caParityAlert 0 true) (memState phOff)) := by
  refine ⟨?_, ?_, ?_, ?_, ?_, ?_, ?_, ?_, ?_, ?_, ?_, ?_, ?_⟩ <;> decide +kernel

theorem witness_MemoryRequests :
    ((memState phReady).capacity = 2 ^ 30 ∧ (memState phReady).nChan ≤ 8 ∧ same (.memoryAccess (getAt (2 ^ 30) 1 none)) (memState phReady)) ∧
    ((2 ^ 30 - 1) + max 1 (accessSize (putAt (2 ^ 30 - 1) [7#8] false)) ≤ (memState phReady).capacity ∧ (memState phReady).waiting = [] ∧
      (∀ m < 8, (memState phReady).phase m ≠ phFault) ∧ (memState phReady).rangeSleeps (2 ^ 30 - 1) 1 = false ∧
      runs (.memoryAccess (putAt (2 ^ 30 - 1) [7#8] false)) (memState phReady) (fun t =>
        t.memByte (2 ^ 30 - 1) == 7#8)) ∧
    (runs (.memoryAccess (putAt 64 [7#8] true)) (memState phReady) (fun t => (t.mch 0).wq.map WrReq.data == [[7#8]])) ∧
    (let s := (memState phSr).setMch 0 { srCause := 4 }; s.rangeSleeps 64 1 = true ∧
    runs (.memoryAccess (putAt 64 [7#8] false)) s (fun t => (t.mch 0).wq.map WrReq.addr == [64])) ∧
    (let s := (memState phReady).memPut 64 9#8;
    s.memByte 64 = 9#8 ∧ s.mem.poison = [] ∧ s.waiting = [] ∧
      runs (.memoryAccess (getAt 64 1 none)) s (fun t => t.memOut == ⟨64, [9#8], false⟩)) ∧
    (let s := { (memState phReady).memPut 64 9#8 with mem := { ((memState phReady).memPut 64 9#8).mem with poison := [1] } };
    s.isPoison 1 = true ∧ runs (.memoryAccess (getAt 64 1 none)) s (fun t => t.memOut == ⟨64, [9#8], true⟩ && t.rn (Reg.MCH_UE_CNT 0) == 1)) ∧
    ((memState phFault).waiting = [] ∧ (memState phFault).rangeSleeps 64 1 = false ∧ (memState phFault).chanOf 64 = 0 ∧
    runs (.memoryAccess (getAt 64 1 none)) (memState phFault) (fun t => t.memOut == ⟨64, [0#8], true⟩) ∧
      runs (.memoryAccess (putAt 64 [7#8] false)) (memState phFault) (fun t => t.rn (Reg.MCH_DROPCNT 0) == 1)) ∧
    (let s := match exec (.memoryAccess (putAt 64 [7#8] true)) (memState phReady) with
      | .next t => t
      | _ => z;
    s.rawChans 64 1 = [0] ∧
    runs (.memoryAccess (getAt 64 1 none)) s (fun t => (t.mch 0).rq == [⟨64, 1⟩] && t.rn (Reg.MCH_RAW_WAIT 0) == 1)) ∧
    (let s := ((memState phReady).memPut 64 9#8).setMch 0 { rq := [⟨64, 1⟩] };
    s.waiting = [] ∧ s.rangeSleeps 64 1 = false ∧
    runs (.rawWaitEnd 0) s (fun t => (t.mch 0).rq == [] && t.memOut == ⟨64, [9#8], false⟩) ∧ same (.rawWaitEnd 0) (memState phReady)) ∧
    (let s := (memState phSr).setMch 0 { srCause := 4, rq := [⟨64, 1⟩] }; s.rangeSleeps 64 1 = true ∧ same (.rawWaitEnd 0) s) ∧
    (let s := (memState phReady).setMch 0 { throttled := [(3, 65535)] };
    s.throttledOut 0 3 = true ∧ same (.memoryAccess (getAt 64 1 (some 5))) s) := by
  refine ⟨?_, ?_, ?_, ?_, ?_, ?_, ?_, ?_, ?_, ?_, ?_⟩ <;> decide +kernel

theorem witness_ChannelUpkeep :
    (runs (.refreshWindowEnd 0) ((memState phReady).setMch 0 { rows := [(1, 2)] }) (fun t => (t.mch 0).rows == [] && (t.mch 0).throttled == [])) ∧
    (let s := { ((memState phReady).put (Reg.MCH_CTL 0) F.MCH_CTL_SCRUB_EN 1).put (Reg.MCH_STATUS 0) F.MCH_STATUS_USED 1 with rt := 2 ^ 60 };
    s.scrubDue 0 = true ∧ s.isPoison (s.addrAt 0 (s.mch 0).scrubAt / 64) = false ∧
      runs (.scrubRead 0 1) s (fun t => t.rn (Reg.MCH_CE_CNT 0) == 1 && (t.mch 0).scrubAt == 64)) ∧
    (let s := { (((memState phReady).put (Reg.MCH_CTL 0) F.MCH_CTL_SCRUB_EN 1).put (Reg.MCH_STATUS 0) F.MCH_STATUS_USED 1).setMch 0 { scrubAt := 2 ^ 30 - 64 } with rt := 2 ^ 60 };
    s.scrubDue 0 = true ∧ runs (.scrubRead 0 2) s (fun t => t.rn (Reg.MCH_UE_CNT 0) == 1 && (t.mch 0).scrubAt == 0 &&
      t.rn (Reg.MCH_SCRUB_PASS 0) == 1)) ∧
    ((memState phReady).scrubDue 0 = false ∧ same (.scrubRead 0 2) (memState phReady)) ∧
    (runs (.dimmTempRead 0 381 0) (memState phReady) (fun t => t.rn (Reg.MCH_DIMM_TEMP 0) == 0x80000000 + 381 &&
      t.on (Reg.MCH_FLAGS 0) F.MCH_FLAGS_DRAM_HOT) ∧ same (.dimmTempRead 0 381 0) ((memState phReady).setMch 0 { lastTemp := 1 })) ∧
    (runs (.mchCntclr 0) ((memState phReady).wn (Reg.MCH_UE_CNT 0) 3) (fun t => t.rn (Reg.MCH_UE_CNT 0) == 0)) := by
  refine ⟨?_, ?_, ?_, ?_, ?_, ?_⟩ <;> decide +kernel

/-! ### Witnesses: DMA flows, compression, event controller, monitoring and test -/

/-- Flow 0 RUNNING at program memory address 0 with the instruction words given, which it has fetched; MEM is on. -/
def flowAt (l : List Nat) : State :=
  let b := l.flatMap (leBytes 8)
  ((((memState phReady).setDom domMem 2).setFlowState 0 1).pmemPuts 0 b).setFlow 0 { ahead := some (0, b ++ List.replicate 32 0#8) }
/-- A MOVE of `n` bytes from program memory 1024 to 2048, and its LOOP, WAIT, SIGNAL and END words. -/
def moveWords (n : Nat) : List Nat := [1 + 2 ^ 8 + 2 ^ 10 + 2 ^ 32 * n, 1024, 2048, 0]
def aMove : DmaMove := { pc := 0, ss := 1, ds := 1, src := 1024, dst := 2048, len := 8, ptr := 0, ring := none }
def cause (c : Nat) (t : State) : Bool := t.get (Reg.DMA_F_STATUS 0) F.DMA_F_STATUS_CAUSE == c

/-- Compression engine 0 enabled in the fabric's domain, with memory; a job that has coded all its samples. -/
def cmpState' (h : CmpHid) : State := ((flowAt []).put (Reg.CMP_CTL 0) F.CMP_CTL_ENABLE 1).setDom domFab 2 |>.setCmp 0 h
def aJob : CmpRun := { addr := 0, elem := 2, opts := 1, minRatio := 0, nsamp := 1, inA := 4096, outA := 8192, outMax := 300,
                       outDone := 8, total := 8 }
def aChunk : Chunk := ⟨0, 3, 0, 4096, 1, 2⟩
def aBlk : BlkStream := { sess := 0, id := 3, seq := 9, space := 0, mode := 1, elem := 2, frame := 64, window := 4, addr := 4096, len := 3 }

/-- Source 100 enabled for every target, at priority 5; pending for target `t`. -/
def srcState : State := (live.wn (Reg.EVC_SRC_CFG 100) 0).put (Reg.EVC_SRC_CFG 100) F.EVC_SRC_CFG_PRI 5
  |>.put (Reg.EVC_SRC_CFG 100) (evcEn 0) 1 |>.put (Reg.EVC_SRC_CFG 100) (evcEn 1) 1 |>.put (Reg.EVC_SRC_CFG 100) (evcEn 2) 1
def pendingFor (t : Nat) : State := (srcState.put (Reg.EVC_SRC_STAT 100) (evcPend t) 1).setPendTick 100 t 77
def serving (t : Nat) : State := srcState.put (Reg.EVC_SRC_STAT 100) (evcInsvc t) 1
def aSession : Session := { id := 5, e := 7, w := 8, auth := false, events := true, iface := 0, v6 := false, key := [], last := 0 }

theorem witness_FlowInstructions :
    (let s := (flowAt [5]).put (Reg.DMA_F_CTL 0) F.DMA_F_CTL_PSPACE 1 |>.setDom domMem 0 |>.setFlow 0 {};
    s.flowState 0 = 1 ∧ s.blockedBy 0 ≠ [] ∧ runs (.endOp 0) s (fun t => t.flowState 0 == 3 && cause 0x0E t && t.rn Reg.PWR_PARKCNT == 1)) ∧
    ((flowAt (moveWords 8)).blockedBy 0 = [] ∧ (flowAt (moveWords 8)).opcode 0 = some 1 ∧ (flowAt (moveWords 8)).moveCheck 0 = 0 ∧
      runs (.moveOp 0) (flowAt (moveWords 8)) (fun t => (t.flow 0).mv == some aMove)) ∧
    ((flowAt (moveWords 0)).moveCheck 0 = 0 ∧ runs (.moveOp 0) (flowAt (moveWords 0)) (fun t => t.flowPc 0 == 32 && t.pmemByte 24 == 1#8)) ∧
    (let s := (flowAt [5]).setFlow 0 { (flowAt [5]).flow 0 with park := some ([domMem], 0) };
    (s.flow 0).park.isSome = true ∧ same (.endOp 0) s ∧ same (.moveOp 0) s) ∧
    (let s := ((flowAt [5]).put (Reg.DMA_F_CTL 0) F.DMA_F_CTL_PSPACE 1).setFlow 0 {} |>.setPhase 0 phSr |>.setMch 0 { srCause := 3 };
    s.blockedBy 0 = [] ∧ s.fetchWaits 0 = true ∧ same (.endOp 0) s) ∧
    (let s := flowAt [1 + 2 ^ 8 + 3 * 2 ^ 10 + 2 ^ 35, 1024, 2048, 0];
    s.moveCheck 0 = 7 ∧ runs (.moveOp 0) s (fun t => t.flowPc 0 == 32 && cause 7 t && t.rn (Reg.DMA_F_BADCNT 0) == 1 && t.pmemByte 25 == 7#8)) ∧
    (let s := flowAt [2 + 2 ^ 32 * 2, 0];
    s.opcode 0 = some 2 ∧ runs (.loopOp 0) s (fun t => t.flowPc 0 == 0 && t.on (Reg.DMA_F_STATUS 0) (loopActFld 0) && t.get (loopReg 0 0) (loopFld 0) == 0)) ∧
    (runs (.loopOp 0) (flowAt [2 + 2 ^ 32, 0]) (fun t => t.flowPc 0 == 16) ∧ runs (.loopOp 0) (flowAt [2, 0]) (fun t => t.flowPc 0 == 0)) ∧
    (runs (.loopOp 0) (flowAt [2 + 2 ^ 8, 0]) (fun t => t.flowState 0 == 5 && cause 7 t)) ∧
    (let s := flowAt [3, 0]; s.opcode 0 = some 3 ∧ s.waitMet 0 = false ∧ runs (.waitOp 0) s (fun t => t.flowState 0 == 2) ∧
      runs (.waitOp 0) (s.put (Reg.DMA_F_SEM 0) F.DMA_F_SEM_COUNT 1) (fun t => t.flowPc 0 == 16 && t.sem 0 == 0)) ∧
    (runs (.signalOp 0) (flowAt [4 + 2 ^ 4 + 2 ^ 5 + 2 ^ 8 * 31 + 2 ^ 16 * 9, 0]) (fun t => t.sem 9 == 1 && t.flowPc 0 == 16 && t.lines.contains ⟨53, true⟩)) ∧
    (runs (.endOp 0) (flowAt [5, 0]) (fun t => t.flowState 0 == 4) ∧ same (.fetchFailure 0) (flowAt [5, 0]) ∧
      runs (.fetchFailure 0) (flowAt [6, 0]) (fun t => t.flowState 0 == 5 && cause 7 t)) := by
  refine ⟨?_, ?_, ?_, ?_, ?_, ?_, ?_, ?_, ?_, ?_, ?_, ?_⟩ <;> decide +kernel

/-- A fetch past the end of program memory fails: the hypotheses of the fetch failure meet. -/
theorem witness_FetchFailure : let s := ((flowAt []).setFlow 0 {}).wr64 (Reg.DMA_F_PC_LO 0) (2 ^ 22);
    s.flowState 0 = 1 ∧ (s.flow 0).mv = none ∧ (s.flow 0).park = none ∧ s.fetchWaits 0 = false ∧ (fetch 0 s).opcode 0 = none := by
  intro s
  refine ⟨by decide +kernel, by decide +kernel, by decide +kernel, by decide +kernel, ?_⟩
  have hk (k : Nat) : ((List.range (max 2 k)).takeWhile (fun i => s.useFree.fetchable 0 (2 ^ 22 + 16 * i) 16)).length = 0 := by
    obtain ⟨n, hn⟩ : ∃ n, max 2 k = n + 1 := ⟨max 2 k - 1, by omega⟩
    have h0 : s.useFree.fetchable 0 (2 ^ 22 + 16 * 0) 16 = false := by decide +kernel
    rw [hn, List.range_succ_eq_map, List.takeWhile_cons, h0]; rfl
  have hf : fetch 0 s = s.useFree.setFlow 0 { s.useFree.flow 0 with ahead := some (2 ^ 22, []) } := by
    have hn : s.fetched 0 = false := by decide +kernel
    have hp : s.flowPc 0 = 2 ^ 22 := by decide +kernel
    have hm : s.useFree.flowInMem 0 = false := by decide +kernel
    simp only [fetch, hn, hp, hm, Bool.false_eq_true, if_false, hk]
    rfl
  rw [hf]; decide +kernel

theorem witness_FlowCommands :
    (reservedFlow 8127 = false ∧ reservedFlow 8128 = true ∧ live.flowActive 0 = false ∧ runs (.dmaStart 0) live (fun t => t.flowState 0 == 1) ∧
      runs (.dmaStart 8128) live (fun t => t.on Reg.HLK_ERR F.HLK_ERR_REFUSED) ∧ runs (.semAdd 8128 1) live (fun t => t.on Reg.HLK_ERR F.HLK_ERR_REFUSED)) ∧
    (runs (.dmaStart 0) (flowAt []) (fun t => t.on Reg.HLK_ERR F.HLK_ERR_STATE) ∧ runs (.dmaStop 0) (flowAt []) (fun t => t.flowState 0 == 0) ∧
      same (.dmaStop 0) live ∧ same (.dmaResume 0) (flowAt [])) ∧
    (let s := (flowAt []).setFlowState 0 3; s.needsOn 0 = true ∧ runs (.dmaResume 0) s (fun t => t.flowState 0 == 1) ∧
      runs (.dmaResume 0) (s.setFlow 0 { needs := [domStim, domPrec, 0] }) (fun t => t.on Reg.HLK_ERR F.HLK_ERR_STATE)) ∧
    (runs (.semAdd 0 0xFFFF) (live.put (Reg.DMA_F_SEM 0) F.DMA_F_SEM_COUNT 1) (fun t => t.sem 0 == 0xFFFF && t.on Reg.DMA_FLAGS F.DMA_FLAGS_SEM_SAT)) ∧
    (let s := (flowAt [3, 0]).setFlowState 0 2; s.waitMet 0 = false ∧ same (.waitSatisfied 0) s ∧
      runs (.waitSatisfied 0) (s.put (Reg.DMA_F_SEM 0) F.DMA_F_SEM_COUNT 1) (fun t => t.flowState 0 == 1 && t.flowPc 0 == 16)) ∧
    (let s := ((flowAt (moveWords 8)).pmemPuts 1024 [1#8, 2#8, 3#8, 4#8, 5#8, 6#8, 7#8, 8#8]).setFlow 0 { mv := some aMove };
    s.streamClosed aMove = false ∧ (issueBursts s).flightsOf 0 = [8] ∧ (issueBursts s).burstCause aMove 8 = 0 ∧ (issueBursts s).burstSleeps aMove 0 8 = false ∧
      (issueBursts s).burstLate 0 aMove 8 = false ∧
      runs (.burstComplete 0) s (fun t => t.pmemByte 2055 == 8#8 && t.flowPc 0 == 32 && (t.flow 0).mv == none)) ∧
    (let v := { aMove with len := 2 ^ 16 };
    let s := (flowAt (moveWords (2 ^ 16))).setFlow 0 { mv := some v };
    let u := issueBursts s; (u.flightsOf 0).length = 4 ∧
      (u.flightsOf 0).head?.any (fun n => decide (v.done + n < v.len) && u.burstCause v n == 0 && !u.burstSleeps v 0 n && !u.burstLate 0 v n)) ∧
    (let v := { aMove with ss := 0, src := 0 };
    let s := (flowAt []).setPhase 0 phSr |>.setMch 0 { srCause := 3 } |>.setFlow 0 { mv := some v };
    let s := { s with dma := { flights := [(0, 8, 0)] } };
    (issueBursts s).burstSleeps v 0 8 = true ∧ same (.burstComplete 0) s) ∧
    (let v := { aMove with ss := 2, src := 0, len := 6 };
    let s := { (flowAt []).setFlow 0 { mv := some v } with closedEnds := [0] };
    s.streamClosed v = true ∧ runs (.burstComplete 0) s (fun t => cause 0x0A t && t.rn (Reg.DMA_F_BADCNT 0) == 1)) ∧
    (let v := { aMove with ss := 0, src := 0 };
    let s := (flowAt []).setPhase 0 phFault |>.setFlow 0 { mv := some v };
    (issueBursts s).flightsOf 0 = [8] ∧ (issueBursts s).burstCause v 8 ≠ 0 ∧ runs (.burstComplete 0) s (fun t => t.on Reg.DMA_FLAGS F.DMA_FLAGS_BAD_MOVE)) ∧
    ((live.flow 0).mv = none ∧ same (.burstComplete 0) live ∧ runs .dmaCntclr (live.wn (Reg.DMA_F_BADCNT 8191) 3) (fun t => t.rn (Reg.DMA_F_BADCNT 8191) == 0)) := by
  refine ⟨?_, ?_, ?_, ?_, ?_, ?_, ?_, ?_, ?_, ?_, ?_⟩ <;> decide +kernel

theorem witness_CompressionEngines :
    (runs (.cmpSubmitStart 0 1) (cmpState' { lo := 64 }) (fun t => (t.cmp 0).queue == [(2 ^ 32 + 64, false)] && t.rn (Reg.CMP_STATUS 0) == 256) ∧
      runs (.cmpSubmitResume 0 0) (cmpState' { queue := List.replicate 15 (0, false) }) (fun t => (t.cmp 0).queue.length == 16)) ∧
    (runs (.cmpSubmitStart 0 0) (cmpState' { queue := List.replicate 16 (0, false) }) (fun t => t.on (Reg.CMP_FLAGS 0) F.CMP_FLAGS_QUEUE_FULL)) ∧
    (let s := cmpState' { queue := [(2 ^ 30 - 63, false)] };
    s.jobTurn 0 = true ∧ s.capacity < 2 ^ 30 - 63 + 64 ∧ runs (.jobStart 0) s (fun t => t.rn (Reg.CMP_ERRCNT 0) == 1)) ∧
    (let s := (cmpState' { queue := [(2 ^ 30 - 64, false)] });
    s.jobTurn 0 = true ∧ 2 ^ 30 - 64 + 64 ≤ s.capacity) ∧
    ((live.cmp 0).queue = [] ∧ same (.jobStart 0) live ∧ same (.jobStart 0) (z.setCmp 0 { queue := [(0, false)] })) ∧
    (runs (.groupCommit 0) (cmpState' { run := some { aJob with outMax := 8 } }) (fun t => t.on (Reg.CMP_FLAGS 0) F.CMP_FLAGS_ERROR)) ∧
    (runs (.jobComplete 0) (cmpState' { run := some { aJob with trailer := true } }) (fun t => t.rn (Reg.CMP_JOBCNT 0) == 1 && t.on (Reg.CMP_FLAGS 0) F.CMP_FLAGS_DONE) ∧
      same (.groupCommit 0) (cmpState' { run := some { aJob with trailer := true } })) ∧
    (runs (.cmpAbort 0) (cmpState' { run := some aJob }) (fun t => (t.cmp 0).run == some { aJob with abort := some 0 }) ∧
      same (.cmpAbort 0) (cmpState' { run := some { aJob with abort := some 0 } }) ∧
      same (.jobComplete 0) (cmpState' { run := some aJob }) ∧ same (.cmpAbort 0) live ∧
      runs (.cmpFlush 0) (cmpState' { run := some aJob }) (fun t => (t.cmp 0).queue == []) ∧
      runs (.cmpCntclr 0) (live.wn (Reg.CMP_JOBCNT 0) 2) (fun t => t.rn (Reg.CMP_JOBCNT 0) == 0)) ∧
    (let d := leBytes 4 2 ++ leBytes 4 1 ++ leBytes 8 4096 ++ leBytes 8 8192 ++ leBytes 4 300;
    let s := (cmpState' { queue := [(0, false)] }).memPuts 0 (d ++ List.replicate 36 0#8);
    jobCheck s { aJob with opts := 0, outDone := 0, total := 0 } false 0 = none ∧ s.rangeFault 8192 8 = false ∧ s.dikeProtected 8192 8 = false ∧
      runs (.jobStart 0) s (fun t => (t.cmp 0).run == some { aJob with opts := 0 } && (t.cmp 0).queue == [])) ∧
    (let s := (cmpState' { run := some aJob }).memPuts 4096 [1#8, 0#8, 0#8];
    s.rangeFault 4096 (elemBytes 2 1) = false ∧ (nextGroup aJob s).1.2.2 = false ∧
      runs (.groupCommit 0) s (fun t => match (t.cmp 0).run with
        | some q => q.inDone == 1 && q.trailer
        | none => false)) ∧
    (let s := cmpState' { slot := some aChunk }; s.chunkTurn 0 = true ∧ runs (.chunkStart 0) s (fun t => (t.cmp 0).coding == some aChunk && (t.cmp 0).slot == none)) ∧
    (same (.chunkStart 0) live ∧ same (.chunkComplete 0) live ∧ runs (.chunkComplete 0) (cmpState' { coding := some aChunk }) (fun t => (t.cmp 0).coding == none)) ∧
    (let s := { (cmpState' { coding := some aChunk }).setPhase 0 phFault with blks := [aBlk] };
    s.blkOf 0 3 = some aBlk ∧ s.rangeFault 4096 (elemBytes 2 1) = true ∧ runs (.chunkComplete 0) s (fun t => t.blks == [{ aBlk with fail := some 9 }])) ∧
    (let s := { (((cmpState' { coding := some aChunk }).memPut 4096 1#8).memPut 4097 0#8).memPut 4098 0#8 with blks := [aBlk] };
    s.rangeFault 4096 (elemBytes 2 1) = false ∧ runs (.chunkComplete 0) s (fun t => t.blks.all (fun b => b.coded.length == 1))) := by
  refine ⟨?_, ?_, ?_, ?_, ?_, ?_, ?_, ?_, ?_, ?_, ?_, ?_, ?_, ?_⟩ <;> decide +kernel

theorem witness_SourcesPend :
    (let s := { (List.range 6).foldl (fun s d => s.setDom d 2) srcState with lines := [⟨100, true⟩], tick := 77 };
    s.lineLow 100 = false ∧ isSource 100 = true ∧ s.srcOpen 100 2 = true ∧ same .lineFall s ∧
      runs .setPulse s (fun t => t.srcPend 100 2 && t.pendTick 100 2 == 77 && t.lineHigh 100)) ∧
    (let s := { serving 1 with lines := [⟨100, true⟩] };
    runs .setPulse s (fun t => t.on (Reg.EVC_SRC_STAT 100) (evcLatch 1) && !t.srcPend 100 1)) ∧
    (let s := { pendingFor 1 with lines := [⟨100, true⟩] };
    runs .setPulse s (fun t => t.on (Reg.EVC_SRC_STAT 100) F.EVC_SRC_STAT_MERGED && t.rn Reg.EVC_MERGECNT == 1 && t.pendTick 100 1 == 77)) ∧
    (let s := { (serving 1).put (Reg.EVC_SRC_CFG 100) (evcEn 1) 0 with lines := [⟨100, true⟩] };
    s.srcOpen 100 1 = false ∧ runs .setPulse s (fun t => t.on (Reg.EVC_SRC_STAT 100) (evcLatch 1) && !t.srcPend 100 1)) ∧
    (isSource 0 = false ∧ isSource 1343 = true ∧ runs .setPulse { live with lines := [⟨0, true⟩] } (fun t => decide (t = live))) ∧
    (let s := { (pendingFor 1).put (Reg.EVC_SRC_CFG 100) F.EVC_SRC_CFG_LEVEL 1 with lines := [⟨100, false⟩] };
    s.srcLevel 100 = true ∧ same .setPulse s ∧ runs .lineFall s (fun t => !t.srcPend 100 1 && !t.lineHigh 100)) ∧
    (live.lines = [] ∧ same .setPulse live ∧ same .lineFall live) ∧
    (fldGet F.EVC_SRC_CFG_LEVEL 0#32 = (pendingFor 1).get (Reg.EVC_SRC_CFG 100) F.EVC_SRC_CFG_LEVEL ∧ runs (.srcCfgWrite 100 0 false) (pendingFor 1) (fun t => !t.srcPend 100 1 && t.srcPri 100 == 0)) ∧
    (let v := fldSet F.EVC_SRC_CFG_LEVEL 0#32 1; pulseOnly 100 = false ∧
      runs (.srcCfgWrite 100 v true) (pendingFor 1) (fun t => t.on Reg.HLK_ERR F.HLK_ERR_STATE)) ∧
    (runs .mgcSleep live (fun t => t.get Reg.EVC_SLEEP_STAT F.EVC_SLEEP_STAT_MGC == 1) ∧
      runs .mgcSleep (pendingFor 0) (fun t => t.get Reg.EVC_SLEEP_STAT F.EVC_SLEEP_STAT_MGC == 2) ∧
      runs .evcCntclr (live.wn Reg.EVC_MERGECNT 1) (fun t => t.rn Reg.EVC_MERGECNT == 0)) := by
  refine ⟨?_, ?_, ?_, ?_, ?_, ?_, ?_, ?_, ?_, ?_⟩ <;> decide +kernel

theorem witness_ClaimsAndCompletes :
    ((pendingFor 1).claimable 1 = some 100 ∧ (pendingFor 1).on (Reg.EVC_T_CTL 1) F.EVC_T_CTL_AUTO = false ∧
      runs .claimRead (pendingFor 1) (fun t => t.srcInsvc 100 1 && t.rd64 (Reg.EVC_T_CLAIM_TS_LO 1) == 77) ∧ runs .claimRead live (fun t => t.regs == live.regs) ∧
      same .claimRead (live.put (Reg.EVC_T_CTL 1) F.EVC_T_CTL_AUTO 1)) ∧
    ((pendingFor 0).claimable 0 = some 100 ∧ runs .mgcClaim (pendingFor 0) (fun t => t.runPri == 5 && t.srcInsvc 100 0) ∧ runs .mgcClaim live (fun t => t.regs == live.regs)) ∧
    ((pendingFor 0).cycNow.claims = [] ∧ (pendingFor 0).srcLevel 100 = false ∧ fldGet F.EVC_T_CTL_MASK 0x10#32 = 1 ∧
      runs .mgcClaim (pendingFor 0) (fun u => match exec (.registerWrite (BitVec.ofNat 32 (Reg.EVC_T_CTL 0)) 0x10#32 0#32 false) u with
        | .next w => w.srcPend 100 0 && !w.srcInsvc 100 0 && w.evc.run == []
        | _ => false)) ∧
    (let s := ((pendingFor 1).put (Reg.EVC_T_CTL 1) F.EVC_T_CTL_AUTO 1).setSession 3 aSession;
    s.evtSlot = some 3 ∧ s.claimable 1 = some 100 ∧ s.liveSources.countP (fun i => s.srcInsvc i 1) < s.get (Reg.EVC_T_CTL 1) F.EVC_T_CTL_WINDOW ∧
      runs .hntClaim s (fun t => t.srcInsvc 100 1 && (t.session 3).any (fun y => y.evseq == aSession.evseq + 1 && y.evs.length == 1))) ∧
    (let s := (((pendingFor 1).put (Reg.EVC_T_CTL 1) F.EVC_T_CTL_AUTO 1).setSession 3 aSession).put (Reg.EVC_T_CTL 1) F.EVC_T_CTL_WINDOW 0;
    s.get (Reg.EVC_T_CTL 1) F.EVC_T_CTL_WINDOW = 0 ∧ same .hntClaim s ∧ live.evtSlot = none ∧ same .hntClaim live) ∧
    (let s := ((pendingFor 2).put Reg.CHN_STATUS (linkFld 0) 1).put Reg.CHN_STATUS F.CHN_STATUS_ADDR 63;
    s.claimable 2 = some 100 ∧ s.linkUp 0 = true ∧ s.root = false ∧ runs .chfClaim s (fun t => t.srcInsvc 100 2 && (t.port 0).msgQ.length == 1)) ∧
    (let s := { serving 2 with chn := { live.chn with chfDone := [100] } };
    runs .chfComplete s (fun t => !t.srcInsvc 100 2 && t.chn.chfDone == []) ∧ same .chfComplete live ∧ same .chfClaim live) ∧
    (let s := ((serving 1).put (Reg.EVC_SRC_STAT 100) (evcLatch 1) 1).setPendTick 100 1 77;
    runs (.complete 1 100) s (fun t => t.srcPend 100 1 && t.pendTick 100 1 == 77 && !t.srcInsvc 100 1)) ∧
    (let s := { (serving 1).put (Reg.EVC_SRC_CFG 100) F.EVC_SRC_CFG_LEVEL 1 |>.put (Reg.EVC_SRC_STAT 100) F.EVC_SRC_STAT_LIVE 1 with lines := [⟨100, false⟩] };
    (settleFalls s).srcInsvc 100 1 = true ∧ runs (.complete 1 100) s (fun t => !t.srcInsvc 100 1 && !t.srcPend 100 1)) ∧
    (runs (.complete 0 100) live (fun t => t.on Reg.EVC_FLAGS F.EVC_FLAGS_BAD_COMPLETE) ∧
      runs (.complete 1 0) live (fun t => t.on Reg.EVC_FLAGS F.EVC_FLAGS_BAD_COMPLETE) ∧ same (.complete 2 0) live) := by
  refine ⟨?_, ?_, ?_, ?_, ?_, ?_, ?_, ?_, ?_, ?_⟩ <;> decide +kernel

theorem witness_CountersSnapshotsLog :
    (let v := fldSet F.MON_CNT_CFG_SRC (fldSet F.MON_CNT_CFG_MODE 0#32 1) 1343; isSource (fldGet F.MON_CNT_CFG_SRC v) = true ∧ fldGet F.MON_CNT_CFG_MODE v = 1 ∧
      runs (.monCntCfgWrite 639 v) (live.wn (Reg.MON_CNT_LIVE_LO 639) 3) (fun t => t.cntMode 639 == 1 && t.rn (Reg.MON_CNT_LIVE_LO 639) == 0)) ∧
    (let v := fldSet F.MON_CNT_CFG_MODE 0#32 3; fldGet F.MON_CNT_CFG_MODE v = 3 ∧ runs (.monCntCfgWrite 0 v) live (fun t => t.on Reg.HLK_ERR F.HLK_ERR_REFUSED)) ∧
    (runs .monClrAv (live.wr64 (Reg.MON_AV_UP_LO 143) 7) (fun t => t.rd64 (Reg.MON_AV_UP_LO 143) == 0)) ∧
    (let s := live.wr64 Reg.MON_SNAP_T_LO (2 ^ 20 + 327680); s.snapOk = true) ∧
    (let s := live.wr64 Reg.MON_SNAP_T_LO (2 ^ 20 + 327679); s.snapOk = false ∧ runs .snapshotArm s (fun t => t.on Reg.HLK_ERR F.HLK_ERR_STATE)) ∧
    (let s := (((live.wr64 Reg.MON_SNAP_T_LO (2 ^ 20 + 327680)).put Reg.CHN_STATUS F.CHN_STATUS_ROOT 1).put Reg.CHN_STATUS F.CHN_STATUS_STATE 2).put Reg.CHN_STATUS (linkFld 1) 1;
    s.snapOk = true ∧ s.on Reg.CHN_STATUS F.CHN_STATUS_ROOT = true ∧ s.get Reg.CHN_STATUS F.CHN_STATUS_STATE = 2 ∧ s.linkUp 1 = true) ∧
    (let s := (live.put Reg.MON_SNAP_STAT F.MON_SNAP_STAT_STATE 1).put (Reg.MON_CNT_CFG 5) F.MON_CNT_CFG_MODE 1 |>.wn (Reg.MON_CNT_LIVE_LO 5) 9;
    s.snapDue s.tick = true ∧ runs .snapshotCancel s (fun t => t.get Reg.MON_SNAP_STAT F.MON_SNAP_STAT_STATE == 3) ∧
      runs .snapshotInstant s (fun t => t.rn (Reg.MON_CNT_SNAP_LO 5) == 9 && t.on (Reg.MON_CNT_SNAP_HI 5) F.MON_CNT_SNAP_HI_VALID) ∧
      same .snapshotCancel live ∧ same .snapshotInstant live) ∧
    (let s := { live with rt := 1000 * tickUs }; runs (.temperatureUpdate [400#16]) s (fun t => t.get (Reg.MON_TEMP 0) F.MON_TEMP_NOW == 400) ∧
      same (.temperatureUpdate [400#16]) { live with rt := 1000 * tickUs - 1 }) ∧
    (let s := { live with rt := 1000 * tickUs };
    runs (.temperatureUpdate [1841#16]) s (fun t => t.on Reg.DEV_FAULT_CAUSE F.DEV_FAULT_CAUSE_THERMAL && t.dev == devFault) ∧
      runs (.temperatureUpdate [1840#16]) s (fun t => t.dev == devConfigured)) ∧
    (let s := { live.put Reg.MON_CTL F.MON_CTL_HEALTH_EN 1 with mon := { live.mon with healthAt := some 0 } };
    runs .healthRecord { s with rt := s.healthTicks } (fun t => t.on Reg.MON_FLAGS F.MON_FLAGS_HEALTH) ∧
      same .healthRecord { s with rt := s.healthTicks - 1 } ∧ same .healthRecord (live.put Reg.MON_CTL F.MON_CTL_HEALTH_EN 0)) := by
  refine ⟨?_, ?_, ?_, ?_, ?_, ?_, ?_, ?_, ?_, ?_⟩ <;> decide +kernel

theorem witness_TestUnlockAndTap :
    (let s := { live.put Reg.TST_STATUS F.TST_STATUS_STEP 1 with rt := 1000 * tickUs + 1 };
    s.unlockLate = true ∧ runs .unlockGapExpiry s (fun t => t.get Reg.TST_STATUS F.TST_STATUS_FAILCNT == 1) ∧
      same .unlockGapExpiry { live.put Reg.TST_STATUS F.TST_STATUS_STEP 1 with rt := 1000 * tickUs }) ∧
    (runs (.tstUnlockWrite 0x54455354 0 false) live (fun t => t.get Reg.TST_STATUS F.TST_STATUS_STEP == 1) ∧
      runs (.tstUnlockWrite 0x54455355 0 false) live (fun t => t.get Reg.TST_STATUS F.TST_STATUS_FAILCNT == 1)) ∧
    (let s := live.put Reg.TST_STATUS F.TST_STATUS_STEP 2;
    s.unlockLate = false ∧ runs (.tstUnlockWrite (unlockWord s 2) 0 false) s (fun t => t.tstOpen)) ∧
    (let s := (memState phReady).put Reg.TST_STATUS F.TST_STATUS_UNLOCKED 1; let v := fldSet F.TST_CHNERR_COUNT 0#32 1;
    runs (.tstCaparFire 0) s (fun t => t.mon.capar == some (0, 0)) ∧ fldGet F.TST_CHNERR_KIND v ≠ 3 ∧
      runs (.tstChnerrFire v) s (fun t => t.mon.chnerr == some (0, 0, 1)) ∧ same (.tstChnerrFire v) live ∧ runs .testLock s (fun t => !t.tstOpen)) ∧
    (runs (.tapInstruction 2) live (fun t => t.tap.dr == some 0x19144B47) ∧ runs (.tapInstruction 6) live (fun t => t.tap.ir == 6) ∧
      runs (.tapInstruction 7) live (fun t => t.tap.ir == 0xFF && t.tap.dr == some 0) ∧ runs .tapReset live (fun t => t.tap == {})) := by
  refine ⟨?_, ?_, ?_, ?_, ?_⟩ <;> decide +kernel

/-! ### Witnesses: power, resets, start-up, stores, register writes -/

/-- In CONFIGURED with no domain up and none to be up. -/
def dark : State := (inDev devConfigured).wn Reg.PWR_DOM_CTL 0
/-- Start-up at a stage; a flow that is asked to park at real time 0. -/
def atStage (n : Nat) : State := z.put Reg.DEV_BOOT_STAT F.DEV_BOOT_STAT_STAGE n
def parking' : State := { flowAt [] with flows := [] }.setFlow 5 { mv := some aMove, park := some ([domMem], 0) }
def result (x : Nat) (t : State) : Bool := t.get Reg.CFG_STATUS F.CFG_STATUS_RESULT == x && t.on Reg.CFG_FLAGS F.CFG_FLAGS_CMD_DONE

theorem witness_PowerDomains :
    (runs (.domainPowerUp 5) z (fun t => bitOf (t.rn Reg.PWR_DOM_CTL) 5) ∧ runs (.domainPowerDown 5) z (fun t => !bitOf (t.rn Reg.PWR_DOM_CTL) 5)) ∧
    (dark.dev ≠ devBoot ∧ dark.faultOff = false ∧ dark.dom 5 = 0 ∧ (List.range 6).all (fun e => !dark.domTarget e && dark.dom e == 0) = true ∧
      runs (.domainPowerUp 5) dark (fun t => t.dom 5 == 1 && bitOf (t.rn Reg.PWR_DOM_CTL) 5)) ∧
    (let s := dark.setDom 5 2; s.dom 5 = 2 ∧ (∀ n < 16, s.fchState n = 0 ∧ s.calBusy n = false ∧ s.stoState n = 0) ∧ (∀ g < 16, s.gRunning g = false)) ∧
    (dark.dom 3 ≠ 1 ∧ same (.domainOn 3) dark ∧ same (.domainOff 3) dark ∧
      runs (.domainOn 7) (z.setDom 7 1) (fun t => t.dom 7 == 2)) ∧
    (let s := (dark.setDom 5 3); s.parkWaits 5 = false ∧ (tilePortsEnd 5 s).tileRuns 5 = false) ∧
    ((dark.setDom 5 1).dom 5 = 1 ∧ dark.dev ≠ devStandby) ∧
    ((parking'.flow 5).park = some ([domMem], 0) ∧
      runs .parkTimeout { parking' with rt := usTicks 100 } (fun t => (parkTimes t).on Reg.PWR_FLAGS F.PWR_FLAGS_PARK_TIMEOUT && ((parkTimes t).flow 5).park == none) ∧
      same .parkTimeout { parking' with rt := usTicks 100 - 1 }) ∧
    (runs (.avsAlert 3 false) (dark.put Reg.PWR_AVS_STAT F.PWR_AVS_STAT_ALERT 1) (fun t => !t.on Reg.PWR_AVS_STAT F.PWR_AVS_STAT_ALERT && keeps dark t [Reg.PWR_AVS_STAT]) ∧
      runs (.avsAlert 3 true) dark (fun t => t.get Reg.PWR_AVS_STAT F.PWR_AVS_STAT_STATUS == 3 && t.on Reg.PWR_FLAGS F.PWR_FLAGS_AVS_ALERT)) ∧
    (let s := { dark with pwr := { dark.pwr with devSince := some 0 } };
    runs .vddcDev { s with rt := usTicks 200 + 1 } (fun t => t.on Reg.PWR_FLAGS F.PWR_FLAGS_VDDC_DEV) ∧
      same .vddcDev { s with rt := usTicks 200 } ∧ same .vddcDev dark ∧ runs .pwrCntclr (dark.wn Reg.PWR_LOSTCNT 1) (fun t => t.rn Reg.PWR_LOSTCNT == 0)) := by
  refine ⟨?_, ?_, ?_, ?_, ?_, ?_, ?_, ?_, ?_⟩ <;> decide +kernel

theorem witness_StandbyAndFault :
    (dark.pwr.entering = none ∧ same .standbyEntered dark ∧ same .wakeComplete dark) ∧
    (let s := { dark with pwr := { dark.pwr with entering := some 0, parkAsked := true } };
    (standbySettle s.noOut).standbyWaits = false ∧ runs .standbyEntered s (fun t => t.dev == devStandby && t.dom 5 == 0)) ∧
    ((dark.put (Reg.POL_G_STATUS 0) F.POL_G_STATUS_DRAINING 1).standbyWaits = true) ∧
    (let s := { dark.setDev devStandby with pwr := { dark.pwr with waking := some (0, true) } };
    s.wakeReady = false ∧ same .wakeComplete s) ∧
    (runs (.deviceFault 4 0) z (fun t => t.get Reg.DEV_BOOT_STAT F.DEV_BOOT_STAT_STAGE == 0xFF && t.on Reg.DEV_FAULT_CAUSE ⟨4, 1⟩) ∧
      runs (.deviceFault 3 7) dark (fun t => t.dev == devFault && t.get Reg.PWR_RAIL_STAT F.PWR_RAIL_STAT_RAILS == 7)) ∧
    ((showRails 0x3FF dark).rn Reg.PWR_RAIL_STAT = 0x3FF ∧ runs (.deviceFault 2 0x3FF) dark (fun t => t.dev == devConfigured) ∧
      runs (.deviceFault 2 0x3FE) dark (fun t => t.dev == devFault)) ∧
    ((∀ g < 16, dark.gRunning g = false) ∧ dark.on Reg.DEV_FAULT_CAUSE F.DEV_FAULT_CAUSE_THERMAL = false) := by
  refine ⟨?_, ?_, ?_, ?_, ?_, ?_, ?_⟩ <;> decide +kernel

theorem witness_Resets :
    (runs .powerOnReset live (fun t => t.regs == [] && t.dev == devBoot && t.tick == 0) ∧
      runs .powerCollapse live (fun t => t.boot.held && t.regs == []) ∧ same .pinReset { z with boot := { z.boot with held := true } }) ∧
    (live.boot.held = false ∧ live.log.length < 1024 ∧ runs .pinReset live (fun t => t.rn Reg.DEV_RESET_CAUSE == 2 && t.log.map LogEntry.code == [2])) ∧
    (let s := live.put Reg.MON_SNAP_STAT F.MON_SNAP_STAT_STATE 1;
    s.get Reg.MON_SNAP_STAT F.MON_SNAP_STAT_STATE = 1 ∧ runs .pinReset s (fun t => t.get Reg.MON_SNAP_STAT F.MON_SNAP_STAT_STATE == 3)) ∧
    (live.boot.warmWait = none ∧ same .warmSealTimeout live) ∧
    (let s := { dark with boot := { dark.boot with warmWait := some 0 } };
    s.recordsDone = true ∧ runs .warmSealTimeout s (fun t => t.dev == devBoot && t.rn Reg.DEV_RESET_CAUSE == 8)) ∧
    (let s := { (dark.put (Reg.POL_G_STATUS 0) F.POL_G_STATUS_DRAINING 1) with boot := { live.boot with warmWait := some 0 }, rt := usTicks 2000 - 1 };
    s.recordsDone = false ∧ same .warmSealTimeout s) ∧
    (let s := { parking' with boot := { live.boot with warmWait := some 0, warmPark := true } };
    s.parking = true ∧ same .warmSealTimeout s ∧ runs .warmSealTimeout { s with flows := [] } (fun t => t.dev == devBoot)) ∧
    (warmKept Reg.CKS_EPOCH = true ∧ (warmClear (dark.wn Reg.CKS_EPOCH 5)).rn Reg.CKS_EPOCH = 5) := by
  refine ⟨?_, ?_, ?_, ?_, ?_, ?_, ?_, ?_⟩ <;> decide +kernel

theorem witness_StartUp :
    ((atStage 1).stage = 1 ∧ (atStage 1).dev = devBoot ∧ same (.bootStageEnd 0 { settings := [] } 800) live ∧ same (.bootStageEnd 0 { settings := [] } 800) { z with boot := { z.boot with held := true } }) ∧
    (runs (.bootStageEnd 3 { settings := [], factory := true } 800) (atStage 1) (fun t => t.stage == 0xFF && t.on Reg.DEV_FAULT_CAUSE F.DEV_FAULT_CAUSE_STORE)) ∧
    (runs (.bootStageEnd 3 { settings := [] } 800) (atStage 2) (fun t => t.stage == 3 && t.get Reg.CKS_REF_CTL F.CKS_REF_CTL_REFSEL == 3)) ∧
    ((atStage 3).clocksRun = false ∧ same (.bootStageEnd 0 { settings := [] } 800) (atStage 3)) ∧
    ((atStage 5).memoryTrained = true ∧ runs (.bootStageEnd 0 { settings := [] } 800) (atStage 5) (fun t => t.stage == 6)) ∧
    (let s := { atStage 6 with boot := { z.boot with imageDone := true } };
    (s.hif 0).held = false ∧ runs (.bootStageEnd 0 { settings := [] } 800) s (fun t => t.stage == 7) ∧ same (.bootStageEnd 0 { settings := [] } 800) (atStage 6)) ∧
    (let s := ({ atStage 7 with boot := { z.boot with imageDone := true, into := devUnconfigured } }).setHif 0 { held := true };
    runs .bootEnd s (fun t => t.dev == devUnconfigured && t.stage == 8) ∧ same .bootEnd live ∧ same .bootEnd (atStage 7) ∧
      same .bootEnd { atStage 7 with boot := { z.boot with imageDone := true } }) := by
  refine ⟨?_, ?_, ?_, ?_, ?_, ?_, ?_⟩ <;> decide +kernel

theorem witness_StoreCommands :
    (let s := (memState phReady).memPuts 0 (List.replicate 64 0#8);
    s.on Reg.CFG_STATUS F.CFG_STATUS_BUSY = false ∧ s.memReady = true ∧ imgCheck (stagedImage s).2 false (stagedImage s).1 ≠ 0 ∧ runs (.slotWrite 0) s (result 2)) ∧
    (let s := dark.put Reg.CFG_STATUS F.CFG_STATUS_BUSY 1;
    s.on Reg.CFG_STATUS F.CFG_STATUS_BUSY = true ∧ runs (.slotWrite 0) s (fun t => t.on Reg.HLK_ERR F.HLK_ERR_STATE) ∧
      runs (.saveSettings true) s (fun t => t.on Reg.HLK_ERR F.HLK_ERR_STATE) ∧ runs (.eraseSettings true) s (fun t => t.on Reg.HLK_ERR F.HLK_ERR_STATE)) ∧
    (runs (.slotWrite 2) dark (fun t => t.on Reg.HLK_ERR F.HLK_ERR_REFUSED) ∧ runs (.slotErase 3 true) dark (fun t => t.on Reg.HLK_ERR F.HLK_ERR_REFUSED)) ∧
    (let s := { dark with cfg := { dark.cfg with writing := some (1, [7#8]) } };
    runs (.slotWriteComplete true) s (fun t => result 1 t && t.slotImage 1 == some [7#8]) ∧
      runs (.slotWriteComplete false) s (fun t => result 3 t && t.on Reg.CFG_FLAGS F.CFG_FLAGS_NV_FAIL) ∧ same (.slotWriteComplete true) dark) ∧
    (dark.on Reg.CFG_STATUS F.CFG_STATUS_BUSY = false ∧ runs (.slotErase 1 true) dark (result 1) ∧ runs (.slotErase 1 false) dark (result 3)) ∧
    (runs (.eraseSettings false) dark (result 3) ∧
      runs (.saveSettings false) dark (result 3)) ∧
    (let s := (memState phReady).memPuts 0 (List.replicate 64 0#8);
    s.on Reg.CFG_STATUS F.CFG_STATUS_BUSY = false ∧ s.memReady = true ∧ s.stageAddr + 64 ≤ s.capacity ∧ onCurve 0 0 = false ∧ runs (.keyInstall 1 true true) s (result 2)) ∧
    (let s := (memState phReady).memPuts 0 (beBytes 32 ecGx ++ beBytes 32 ecGy);
    onCurve ecGx ecGy = true ∧ (ofBe ((memRead 0 64 s).1.take 32), ofBe ((memRead 0 64 s).1.drop 32)) = (ecGx, ecGy)) ∧
    (let s := (memState phReady).wr64 Reg.CFG_STAGE_LO (2 ^ 30 - 63);
    s.capacity < s.stageAddr + 64 ∧ s.on Reg.CFG_STATUS F.CFG_STATUS_BUSY = false ∧ s.memReady = true ∧ runs (.keyInstall 1 true true) s (result 2)) ∧
    (let s := { memState phReady with nv := { keys := [(1, ecGx, ecGy)] } };
    s.on Reg.CFG_STATUS F.CFG_STATUS_BUSY = false ∧ s.memReady = true ∧
      runs (.keyRemove 1 false true) s (fun t => t.nv.keys.length == 1)) ∧
    (let s := { memState phReady with nv := { keys := [(1, ecGx, ecGy)] } };
    s.on Reg.CFG_STATUS F.CFG_STATUS_BUSY = false ∧ s.memReady = true ∧ s.keyPoint 1 ≠ none ∧ runs (.keyExport 1) s (result 1) ∧ runs (.keyExport 2) s (result 2)) := by
  refine ⟨?_, ?_, ?_, ?_, ?_, ?_, ?_, ?_, ?_, ?_, ?_⟩ <;> decide +kernel

theorem witness_ShadowListsAndBootImage :
    (let v := fldSet F.CFG_SH_ADDR_ADDR 0#32 (Reg.POL_G_PRE_T 0 / 4);
    live.shadowable 0 (Reg.POL_G_PRE_T 0) = true ∧ runs (.shadowAddrWrite 0 255 v) live (fun t =>
      t.get (Reg.CFG_SH_ADDR 0 255) F.CFG_SH_ADDR_ADDR == Reg.POL_G_PRE_T 0 / 4) ∧
      live.shadowable 0 0 = false ∧ runs (.shadowAddrWrite 0 255 0) live (fun t => t.on Reg.HLK_ERR F.HLK_ERR_REFUSED)) ∧
    (let s := live.put (Reg.CFG_SH_ADDR 15 0) F.CFG_SH_ADDR_ADDR (Reg.POL_G_PRE_T 15 / 4);
    s.shadowable 15 (Reg.POL_G_PRE_T 15) = true ∧ shadowValueBad 15 (Reg.POL_G_PRE_T 15) 7#32 s = false ∧
      runs (.shadowDataWrite 15 0 7) s (fun t => t.on (Reg.CFG_G_SHADOW 15) F.CFG_G_SHADOW_PENDING && t.rn (Reg.CFG_SH_DATA 15 0) == 7)) ∧
    (runs (.shadowDataWrite 15 0 7) live (fun t => t.on Reg.HLK_ERR F.HLK_ERR_REFUSED)) ∧
    (let s := (atStage 6).put Reg.CFG_CTL F.CFG_CTL_BOOT_EN 1;
    s.dev = devBoot ∧ s.channelsTrained = true ∧ s.on Reg.CFG_CTL F.CFG_CTL_BOOT_EN = true) ∧
    (let s := (atStage 6).put Reg.CFG_CTL F.CFG_CTL_BOOT_EN 0;
    s.channelsTrained = true ∧ runs .bootActivation s (fun t => t.boot.imageDone && t.boot.into == devUnconfigured) ∧ same .bootActivation live) ∧
    (shadowed.handNow 0 = true ∧ shadowed.handBusy 0 = false ∧ shadowBad 0 (shadowed.shadowList 0) shadowed = true ∧
      runs (.handover 0) shadowed (fun t => t.on (Reg.CFG_G_SHADOW 0) F.CFG_G_SHADOW_HOLD && t.on Reg.CFG_FLAGS F.CFG_FLAGS_SHADOW_REJECT)) ∧
    (let s := (shadowed.wr64 (Reg.POL_G_POST_T_LO 0) 1).wr64 (Reg.POL_G_SPAN_LO 0) 1;
    shadowBad 0 (s.shadowList 0) s = false ∧
      runs (.handover 0) s (fun t => !t.on (Reg.CFG_G_SHADOW 0) F.CFG_G_SHADOW_PENDING && t.on Reg.CFG_FLAGS F.CFG_FLAGS_HANDOVER)) ∧
    (let s := { shadowed with cfg := { shadowed.cfg with handAt := some shadowed.rt } }; s.handBusy 0 = true ∧ same (.handover 0) s) ∧
    (live.handNow 0 = false ∧ same (.handover 0) live) := by
  refine ⟨?_, ?_, ?_, ?_, ?_, ?_, ?_, ?_, ?_⟩ <;> decide +kernel

theorem witness_RegisterWrites :
    ((blockOf 0xFFFFFFFC).isNone = true ∧ runs (.registerWrite 0xFFFFFFFC 1 0 false) live (fun t => t.on Reg.HLK_ERR F.HLK_ERR_ADDRESS) ∧
      runs (.registerWrite 0x110001 1 0 false) live (fun t => t.on Reg.HLK_ERR F.HLK_ERR_ADDRESS)) ∧
    (let s := live.setDev devStandby; s.standbyBlocked (Reg.FCH_CTL 0) = true ∧
      runs (.registerWrite (BitVec.ofNat 32 (Reg.FCH_CTL 0)) 1 0 false) s (fun t => t.on Reg.HLK_ERR F.HLK_ERR_STATE)) ∧
    (runs (.registerWrite 0 1 0 false) live (fun t => keeps live t []) ∧
    let s := live.wr Reg.MON_FLAGS 3#32;
    runs (.registerWrite (BitVec.ofNat 32 Reg.MON_FLAGS) 1 0 false) s (fun t => t.rd Reg.MON_FLAGS == 2#32 && keeps s t [Reg.MON_FLAGS])) ∧
    (let s := live.setFlag Reg.MON_FLAGS ⟨0, 1⟩;
    runs (.registerWrite (BitVec.ofNat 32 Reg.MON_FLAGS) 1 0 false) s (fun t => t.rd Reg.MON_FLAGS == 1#32)) ∧
    (rowOf 0xFFFC = none ∧ live.standbyBlocked 0xFFFC = false ∧ same (.registerWrite 0xFFFC 1 0 false) live) ∧
    (let v (n : Nat) := fldSet F.MON_TEMP_WARN_DEG 0#32 n;
    runs (.registerWrite (BitVec.ofNat 32 Reg.MON_TEMP_WARN) (v 60) 0 false) live (fun t => t.get Reg.MON_TEMP_WARN F.MON_TEMP_WARN_DEG == 60) ∧
      runs (.registerWrite (BitVec.ofNat 32 Reg.MON_TEMP_WARN) (v 110) 0 false) live (fun t => t.get Reg.MON_TEMP_WARN F.MON_TEMP_WARN_DEG == 110) ∧
      runs (.registerWrite (BitVec.ofNat 32 Reg.MON_TEMP_WARN) (v 111) 0 false) live (fun t => t.on Reg.HLK_ERR F.HLK_ERR_REFUSED)) ∧
    (let v := fldSet F.EVC_T_CTL_THRESH 0#32 3;
    live.cycNow.claims = [] ∧ runs (.registerWrite (BitVec.ofNat 32 (Reg.EVC_T_CTL 0)) v 0 false) live (fun t => t.get (Reg.EVC_T_CTL 0) F.EVC_T_CTL_THRESH == 3) ∧
      same (.registerWrite (BitVec.ofNat 32 (Reg.EVC_T_CTL 0)) v 5 false) live) := by
  refine ⟨?_, ?_, ?_, ?_, ?_, ?_, ?_⟩ <;> decide +kernel

/-! ### Witnesses: host link -/

/-- Interface 0 is up and holds address 7; session 2, with identifier 5, expects request 7 there; a request of that session. -/
def linked (s : State) : State := (s.put Reg.HLK_STATUS F.HLK_STATUS_LINK 1).setHif 0 { held := true, addr := 7#32, dhcp := 2, lease := 10 }
def talk (s : State) : State := (linked s).setSession 2 aSession
def req (seq : Nat) (data : List Byte) : Msg :=
  { iface := 0, v6 := false, flags := 0#16, sess := 5#32, seq := BitVec.ofNat 32 seq, data := data, tag := [] }
def status (t : State) : Option Nat := t.hlk.out.head?.map (fun f => leAt f.data 20 2)
def answers (st : Nat) (t : State) : Bool := status t == some st && t.hlk.out.length == 1

/-- A register request with words, a memory request, a block read, a group command, a device command with a parameter. -/
def regs' (n : Nat) (l : List Nat) : List Byte := leBytes 2 n ++ leBytes 2 0 ++ l.flatMap (leBytes 4)
def memReq (space a n : Nat) : List Byte := leBytes 4 space ++ leBytes 4 n ++ leBytes 8 a
def blkReq (id frame len : Nat) : List Byte := [1#8, 0#8, 0#8, BitVec.ofNat 8 id] ++ leBytes 2 frame ++ leBytes 2 4 ++ leBytes 8 0 ++ leBytes 8 len
def order (scope mask param : Nat) : List Byte := leBytes 1 scope ++ leBytes 2 mask ++ leBytes 4 param ++ leBytes 8 0
def ofOp (op : Nat) (m : Msg) : Msg := { m with data := BitVec.ofNat 8 op :: m.data }
def plainBlk : BlkStream := { sess := 2, id := 3, seq := 9, space := 1, mode := 0, elem := 0, frame := 64, window := 1, addr := 0, len := 100 }

/-- An image of one empty NOTE section, signed with key 1 (private key 1, nonce 2): 17_configuration.md R429 to R432. -/
def image : List Byte := leBytes 4 0x474D4952 ++ leBytes 2 1 ++ leBytes 2 0x40 ++ leBytes 4 192 ++ leBytes 4 1 ++ leBytes 4 0x9144AF00 ++
  leBytes 4 0 ++ leBytes 8 0x1122334455 ++ leBytes 4 7 ++ leBytes 28 1 ++ [9#8, 0#8, 0xFF#8, 0#8] ++ leBytes 4 0x80 ++ leBytes 56 0 ++
  beBytes 32 0x7cf27b188d034f7e8a52380304b51ac3c08969e277f21b35a60b48fc47669978 ++
  beBytes 32 0xe15ff2c6176e54b1d6988775eeefda55bc4e49a39f985d920ef958918711dc3a
def loadable : State := { (inDev devUnconfigured).put Reg.CKS_STATUS F.CKS_STATUS_LOCKED 1 with nv := { keys := [(1, ecGx, ecGy)], slots := [(1, image)] } }
/-- ARM, HALT or STOP of group 15 held for the chain, at a tick. -/
def heldCmd (op at' : Nat) : ChnCmd := { op := op, cseq := 1, groups := 0x8000, at_ := at' }

/-- A PTP event message of a type, received by interface 0. -/
def ptp (typ : Nat) : PtpMsg :=
  { iface := 0, received := true, domain := 0, data := BitVec.ofNat 8 typ :: List.replicate 43 0#8, resid := 256, mapping := none }

theorem witness_LinksAndAddresses :
    (dark.ifExists 0 = true ∧ dark.ifExists 1 = false ∧ runs (.linkUp 0 { eye := 9 }) dark (fun t => t.hlkUp 0) ∧
      runs (.linkUp 0 { eye := 5 }) ((linked dark).put Reg.HLK_EYE ⟨0, 8⟩ 9) (fun t => t.get Reg.HLK_EYE ⟨0, 8⟩ == 5) ∧
      same (.linkUp 1 { eye := 9 }) dark ∧ dark.linkAgrees { eye := 9, phys := [] } = false ∧ same (.linkUp 0 { eye := 9, phys := [] }) dark ∧
      runs (.linkDown 0) (linked dark) (fun t => !t.hlkUp 0 && t.on Reg.HLK_FLAGS F.HLK_FLAGS_LINK_DOWN) ∧ same (.linkDown 0) dark) ∧
    (runs (.macDiscard true) dark (fun t => t.rn Reg.HLK_MACDROP == 1 && t.on Reg.HLK_FLAGS F.HLK_FLAGS_RX_OVERFLOW) ∧
      runs (.pauseFrame 0 0xFFFF) (linked dark) (fun t => (t.hif 0).pause == 0xFFFF * dark.quantumTicks) ∧ same (.pauseFrame 0 1) dark) ∧
    ((linked dark).reachable 0 false = true ∧ ((linked dark).hif 0).addr = 7#32 ∧ same (.arpRequest 0 1 2 8) (linked dark) ∧ same (.arpRequest 0 1 2 7) dark) ∧
    ((linked dark).reachable 0 true = true ∧ same (.neighbourSolicitation 3) dark ∧
      runs (.echoRequest 0 false [1#8, 2#8]) (linked dark) (fun t => t.hlk.out.map (fun f => f.data.drop 2) == [[1#8, 2#8]]) ∧
      same (.echoRequest 1 false []) (linked dark)) ∧
    (((linked dark).wn (Reg.HLK_IPV6_W 0) 5).reachable 0 true = true ∧ { linked dark with hlk := { dark.hlk with active := [(Reg.HLK_IPV6_W 0, 5#32)] } }.ipv6Global = 5 ∧
      same (.echoRequest 0 true (List.replicate 9198 0#8)) (linked dark) ∧ (linked dark).act (Reg.HLK_IF_CFG 0) F.HLK_IF_CFG_MTU < 9242 ∧
      same (.dhcpReply 0 9 8 7 1) ((linked dark).setHif 0 { held := true }) ∧ same (.leaseRenewal 0) { (linked dark).setHif 0 { dhcp := 2, lease := 10, asked := 10 * 500000 * tickUs } with rt := 2 ^ 60 }) ∧
    (runs (.dhcpReply 0 9 8 7 3600) (linked dark) (fun t => (t.hif 0).addr == 9#32 && (t.hif 0).held)) ∧
    (let s := (linked dark).setHif 0 { dhcp := 1 };
    runs (.dhcpTimeout 0) { s with rt := 10000000 * tickUs } (fun t => (t.hif 0).dhcp == 3 && t.on Reg.HLK_FLAGS F.HLK_FLAGS_DHCP_FAIL) ∧
      same (.dhcpTimeout 0) { s with rt := 10000000 * tickUs - 1 } ∧ same (.dhcpRetry 0) s) ∧
    (let s := (linked dark).setHif 0 { dhcp := 3 };
    runs (.dhcpRetry 0) { s with rt := 60000000 * tickUs } (fun t => t.hlk.out.map FrameOut.kind == [4])) ∧
    (runs (.leaseRenewal 0) { linked dark with rt := 10 * 500000 * tickUs } (fun t => t.hlk.out.map FrameOut.port == [68]) ∧
      same (.leaseRenewal 0) { linked dark with rt := 10 * 500000 * tickUs - 1 } ∧ runs .dhcpRenew (linked dark) (fun t => (t.hif 0).asked == 0)) := by
  refine ⟨?_, ?_, ?_, ?_, ?_, ?_, ?_, ?_, ?_⟩ <;> decide +kernel

theorem witness_PtpMessages :
    (let m : PtpMsg := { ptp 2 with mapping := some (5, 6, 7, 8), sub := 3 };
    same (.ptpEventMessage m) dark ∧ runs (.ptpEventMessage m) (linked dark) (fun t => t.hlk.ptpTs == dark.tick + 3 && t.hlk.out == []) ∧
      runs (.ptpEventMessage m) (((linked dark).put Reg.CHN_PTP_CTL F.CHN_PTP_CTL_ROLE 1).put Reg.CHN_STATUS F.CHN_STATUS_ROOT 1)
        (fun t => t.rd64 Reg.CHN_MAP_TICK_LO == 5 && t.rn Reg.CHN_MAP_NS == 7 && t.chn.mapDirty)) ∧
    (let m := ptp 0;
    let c := fldSet F.HLK_CTL_MODE (resetWord Reg.HLK_CTL) 2;
    let s := ((linked dark).put Reg.HLK_STATUS F.HLK_STATUS_LINK 3).put Reg.CHN_PTP_CTL F.CHN_PTP_CTL_ROLE 3;
    runs (.ptpEventMessage m) { s with hlk := { s.hlk with active := [(Reg.HLK_CTL, c)] } } (fun t => t.hlk.out.map FrameOut.data == [addResidence 256 m.data])) ∧
    (let s := ((linked dark).put Reg.CHN_PTP_CTL F.CHN_PTP_CTL_ROLE 2).put Reg.CHN_STATUS F.CHN_STATUS_ROOT 1;
    runs (.ptpEventMessage (ptp 1)) s (fun t => t.hlk.out.map FrameOut.data == [ptpAnswer 9 (ptp 1).data (s.ptpStamp s.tick) (ptpPortOf (ptp 1).data)]) ∧
      runs (.ptpEventMessage { ptp 1 with received := false }) s (fun t => t.hlk.out.map FrameOut.data == [(ptp 1).data])) := by
  refine ⟨?_, ?_, ?_⟩ <;> decide +kernel

theorem witness_KeysAndRelink :
    (runs .relink (talk dark) (fun t => (t.session 2).isNone && !t.hlkUp 0)) ∧
    (runs (.keyErase false) dark (fun t => t.on Reg.HLK_ERR F.HLK_ERR_REFUSED) ∧
      runs .hlkCntclr (dark.wn Reg.HLK_RXCNT 4) (fun t => t.rn Reg.HLK_RXCNT == 0)) := by
  refine ⟨?_, ?_⟩ <;> decide +kernel

theorem witness_SessionsAndSequence :
    (same (.openMsg (msg 36 0 0)) dark ∧ runs (.openMsg (msg 35 0 0)) (linked dark) (answers 0x0D) ∧ (linked dark).freeSlot = some 0) ∧
    (let s := (List.range 8).foldl (fun s k => s.setSession k { aSession with id := k + 1 }) (linked dark);
    s.freeSlot = none ∧ runs (.openMsg (msg 36 0 0)) s (answers 0x0C)) ∧
    (let s := linked dark; let m : Msg := { msg 0 0 0 with data := 2#8 :: List.replicate 35 0#8 };
    bitOf (leAt m.data 0 2) 1 = true ∧ s.nv.key = none ∧ runs (.openMsg m) s (answers 0x0A)) ∧
    (let s := linked dark; s.act Reg.HLK_CTL F.HLK_CTL_AUTH_REQ = 0 ∧ bitOf (leAt (msg 36 0 0).data 0 2) 1 = false) ∧
    (same (.keepalive (req 7 [])) dark ∧ runs (.keepalive (req 7 [])) (linked dark) (answers 0x0B) ∧
      runs (.keepalive (req 7 [])) ((linked dark).setSession 2 { aSession with auth := true }) (fun t => t.rn Reg.HLK_AUTHFAIL == 1 && t.hlk.out == [])) ∧
    (runs (.keepalive (req 7 [])) (talk dark) (answers 0) ∧ runs (.closeMsg (req 7 [])) (talk dark) (fun t => (t.session 2).isNone && answers 0 t)) ∧
    (let s := (linked dark).setSession 2 { aSession with busy := true };
    runs (.keepalive (req 7 [])) s (fun t => t == received 2 s) ∧
      runs (.keepalive (req 14 [])) s (fun t => (t.session 2).any (fun y => y.buf.length == 1))) ∧
    (runs (.keepalive (req 15 [])) (talk dark) (fun t => t.rn Reg.HLK_DROPCNT == 1 && t.on Reg.HLK_FLAGS F.HLK_FLAGS_SEQ_DROP) ∧
      runs (.keepalive (req 6 [])) (talk dark) (fun t => t.rn Reg.HLK_DUPCNT == 1 && t.hlk.out == []) ∧
      runs (.keepalive (req 6 [])) ((linked dark).setSession 2 { aSession with cache := [(6, [9#8])] }) (fun t => t.hlk.out.map FrameOut.data == [[9#8]]) ∧
      runs (.keepalive (req (2 ^ 32 - 2) [])) (talk dark) (answers 0x10)) ∧
    (runs (.eventAck (req 7 [])) (talk dark) (answers 0x0D) ∧
      runs (.eventAck (req 7 (leBytes 4 1 ++ leBytes 4 1 ++ leBytes 2 100))) (talk (serving 1)) (fun t => answers 0 t && !t.srcInsvc 100 1)) ∧
    (let s := { talk dark with rt := dark.rn Reg.HLK_SESS_TO * 1000 * tickUs };
    runs (.sessionTimeout 2) s (fun t => (t.session 2).isNone) ∧ same (.sessionTimeout 2) (talk dark) ∧ same (.sessionTimeout 0) dark ∧ same (.eventRto 0) dark) ∧
    (let e (n : Nat) : EvOut := ⟨3, [1#8], n, 0⟩;
    let s := { (linked dark).setSession 2 { aSession with evs := [e 15] } with rt := dark.get Reg.HLK_RTO F.HLK_RTO_EVT * tickUs };
    runs (.eventRto 2) s (fun t => t.hlk.out.length == 1) ∧ runs (.eventRto 2) (s.setSession 2 { aSession with evs := [e 16] }) (fun t => (t.session 2).isNone) ∧
      same (.eventRto 2) { s with rt := 0 }) := by
  refine ⟨?_, ?_, ?_, ?_, ?_, ?_, ?_, ?_, ?_, ?_, ?_⟩ <;> decide +kernel

theorem witness_RegisterAndMemoryRequests :
    (same (.unknownMessage 0 false []) dark ∧ wellFramed [] = false ∧ runs (.unknownMessage 0 false []) (linked dark) (fun t => t.rn Reg.HLK_DROPCNT == 1)) ∧
    (let b := leBytes 2 0x5442 ++ [1#8, 0x7F#8] ++ List.replicate 20 0#8;
    wellFramed b = true ∧ hostTypes.contains (leAt b 3 1) = false ∧ runs (.unknownMessage 0 false b) (linked dark) (answers 0x0E)) ∧
    (let b := leBytes 2 0x5442 ++ [1#8, 0x7F#8] ++ leBytes 4 0 ++ leBytes 4 5 ++ List.replicate 12 0#8;
    wellFramed b = true ∧ (talk dark).sessSlot (parseMsg 0 false 47150 b).sess.toNat = some 2 ∧ runs (.unknownMessage 0 false b) (talk dark) (answers 0x0E)) ∧
    (let b := leBytes 2 0x5442 ++ [1#8, 0x30#8] ++ leBytes 2 0 ++ leBytes 2 1 ++ leBytes 4 5 ++ leBytes 4 7 ++ List.replicate 8 0#8 ++ [0x7F#8];
    wellFramed b = true ∧ (parseMsg 0 false 47150 b).data ≠ [] ∧ runs (.unknownMessage 0 false b) (talk dark) (answers 0x0E)) ∧
    (regReqBad (regs' 1 [Reg.DEV_ID]) 4 = false ∧ runs (.regRead (req 7 (regs' 1 [Reg.DEV_ID]))) (talk dark) (answers 0) ∧
      runs (.regRead (req 7 (regs' 1 [3]))) (talk dark) (answers 4) ∧ runs (.regRead (req 7 (regs' 0 []))) (talk dark) (answers 0x0D)) ∧
    (runs (.regWrite (req 7 (regs' 1 [3, 5]))) (talk dark) (fun t => answers 4 t && t.on Reg.HLK_ERR F.HLK_ERR_ADDRESS) ∧
      runs (.regWrite (req 7 (regs' 1 [Reg.DEV_ID]))) (talk dark) (answers 0x0D)) ∧
    (memBad (memReq 1 (2 ^ 22 - 1) 1) = false ∧ runs (.memRead (req 7 (memReq 1 (2 ^ 22 - 1) 1))) (talk dark) (answers 0) ∧
      runs (.memRead (req 7 (memReq 1 (2 ^ 22) 1))) (talk dark) (answers 5) ∧ runs (.memRead (req 7 (memReq 1 0 0))) (talk dark) (answers 0x0D) ∧
      runs (.memRead (req 7 (memReq 1 0 1))) (talk (dark.setDev devStandby)) (answers 1)) ∧
    (runs (.memRead (req 7 (memReq 0 64 1))) (talk ((memState phReady).memPut 64 9#8)) (fun t => answers 0 t && t.hlk.out.all (fun f => f.data.drop 24 == [9#8]))) ∧
    (runs (.memWrite (req 7 (memReq 1 8 1 ++ [5#8]))) (talk dark) (fun t => answers 0 t && t.pmemByte 8 == 5#8) ∧
      runs (.memWrite (req 7 (memReq 1 8 1))) (talk dark) (answers 0x0D) ∧
      runs (.memWrite (req 7 (memReq 1 8 1 ++ [5#8]))) (talk (dark.setDev devFault)) (answers 1) ∧
      runs (.memWrite (req 7 (memReq 1 (2 ^ 22) 1 ++ [5#8]))) (talk dark) (answers 5) ∧
      runs (.memWrite (req 7 (memReq 0 64 1 ++ [5#8]))) (talk (memState phReady)) (fun t => answers 0 t && t.memByte 64 == 5#8)) := by
  refine ⟨?_, ?_, ?_, ?_, ?_, ?_, ?_, ?_, ?_⟩ <;> decide +kernel

theorem witness_BlockReads :
    (blockBad (blkReq 7 64 1) = false ∧ runs (.blockRead (req 7 (blkReq 7 64 1))) (talk dark) (fun t => answers 0 t && t.blks.length == 1) ∧
      runs (.blockRead (req 7 (blkReq 8 64 1))) (talk dark) (answers 0x0D) ∧ runs (.blockRead (req 7 (blkReq 7 63 1))) (talk dark) (answers 0x0D) ∧
      runs (.blockRead (req 7 (blkReq 7 64 (2 ^ 22 + 1)))) (talk dark) (answers 5) ∧
      runs (.blockRead (req 7 (blkReq 7 64 1))) (talk (dark.setDev devStandby)) (answers 1) ∧
      runs (.blockRead (req 7 (blkReq 3 64 1))) { talk dark with blks := [plainBlk] } (answers 0x0F)) ∧
    (runs (.blockCancel (req 7 [3#8, 0#8, 0#8, 0#8])) { talk dark with blks := [plainBlk] } (fun t => (t.blkOf 2 3).isNone) ∧
      runs (.blockCancel (req 7 [8#8, 0#8, 0#8, 0#8])) (talk dark) (answers 0) ∧ runs (.blockCancel (req 7 [7#8, 0#8, 0#8])) (talk dark) (answers 0x0D)) ∧
    (let ack (n : Nat) := req 7 ([3#8, 0#8, 0#8, 0#8] ++ leBytes 4 n);
    let s := { talk dark with blks := [{ plainBlk with next := 1 }] };
    runs (.dataAck (ack 1)) s (fun t => (t.blkOf 2 3).any (fun b => b.cum == 1)) ∧ runs (.dataAck (ack 2)) s (fun t => t == received 2 s) ∧
      runs (.dataAck (ack 1)) (talk dark) (fun t => t == received 2 (talk dark)) ∧
      runs (.dataAck (ack 1)) { s with blks := [{ plainBlk with next := 1, last := some (0, 0) }] } (fun t => (t.blkOf 2 3).isNone)) ∧
    (let s := { talk dark with blks := [plainBlk] };
    runs (.dataSend 2 3) s (fun t => t.hlk.out.length == 1 && (t.blkOf 2 3).any (fun b => b.next == 1 && b.last.isNone)) ∧
      runs (.dataSend 2 3) { s with blks := [{ plainBlk with next := 1, cum := 1 }] } (fun t => (t.blkOf 2 3).any (fun b => b.last.isSome)) ∧
      same (.dataSend 2 3) (s.setHif 0 { held := true, pause := 1 }) ∧ same (.dataSend 2 3) dark ∧ same (.dataRto 2 3) dark ∧ same (.dataRto 2 3) s) ∧
    (let b : BlkStream := { plainBlk with next := 1 };
    let s := { talk dark with blks := [b], rt := dark.get Reg.HLK_RTO F.HLK_RTO_DATA * tickUs };
    runs (.dataRto 2 3) s (fun t => t.rn Reg.HLK_RETXCNT == 1 && t.hlk.out.length == 1) ∧ same (.dataRto 2 3) { s with rt := s.rt - 1 } ∧
      runs (.dataRto 2 3) { s with blks := [{ b with timeouts := 15 }] } (fun t =>
        t.on Reg.HLK_FLAGS F.HLK_FLAGS_STREAM_TIMEOUT && (t.blkOf 2 3).any (fun b => b.last == some (1, 0x12)))) := by
  refine ⟨?_, ?_, ?_, ?_, ?_⟩ <;> decide +kernel

theorem witness_GroupCommands :
    (runs (.arm (req 7 (order 0 0 0))) (talk dark) (answers 0x0D) ∧ runs (.halt (req 7 (order 2 1 0))) (talk dark) (answers 0x0D) ∧
      runs (.stop (req 7 (order 1 1 0))) (talk dark) (fun t => answers 1 t && t.on Reg.HLK_ERR F.HLK_ERR_STATE)) ∧
    (let s := (dark.put Reg.CHN_STATUS F.CHN_STATUS_ROOT 1).put Reg.CHN_STATUS F.CHN_STATUS_STATE 2;
    (s.root && s.chnFormed) = true ∧ runs (.arm (req 7 (order 1 1 0))) (talk s) (fun t => t.chn.cmds.length == 1 && t.hlk.out == [])) ∧
    (runs (.arm (req 7 (order 0 1 0))) (talk (dark.setDev devUnconfigured)) (answers 1) ∧ armStatus (received 2 (talk dark)) 0 ≠ 0 ∧
      runs (.arm (req 7 (order 0 1 0))) (talk dark) (answers (armStatus (received 2 (talk dark)) 0))) ∧
    (let s := talk (dark.setGst 15 gArmed); haltStatus (received 2 s) 15 = 0 ∧
      runs (.halt (req 7 (order 0 0x8000 0))) s (fun t => answers 0 t && t.gst 15 == gHalting) ∧
      runs (.stop (req 7 (order 0 0x8000 0))) s (fun t => answers 0 t && t.gst 15 == gStopped)) ∧
    (let u := received 2 (talk (dark.setGst 15 gArmed)); u.trigs 15 = [] ∧ u.openRing 15 = none ∧ u.gst 15 ≠ gArming) ∧
    (dark.chn.cmds = [] ∧ same .chainCmdApply dark) ∧
    (let s (op at' g : Nat) := { (dark.setGst 15 g) with tick := 1000, chn := { dark.chn with cmds := [heldCmd op at'] } };
    same .chainCmdApply (s 2 1001 gArmed) ∧ runs .chainCmdApply (s 2 1000 gArmed) (fun t => t.gst 15 == gHalting && t.chn.cmds == []) ∧
      runs .chainCmdApply (s 3 999 gArmed) (fun t => t.gst 15 == gStopped) ∧ (runGroupOp 2 0x8000 (s 2 1000 gStopped)).1.isSome = true ∧
      runs .chainCmdApply (s 2 1000 gStopped) (fun t => t.gst 15 == gStopped && t.chn.cmds == [])) := by
  refine ⟨?_, ?_, ?_, ?_, ?_, ?_, ?_⟩ <;> decide +kernel

theorem witness_DeviceCommands :
    (runs (.standby (req 7 [])) (talk dark) (answers 0x0D) ∧ runs (.standby (req 7 (order 0 0 0))) (talk (dark.setDev devFault)) (answers 1) ∧
      runs (.standby (req 7 (order 0 0 0))) (talk (dark.setGst 3 gArmed)) (answers 1) ∧
      runs (.imageUnload (req 7 (order 0 0 0))) (talk (dark.setGst 3 gArmed)) (answers 1)) ∧
    (let s := talk dark; s.dev = devConfigured ∧ s.groupNot [gStopped, gHalted, gUnused] = none ∧ standbyStatus (received 2 s) ≠ 0x17 ∧
      runs (.standby (req 7 (order 0 0 0))) s (fun t => t.pwr.asked && t.hlk.out == [])) ∧
    (runs (.wake (req 7 (order 0 0 0))) (talk (dark.setDev devStandby)) (fun t => t.pwr.waking == some (0, true) && t.hlk.out == []) ∧
      runs (.wake (req 7 (order 0 0 0))) (talk dark) (answers 1)) ∧
    (let s := talk (dark.setDev devUnconfigured); s.dev = devUnconfigured ∧ (imageLoad 0 (received 2 s)).1 ≠ 0 ∧
      runs (.imageLoad (req 7 (order 0 0 0))) s (answers 0x13) ∧ runs (.regionLoad (req 7 (order 0 0 0))) (talk dark) (answers 0x13)) ∧
    (let s := talk loadable; s.dev = devUnconfigured ∧ (imageLoad 1 (received 2 s)).1 = 0) ∧
    (let s := talk dark; s.dev = devConfigured ∧ s.groupNot atRest = none ∧
      runs (.imageUnload (req 7 (order 0 0 0))) s (fun t => answers 0 t && t.dev == devUnconfigured) ∧ Expected 0x30 (ofOp 0x22 (req 7 (order 0 0 0))) 2 aSession s) ∧
    (same (.systemReset (req 7 (order 0 0 1))) (talk dark) ∧ same (.warmReset (req 7 (order 0 0 0))) (talk dark) ∧
      runs (.systemReset (req 7 (order 0 0 2))) (talk dark) (answers 0x0D) ∧
      runs (.systemReset (req 7 (order 0 0 0))) (talk dark) (fun t => t.dev == devBoot && answers 0 t && t.rn Reg.DEV_RESET_CAUSE == 4) ∧
      runs (.warmReset (req 7 (order 0 0 1))) (talk dark) (fun t => t.tick == dark.tick && status t == some 0)) := by
  refine ⟨?_, ?_, ?_, ?_, ?_, ?_, ?_⟩ <;> decide +kernel

/-! ### Witnesses: chain, ticks, reserved addresses, every step -/

/-- The chain links that are up, on a device that is the root or not. -/
def chained (up down root : Bool) : State :=
  ((dark.put Reg.CHN_STATUS (linkFld 0) (b2n up)).put Reg.CHN_STATUS (linkFld 1) (b2n down)).put Reg.CHN_STATUS F.CHN_STATUS_ROOT (b2n root)
def queued (i : Nat) (t : State) : Bool := (t.port i).msgQ.length == 1
def cellOf (l : List Byte) : Cell := ⟨1#8, 0#8, l ++ List.replicate (10 - l.length) 0#8⟩
def held' (at' : Nat) : ChnCmd := { op := 3, cseq := 1, groups := 0x8000, at_ := at' }

theorem witness_ChainLinks :
    (same (.chainLinkUp 0 9) (chained true false false) ∧ runs (.chainLinkUp 0 255) (chained false false false) (fun t =>
      t.linkUp 0 && t.get Reg.CHN_EYE (eyeFld 0) == 255 && t.on Reg.CKS_STATUS F.CKS_STATUS_CHREF_OK)) ∧
    (same (.chainLinkUp 1 9) ((chained false false true).put Reg.CHN_CTL F.CHN_CTL_DOWN_EN 0) ∧
      runs (.chainLinkUp 1 255) (chained false false true) (fun t => t.chn.enumAt == some (1000 * tickUs)) ∧
      runs (.chainLinkUp 1 255) (chained true false false) (queued 0) ∧ runs (.chainLinkUp 1 0) (chained true false false) (fun t => !t.linkUp 1 && t.on Reg.CHN_FLAGS F.CHN_FLAGS_LINK_DOWN)) ∧
    (same (.chainLinkDown 0) dark ∧ runs (.chainLinkDown 1) (chained false true true) (fun t => !t.linkUp 1 && t.on Reg.CHN_FLAGS F.CHN_FLAGS_LINK_DOWN)) ∧
    (let s := (chained true false false).put Reg.CKS_REF_CTL F.CKS_REF_CTL_FALLBACK 0 |>.put Reg.CKS_STATUS F.CKS_STATUS_ACTIVE_SRC 1;
    runs (.chainLinkDown 0) s (fun t => !t.root && t.get Reg.CHN_STATUS F.CHN_STATUS_STATE == 0)) ∧
    (same (.idleCell 0 1 1 true 9) dark ∧ runs (.idleCell 0 0 17 true 9) (chained true false false) (fun t => (t.port 0).credit == 16 && (t.port 0).peerAligned)) ∧
    (let s := (chained true false false).setPort 0 { unacked := [⟨[1#8], false⟩, ⟨[2#8], false⟩], txSeq := 2 };
    runs (.idleCell 0 1 4 false 9) s (fun t => (t.port 0).unacked == [⟨[2#8], false⟩]) ∧
      runs (.idleCell 0 2 4 false 9) s (fun t => (t.port 0).unacked == []) ∧ runs (.idleCell 0 0 4 false 9) s (fun t => (t.port 0).unacked.length == 2)) ∧
    (let s := (chained false true true).put Reg.CHN_EYE (eyeFld 1) 255;
    0 < s.get Reg.CHN_EYE_MIN F.CHN_EYE_MIN_MIN ∧ runs (.idleCell 1 0 0 false 0) s (fun t => !t.linkUp 1)) ∧
    (let p : ChnPort := { unacked := [⟨[1#8], false⟩] };
    let s := { (chained false true true).setPort 1 p with rt := 2 * tickUs };
    runs (.cellResend 1) s (fun t => (t.port 1).again == some 0 && (t.port 1).rounds == 1) ∧ same (.cellResend 1) { s with rt := 2 * tickUs - 1 } ∧
      runs (.cellResend 1) (s.setPort 1 { p with rounds := 8 }) (fun t => !t.linkUp 1) ∧ same (.cellResend 1) (chained false true true)) ∧
    (same (.badCell 1 none) dark ∧ runs (.badCell 1 none) (chained false true true) (fun t => t.rn Reg.CHN_CRCERR == 1 && t.linkUp 1) ∧
      runs (.badCell 1 none) ((chained false true true).setPort 1 { bad := List.replicate 15 0 }) (fun t => !t.linkUp 1) ∧
      runs (.badCell 1 (some 0)) (chained false true true) (fun t => (t.port 1).rxSeq == 1) ∧ same (.badCell 1 (some 1)) (chained false true true)) ∧
    (let c := leBytes 3 2 ++ leBytes 5 64 ++ leBytes 1 0 ++ leBytes 4 100;
    same (.triggerCell 0 c) dark ∧ runs (.triggerCell 0 c) (chained true true false) (fun t =>
      t.rn Reg.CHN_TRIGRX == 1 && t.chn.await == [⟨2, 164, 64 * 256⟩] && (t.port 1).trigQ == [c]) ∧
      runs (.triggerCell 0 c) ((chained true true false).setPort 1 { trigQ := List.replicate 16 [] }) (fun t => t.rn Reg.CHN_TRIGDROP == 1) ∧
      same (.triggerCell 0 c) ((chained true true false).setPort 0 { prevTrig := some c })) ∧
    ((acceptMsg 0 0 (chained true false false)).isSome = true ∧ (acceptMsg 1 0 (chained true false false)).isNone = true ∧
      same (.enumReturn (cellOf [])) (chained true false false) ∧ runs (.config (cellOf [])) (chained true false false) (fun t => (t.port 0).rxSeq == 1)) ∧
    (let s := ((chained true true true).put Reg.CHN_EYE (eyeFld 1) 255).put Reg.CHN_EYE_MIN F.CHN_EYE_MIN_MIN 1;
    s.get Reg.CHN_EYE_MIN F.CHN_EYE_MIN_WARN ≤ s.get Reg.CHN_EYE (eyeFld 1) ∧ 1 < s.get Reg.CHN_EYE_MIN F.CHN_EYE_MIN_WARN ∧
      runs (.idleCell 1 0 0 false 1) s (fun t => t.linkUp 1 && t.get Reg.CHN_EYE (eyeFld 1) == 1 && t.on Reg.CHN_FLAGS F.CHN_FLAGS_EYE_LOW)) ∧
    (let s := { (chained true false false).put Reg.CKS_STATUS F.CKS_STATUS_ACTIVE_SRC 1 with chn := { dark.chn with inRounds := 16 } };
    runs (.idleCell 0 0 4 true 255) s (fun t => t.on Reg.CHN_STATUS F.CHN_STATUS_TB_ALIGNED)) ∧
    (let c := leBytes 3 2 ++ leBytes 5 64 ++ leBytes 1 0 ++ leBytes 4 100;
    runs (.triggerCell 0 c) { chained true true false with tick := 165 } (fun t => t.on Reg.CHN_FLAGS F.CHN_FLAGS_TRIG_LATE) ∧
      runs (.triggerCell 0 c) { chained true true false with tick := 164 } (fun t => !t.on Reg.CHN_FLAGS F.CHN_FLAGS_TRIG_LATE)) := by
  refine ⟨?_, ?_, ?_, ?_, ?_, ?_, ?_, ?_, ?_, ?_, ?_, ?_, ?_, ?_⟩ <;> decide +kernel

theorem witness_ChainForms :
    (let s := { dark with clk := { dark.clk with released := true }, rt := 10000 * tickUs };
    s.chnAddr = 0 ∧ s.root = false ∧ runs .rootSearchEnd s (fun t => t.root && t.chnAddr == 1 && t.chnFormed && t.rn Reg.CHN_RELEASE == 3072) ∧
      same .rootSearchEnd { s with rt := 10000 * tickUs - 1 }) ∧
    (runs .reenum (chained false true true) (fun t => t.rn Reg.CHN_GEN == 1 && t.chn.enumStep == 1 && queued 1 t) ∧ same .reenum dark ∧
      same .enumerationStart dark ∧ same .enumerationStart (chained false true true)) ∧
    (let s (x : Nat) := { chained false true true with chn := { dark.chn with enumAt := some x } };
    runs .enumerationStart (s 0) (fun t => t.rn Reg.CHN_GEN == 1) ∧ same .enumerationStart (s 1)) ∧
    (let c := cellOf (leBytes 8 2 ++ leBytes 2 7);
    runs (.enumClaim c false) (chained true true false) (fun t => t.chn.claimGen == 7 && queued 1 t) ∧
      runs (.enumClaim c false) (chained true false false) (queued 0)) ∧
    (let c := cellOf (leBytes 8 2 ++ leBytes 2 7);
    let s := ((chained true true false).put Reg.CHN_STATUS F.CHN_STATUS_ADDR 5).setGst 0 gArmed;
    s.anyRunning = true ∧ s.chnAddr = 5 ∧ runs (.enumClaim c false) s (fun t => t.chn.claim == some (5, true) && (t.port 1).msgQ == [messageOut 1 1 (leBytes 8 34 ++ leBytes 2 7)]) ∧
      runs (.enumClaim (cellOf (leBytes 8 34 ++ leBytes 2 7)) true) s (fun t => t.chn.claim == none) ∧
      runs (.enumClaim (cellOf (leBytes 8 34 ++ leBytes 2 7)) false) s (fun t => t.chn.claim == some (5, true))) ∧
    (let s := { chained true true false with nv := { dark.nv with addr := some 9 } };
    s.on Reg.CHN_CTL F.CHN_CTL_STICKY = true ∧ s.anyRunning = false ∧
      runs (.enumClaim (cellOf (leBytes 8 2 ++ leBytes 2 7)) false) s (fun t => t.chn.claim == some (9, false))) ∧
    (let s (cl : Option (Nat × Bool)) := { (chained true true false).put Reg.CHN_CTL F.CHN_CTL_STICKY 0 with chn := { dark.chn with claim := cl, claimGen := 7 } };
    let c := cellOf (leBytes 8 2 ++ leBytes 2 7);
    runs (.enumAssign c false) (s none) (fun t => t.chnAddr == 2 && (t.port 1).msgQ == [messageOut 3 1 (leBytes 8 6 ++ leBytes 2 7)]) ∧
      runs (.enumAssign c true) (s (some (9, true))) (fun t => t.chnAddr == 9) ∧
      runs (.enumAssign c true) (s (some (9, false))) (fun t => t.chnAddr == 2) ∧
      runs (.enumAssign (cellOf (leBytes 8 (2 ^ 64 - 1) ++ leBytes 2 7)) false) (s none) (fun t => t.chnAddr == 0 && t.on Reg.CHN_FLAGS F.CHN_FLAGS_CHAIN_FULL)) ∧
    (let c := cellOf (leBytes 8 2 ++ leBytes 2 7);
    runs (.enumAssign c false) (chained true true false) (queued 1) ∧ (takeAddr 2 false (some (63, true))).1 < 64) ∧
    (let c := cellOf (leBytes 2 7 ++ leBytes 1 63 ++ leBytes 4 5000);
    runs (.config c) (chained true true false) (fun t => t.rn Reg.CHN_GEN == 7 && t.rn Reg.CHN_RELEASE == 5000 && t.chnFormed &&
      t.get Reg.CHN_STATUS F.CHN_STATUS_COUNT == 63)) ∧
    (let c := cellOf (leBytes 8 2 ++ leBytes 2 7);
    let r := { (chained false true true).wn Reg.CHN_GEN 7 with chn := { dark.chn with enumStep := 1 } };
    runs (.enumReturn c) (chained true true false) (queued 0) ∧ runs (.enumReturn c) r (fun t => t.chn.enumStep == 2 && queued 1 t)) ∧
    (let c := cellOf (leBytes 1 1 ++ leBytes 4 512 ++ leBytes 2 7);
    let r := { (chained false true true).wn Reg.CHN_GEN 7 with chn := { dark.chn with enumStep := 2 } };
    runs (.enumDone c) (chained true true false) (queued 0) ∧
      runs (.enumDone c) r (fun t => t.chnFormed && t.get Reg.CHN_STATUS F.CHN_STATUS_COUNT == 2 && t.rn Reg.CHN_RELEASE == 2048 + 512 + 3932 + 1024)) ∧
    (runs (.topo (cellOf [])) (chained false true true) (fun t => t.chn.enumAt == some (1000 * tickUs)) ∧ runs (.topo (cellOf [])) (chained true true false) (queued 0)) := by
  refine ⟨?_, ?_, ?_, ?_, ?_, ?_, ?_, ?_, ?_, ?_, ?_, ?_⟩ <;> decide +kernel

theorem witness_ChainTimeAndMessages :
    (same .timeExchangeStart dark ∧ runs .timeExchangeStart { chained true false false with rt := 16 * 2048 } (fun t => (t.port 0).timeQ == [none]) ∧
      same .timeExchangeStart { chained true false false with rt := 16 * 2048 - 1 }) ∧
    (same (.timeReq 0) dark ∧ runs (.timeReq 1) { chained false true true with tick := 9 } (fun t => (t.port 1).timeQ == [some (9 * 256 - 1)])) ∧
    (same (.timeRsp 0 0 0 0) dark ∧ runs (.timeRsp 100 0 256 0) { chained true false false with tick := 9, chn := { dark.chn with t1 := some 256 } }
      (fun t => t.chn.exch == 1 && t.chn.sumD == 9 * 256 - 256 - 256)) ∧
    (same .alignmentRoundEnd dark ∧ runs .alignmentRoundEnd { dark with chn := { dark.chn with exch := 256, sumD := 512, sumO := -512 } } (fun t =>
      t.rn Reg.CHN_OFFSET == 2 ^ 32 - 1 && t.rn Reg.CHN_HOP == 1 && t.chn.exch == 0 && t.chn.inRounds == 0)) ∧
    (let s (o : Int) := { ((chained true false false).put Reg.CKS_STATUS F.CKS_STATUS_ACTIVE_SRC 1 |>.put Reg.CKS_STATUS F.CKS_STATUS_LOCKED 1).put
      Reg.CHN_STATUS F.CHN_STATUS_TB_ALIGNED 1 with tick := 9, chn := { dark.chn with exch := 256, sumO := 512 * o, inRounds := 15, outRounds := 3 } };
    KeepsTime (s 0) ∧ runs .alignmentRoundEnd (s 32) (fun t => t.chn.inRounds == 16 && t.chn.outRounds == 0 && t.chn.slew == 16 && t.tick == 9) ∧
      runs .alignmentRoundEnd (s (-97)) (fun t => t.chn.outRounds == 4 && t.chn.slew == -16 && !t.on Reg.CHN_STATUS F.CHN_STATUS_TB_ALIGNED) ∧
      runs .alignmentRoundEnd (s 256) (fun t => t.tick == 10 && t.on (Reg.CKS_OUT 8) F.CKS_OUT_GATED && t.rn Reg.CKS_EPOCH == dark.rn Reg.CKS_EPOCH + 1) ∧
      runs .alignmentRoundEnd ((s 256).setGst 0 gArmed) (fun t => t.tick == 9 && t.on Reg.CHN_STATUS F.CHN_STATUS_ALIGN_WAIT) ∧
      runs .alignmentRoundEnd ((s 16).setPort 0 { peerAligned := true }) (fun t => t.on Reg.CHN_STATUS F.CHN_STATUS_TB_ALIGNED)) ∧
    (let s := { ((chained true false false).put Reg.CHN_STATUS F.CHN_STATUS_ALIGN_WAIT 1).put Reg.CKS_STATUS F.CKS_STATUS_ACTIVE_SRC 1 |>.put
      Reg.CKS_STATUS F.CKS_STATUS_LOCKED 1 with tick := 9, chn := { dark.chn with off := 256 } };
    s.chainLocked = true ∧ runs .deferredStep s (fun t => t.tick == 10) ∧ same .deferredStep (s.setGst 0 gArmed) ∧ same .deferredStep dark) ∧
    (runs .realign { dark with chn := { dark.chn with exch := 5 } } (fun t => t.chn.exch == 0) ∧
      runs .chnCntclr (dark.wn Reg.CHN_RETX 4) (fun t => t.rn Reg.CHN_RETX == 0) ∧
      runs .revtInfoRead { dark with chn := { dark.chn with revt := [⟨1, 2⟩, ⟨3, 4⟩] } } (fun t => t.chn.revt == [⟨3, 4⟩])) ∧
    (let s := (chained false true true).put Reg.CHN_PTP_CTL F.CHN_PTP_CTL_ROLE 2;
    s.ptpMaster = true ∧ runs (.mapRateWrite 5) { s with tick := 9 } (fun t => t.rn Reg.CHN_MAP_RATE == 5 && t.rd64 Reg.CHN_MAP_TICK_LO == 9) ∧
      same (.mapRateWrite 5) dark) ∧
    (let s := { chained false true true with rt := 1000000 * tickUs };
    runs .ptpmapBroadcast s (fun t => t.chn.mapSeq == 1 && (t.port 1).msgQ.length == 3) ∧ same .ptpmapBroadcast { s with rt := s.rt - 1 } ∧
      same .ptpmapBroadcast dark) ∧
    (let s := { chained false true true with tick := 1000 * tickUs + 1, chn := { dark.chn with cmdAt := 1 } };
    runs .cmdDoneTimeout s (fun t => t.on Reg.CHN_CMDSTAT F.CHN_CMDSTAT_TIMEOUT) ∧ same .cmdDoneTimeout { s with tick := 1000 * tickUs } ∧ same .cmdDoneTimeout dark) ∧
    (let c := cellOf (leBytes 2 100 ++ leBytes 1 5 ++ leBytes 7 77);
    runs (.eventCell c) (chained true true false) (queued 0) ∧ runs (.eventCell c) (chained false true true) (fun t => t.chn.revt.map Revt.ts == [77]) ∧
      runs (.cmdRes c) (chained true true false) (queued 0) ∧ runs (.cmdRes c) (chained false true true) (fun t => t.rd (Reg.CHN_RES 1) == dark.rd (Reg.CHN_RES 1))) ∧
    (runs (.cmdRes (cellOf [])) (chained false true true) (fun t => t.on (Reg.CHN_RES 1) F.CHN_RES_VALID && t.on Reg.CHN_CMDSTAT F.CHN_CMDSTAT_DONE)) ∧
    (let c := cellOf (leBytes 1 3 ++ leBytes 1 1 ++ leBytes 2 0x8000 ++ leBytes 6 99);
    runs (.cmd c) (chained true true false) (fun t => t.chn.cmds == [{ held' 99 with late := false }] && queued 1 t)) ∧
    (let c (at' : Nat) := cellOf (leBytes 6 at' ++ leBytes 4 3);
    32768 ≤ tickDiff (extendTicks 48 (leAt (c 32768).data 0 6) dark.tick) dark.tick ∧
      runs (.snap (c 32767)) (chained true true false) (fun t => t.rn Reg.MON_SNAP_SEQ == 3 && t.on Reg.MON_FLAGS F.MON_FLAGS_SNAP_MISSED)) ∧
    (let s := { ((chained false true true).put Reg.CHN_CMDSTAT F.CHN_CMDSTAT_CSEQ 9).put Reg.CHN_CMDSTAT F.CHN_CMDSTAT_NREP 1 with chn := { dark.chn with cseq := 9 } };
    runs (.cmdRes (cellOf [8#8])) s (fun t => t == cellTaken 1 s) ∧
      runs (.cmdRes (cellOf [9#8, 1#8, 2#8, 0xF7#8, 5#8, 1#8])) (s.put Reg.CHN_STATUS F.CHN_STATUS_COUNT 4) (fun t => t.rn (Reg.CHN_RES 1) == 0xC0050701 &&
        t.get Reg.CHN_CMDSTAT F.CHN_CMDSTAT_NREP == 2 && !t.on Reg.CHN_CMDSTAT F.CHN_CMDSTAT_DONE)) ∧
    ((acceptMsg 0 0 (chained true true false)).isSome = true ∧ runs (.snap (cellOf (leBytes 6 40000))) (chained true true false) (queued 1)) ∧
    (let s := { chained true false false with chn := { dark.chn with mapSeq := 4, mapParts := [(0, leBytes 8 9), (1, leBytes 8 6)] } };
    runs (.ptpmap (cellOf (leBytes 1 4 ++ leBytes 1 2 ++ leBytes 4 7 ++ leBytes 4 8))) s (fun t =>
      t.on Reg.CHN_PTP_CTL F.CHN_PTP_CTL_MAP_VALID && t.rd64 Reg.CHN_MAP_TICK_LO == 9 && t.rn Reg.CHN_MAP_RATE == 8) ∧
      runs (.ptpmap (cellOf [5#8])) s (fun t => t.chn.mapSeq == 5 && t.regs == s.regs)) := by
  refine ⟨?_, ?_, ?_, ?_, ?_, ?_, ?_, ?_, ?_, ?_, ?_, ?_, ?_, ?_, ?_, ?_, ?_⟩ <;> decide +kernel

theorem witness_TickFieldsExtend :
    extendTicks 40 (2 ^ 40 - 1) (2 ^ 40) = 2 ^ 40 - 1 ∧ extendTicks 40 0 (2 ^ 64 - 1) = 0 ∧ extendTicks 1 1 0 % 2 = 1 := by
  decide +kernel

theorem witness_ReservedAddresses :
    (blockOf 0xFFFC).isSome = true ∧ rowOf 0xFFFC = none ∧ live.standbyBlocked 0xFFFC = false ∧ blockOf (2 ^ 32 - 4) = none := by
  decide +kernel

theorem witness_RemoteEventFifo :
    (let c := cellOf (leBytes 2 100 ++ leBytes 1 5 ++ leBytes 7 77);
    let s := chained false true true;
    s.root = true ∧ s.linkUp 1 = true ∧ c.lseq.toNat = (s.port 1).rxSeq ∧ (s.port 0).msgQ.length < 16 ∧ s.chn.revt = [] ∧
      s.on Reg.CHN_REVT_INFO F.CHN_REVT_INFO_VALID = false) ∧
    (let c := cellOf (leBytes 2 100 ++ leBytes 1 5 ++ leBytes 7 77);
    let s := chained false true true;
    same (.eventCell c) { s with chn := { s.chn with revt := List.replicate 256 ⟨0, 0⟩ } } ∧
      runs (.eventCell c) s (fun t => t.rd64 Reg.CHN_REVT_TS_LO == 77 && t.on Reg.CHN_REVT_INFO F.CHN_REVT_INFO_VALID)) := by
  refine ⟨?_, ?_⟩ <;> decide +kernel

theorem witness_StepRunsFrontCommand :
    z.pending = [] ∧ { z with pending := [.force 0] }.pending = [.force 0] := by
  decide +kernel

theorem witness_HostWritesInStandby :
    let s := (inDev devStandby).wn Reg.PWR_DOM_CTL 0;
    hostRegOf (.portEnable 0 0) = some (Reg.FCH_CTL 0) ∧ s.standbyBlocked (Reg.FCH_CTL 0) = true ∧
      runs (.portEnable 0 0) s (fun t => t.on Reg.HLK_ERR F.HLK_ERR_STATE && t.rn Reg.HLK_REFUSED_ADDR == Reg.FCH_CTL 0 && t.fchState 0 == 0) := by
  decide +kernel

theorem witness_StepKeepsCanonical :
    z.pending = [] ∧ sparseWf resetWord z.regs = true ∧ keysRising z.mem.cells = true ∧ sparseWf (fun _ => 0#8) z.pmem = true := by
  decide +kernel

/-! ### Worked numbers of the spec -/

/-- DCF05 of the worked example of 05_filter_chains.md: DC blocker, HB63, HB47, resampler at 1.25; FAI02 in 10.24 GS/s. -/
def hydrophone : State :=
  ((((((z.put (Reg.DCF_CTL 5) F.DCF_CTL_SRC 2).put (Reg.DCF_CTL 5) F.DCF_CTL_NSTAGE 2).put (Reg.DCF_CTL 5) F.DCF_CTL_RS_EN 1).wn
    (Reg.DCF_STAGE 5) 8).wn (Reg.DCF_RS_RATIO 5) 0xA0000000).put (Reg.DCF_DCB_CTL 5) F.DCF_DCB_CTL_EN 1).put
    (Reg.DCF_DCB_CTL 5) F.DCF_DCB_CTL_A 4 |>.put (Reg.DCF_DCB_CTL 5) F.DCF_DCB_CTL_BLK 14

theorem test_filter_chain_example :
    (hydrophone.groupDelay 5 = 446336) ∧
    (hydrophone.chainLatency 5 = 5072) ∧
    (hydrophone.settleCount 5 = 285125) ∧
    ((hydrophone.put (Reg.DCF_DCB_CTL 5) F.DCF_DCB_CTL_FREEZE 1).settleCount 5 = 43) := by
  refine ⟨?_, ?_, ?_, ?_⟩ <;> decide +kernel

theorem test_crc32_check_value :
    crc32 ascii123456789 = 0xCBF43926 := by
  decide +kernel

theorem test_photodiode_group_begins :
    (codeSamples 12 1 [103, 101] (0, 0) { x1 := 100, x2 := 98, k := 2 }).1 = (0x69, 7) := by
  decide +kernel

theorem test_drop_tower_slot :
    let d : StreamDef := ⟨2, 0, 3, 0, 0, 0, 0, 0, 0⟩;
    let e : StreamDef := ⟨2, 1, 3, 3, 6, 0, 1, 0, 0⟩;
    let r := layout z 9830400 896 [d, e];
    r.1.map StreamDef.cap = [614416, 19264] ∧ r.1.map StreamDef.off = [896, 922560] ∧ r.2 = 965952 ∧ slotSizeOf r.2 = 966656 := by
  decide +kernel

end Sys2Proof.Tests
end

section
/-! LEMMAS AND PROOF. The refusals of a register access that do not depend on the block's rules, and what a read and a write
answer where the address holds no register and where it lies outside every block (00_scope.md R20). -/
namespace Sys2Proof.Machine

/-! ### The check of an access -/

theorem accessCheck_of_noBlock {a : Nat} (h : blockOf a = none) (s : State) : accessCheck a s = .address := by
  simp [accessCheck, firstOf, h]

theorem accessCheck_of_block {a : Nat} {s : State} (hblock : (blockOf a).isSome = true) (halign : a % 4 = 0)
    (hon : s.standbyBlocked a = false) : accessCheck a s = .ok := by
  have hin : (blockOf a).isNone = false := Option.isNone_eq_false_iff.mpr hblock
  simp [accessCheck, firstOf, hin, halign, hon]

/-! ### A read and a write by the answer of the check -/

theorem readReg_of_address {a : Nat} {s : State} (h : accessCheck a s = .address) :
    readReg a s = (.address, 0#32, s.report a .address) := by
  simp [readReg, h]

theorem writeReg_of_address {a : Nat} {s : State} (h : accessCheck a s = .address) (v : Word) (sess : Nat) (auth : Bool) :
    writeReg a v sess auth s = (.address, s.report a .address) := by
  simp [writeReg, h]

theorem readReg_of_noRow {a : Nat} {s : State} (h : accessCheck a s = .ok) (hrow : rowOf a = none) :
    readReg a s = (.ok, 0#32, s) := by
  simp [readReg, h, hrow]

theorem writeReg_of_noRow {a : Nat} {s : State} (h : accessCheck a s = .ok) (hrow : rowOf a = none) (v : Word) (sess : Nat)
    (auth : Bool) : writeReg a v sess auth s = (.ok, s) := by
  simp [writeReg, h, hrow]

/-- The report of an address outside every block touches HLK_ERR alone, where `State.rd_report` leaves out two more registers. -/
theorem State.rd_report_address_ne (s : State) (a : Nat) {b : Nat} (h : b ≠ Reg.HLK_ERR) :
    (s.report a .address).rd b = s.rd b :=
  State.rd_setFlag_ne s h F.HLK_ERR_ADDRESS

end Sys2Proof.Machine

namespace Sys2Proof
open Sys2Proof.Machine

/-- Settles O56: inside a block the check passes and the missing row decides; outside every block the check refuses. -/
theorem reservedAddresses : Obligations.ReservedAddresses := by
  intro a v sess auth s
  constructor
  · intro hblock halign hrow hon
    have hok := accessCheck_of_block hblock halign hon
    exact ⟨readReg_of_noRow hok hrow, writeReg_of_noRow hok hrow v sess auth⟩
  · intro hout
    have hbad := accessCheck_of_noBlock hout s
    rw [readReg_of_address hbad, writeReg_of_address hbad]
    exact ⟨rfl, rfl, rfl, fun b hb => s.rd_report_address_ne a hb⟩

end Sys2Proof
end

section
/-! LEMMAS AND PROOF. The signed difference of tick counts and the extension of a tick field (00_scope.md R10, 16_eweone_chain.md
R407) as the library's balanced remainder: the field lies `(v - now).bmod (2 ^ b)` ticks from the tick count `now`, and the balanced
remainder is the smallest representative of its class. -/
namespace Sys2Proof.Machine

/-! ### The signed difference -/

theorem natCast_unsx (w : Nat) (x : Int) : (unsx w x : Int) = x % ((2 ^ w : Nat) : Int) :=
  Int.toNat_of_nonneg (Int.emod_nonneg x (Int.natCast_ne_zero.mpr (Nat.ne_of_gt (Nat.two_pow_pos w))))

/-- An even modulus has one half, rounded up or down. -/
theorem half_two_pow {w : Nat} (hw : 0 < w) : (2 ^ w + 1) / 2 = 2 ^ (w - 1) ∧ 2 ^ w / 2 = 2 ^ (w - 1) := by
  have htwo : 2 ^ (w - 1) * 2 = 2 ^ w := Nat.pow_pred_mul hw
  omega

/-- The balanced remainder where the remainder itself is known as a natural number. -/
theorem bmod_of_emod_eq {w r : Nat} (hw : 0 < w) {x : Int} (hr : x % ((2 ^ w : Nat) : Int) = r) :
    x.bmod (2 ^ w) = if r < 2 ^ (w - 1) then (r : Int) else (r : Int) - ((2 ^ w : Nat) : Int) := by
  obtain ⟨hhalf, _⟩ := half_two_pow hw
  rw [Int.bmod_def, hr]
  split <;> split <;> omega

theorem sext_eq_bmod {w : Nat} (hw : 0 < w) (x : Nat) : sext w x = (x : Int).bmod (2 ^ w) :=
  (bmod_of_emod_eq hw (Int.natCast_emod x (2 ^ w)).symm).symm

theorem tickDiff_eq_bmod (a b : Nat) : tickDiff a b = ((a : Int) - b).bmod (2 ^ 64) := by
  rw [tickDiff, sext_eq_bmod (by decide), natCast_unsx, Int.emod_bmod]

/-! ### The extension of a field -/

/-- The ticks from `now` forward to the next count of the field's class, as `extendTicks` takes them in natural numbers. -/
theorem emod_eq_ticksForward (v now : Nat) {m : Nat} (hm : 0 < m) :
    ((v : Int) - now) % m = ((v + m - now % m) % m : Nat) := by
  have hlt : now % m ≤ v + m := Nat.le_trans (Nat.le_of_lt (Nat.mod_lt now hm)) (Nat.le_add_left m v)
  have hturn : (v : Int) + m - now = (v : Int) - now + m := by omega
  rw [Int.natCast_emod, Int.natCast_sub hlt, Int.natCast_add, Int.natCast_emod, Int.sub_emod_emod, hturn, Int.add_emod_right]

/-- The two branches of `extendTicks` are the two signs of the balanced remainder. -/
theorem natCast_extendTicks {b : Nat} (hb : 0 < b) (hb64 : b ≤ 64) (v now : Nat) :
    (extendTicks b v now : Int) = ((now : Int) + ((v : Int) - now).bmod (2 ^ b)) % ((2 ^ 64 : Nat) : Int) := by
  have hle : 2 ^ b ≤ 2 ^ 64 := Nat.pow_le_pow_right (by decide) hb64
  rw [extendTicks, (half_two_pow hb).2, bmod_of_emod_eq hb (emod_eq_ticksForward v now (Nat.two_pow_pos b)), Int.natCast_emod]
  generalize (v + 2 ^ b - now % 2 ^ b) % 2 ^ b = up
  split
  · rw [Int.natCast_add]
  · rw [← Int.add_emod_right ((now : Int) + _)]
    congr 1
    omega

/-- A balanced remainder is nowhere farther from 0 than the number itself. -/
theorem natAbs_bmod_le (x : Int) {m : Nat} (hm : 0 < m) : (x.bmod m).natAbs ≤ x.natAbs := by
  have hlow := Int.le_bmod (x := x) hm
  have hhigh := Int.bmod_lt (x := x) hm
  by_cases hx : -((m : Int) / 2) ≤ x ∧ x < ((m : Int) + 1) / 2
  · exact Nat.le_of_eq (congrArg Int.natAbs (Int.bmod_eq_of_le hx.1 hx.2))
  · omega

theorem bmod_two_pow_bmod {b c : Nat} (hbc : b ≤ c) (x : Int) : (x.bmod (2 ^ b)).bmod (2 ^ c) = x.bmod (2 ^ b) := by
  have hle : 2 ^ b ≤ 2 ^ c := Nat.pow_le_pow_right (by decide) hbc
  have hlow := Int.le_bmod (x := x) (Nat.two_pow_pos b)
  have hhigh := Int.bmod_lt (x := x) (Nat.two_pow_pos b)
  exact Int.bmod_eq_of_le (by omega) (by omega)

theorem tickDiff_extendTicks {b : Nat} (hb : 0 < b) (hb64 : b ≤ 64) (v now : Nat) :
    tickDiff (extendTicks b v now) now = ((v : Int) - now).bmod (2 ^ b) := by
  rw [tickDiff_eq_bmod, natCast_extendTicks hb hb64, Int.emod_sub_bmod, Int.add_comm, Int.add_sub_cancel, bmod_two_pow_bmod hb64]

theorem extendTicks_lt (b v now : Nat) : extendTicks b v now < 2 ^ 64 :=
  Nat.mod_lt _ (Nat.two_pow_pos 64)

theorem extendTicks_mod {b : Nat} (hb : 0 < b) (hb64 : b ≤ 64) (v now : Nat) : extendTicks b v now % 2 ^ b = v % 2 ^ b := by
  have hdvd : ((2 ^ b : Nat) : Int) ∣ ((2 ^ 64 : Nat) : Int) := Int.natCast_dvd_natCast.mpr (Nat.pow_dvd_pow 2 hb64)
  have hsum : (now : Int) + ((v : Int) - now) = v := by omega
  apply Int.natCast_inj.mp
  rw [Int.natCast_emod, natCast_extendTicks hb hb64, Int.emod_emod_of_dvd _ hdvd, ← Int.add_emod_emod, Int.bmod_emod,
    Int.add_emod_emod, hsum, Int.natCast_emod]

/-- Every tick count of the field's class lies at a difference from `now` whose balanced remainder modulo 2^`b` is the field's. -/
theorem bmod_tickDiff_of_mod_eq {b v w : Nat} (hb64 : b ≤ 64) (hw : w % 2 ^ b = v) (now : Nat) :
    (tickDiff w now).bmod (2 ^ b) = ((v : Int) - now).bmod (2 ^ b) := by
  rw [tickDiff_eq_bmod, Int.bmod_bmod_of_dvd (Nat.pow_dvd_pow 2 hb64), ← hw, Int.natCast_emod, Int.emod_sub_bmod]

theorem natAbs_tickDiff_extendTicks_le {b v w : Nat} (hb : 0 < b) (hb64 : b ≤ 64) (hw : w % 2 ^ b = v) (now : Nat) :
    (tickDiff (extendTicks b v now) now).natAbs ≤ (tickDiff w now).natAbs := by
  rw [tickDiff_extendTicks hb hb64, ← bmod_tickDiff_of_mod_eq hb64 hw]
  exact natAbs_bmod_le _ (Nat.two_pow_pos b)

end Sys2Proof.Machine

namespace Sys2Proof
open Sys2Proof.Machine

/-- Settles O55: the field lies at the balanced remainder of `v - now`, and so at the smallest difference of its class. -/
theorem tickFieldsExtend : Obligations.TickFieldsExtend := by
  intro b v now hb hb64 hv _
  have hle : b ≤ 64 := Nat.le_of_lt hb64
  refine ⟨extendTicks_lt b v now, ?_, fun w _ hw => natAbs_tickDiff_extendTicks_le hb hle hw now⟩
  rw [extendTicks_mod hb hle, Nat.mod_eq_of_lt hv]

end Sys2Proof
end
